-- ==== Sys2Proof/Word.lean ====
section
/-! DEFINITION. Words of the C740: the bytes of the share line and the 16-bit words of the nonvolatile memory. -/

namespace Sys2Proof

/-- A byte of a share line frame (R171). -/
abbrev Byte := BitVec 8

/-- A word of the nonvolatile memory, or a two-byte field of a frame (R141, 10.6). -/
abbrev Word := BitVec 16

end Sys2Proof
end

