-- ==== Sys2Proof/Syntax.lean ====
section
/-! DEFINITION. The commands of the C740: one constructor of `Instr` per row of spec/opcode_table.json.
The table gives no operands; they are what the row's rule needs from outside the part (log 25). -/

namespace Sys2Proof

/-- One item per switch input of Table 8-2. -/
structure Inputs (α : Type) where
  door       : α
  tank       : α
  levelLow   : α
  levelHigh  : α
  tray       : α
  cutout     : α
  probe      : α
  ventClosed : α
deriving DecidableEq, Repr

/-- The kind field of a frame header (R171). -/
inductive FrameKind where
  | claim | command | answer | status
deriving DecidableEq, Repr

/-- A level of the share line (R170): dominant is low, recessive is high. -/
inductive Level where
  | dominant | recessive
deriving DecidableEq, Repr

/-- What ends a reception as an error (R173). -/
inductive ReceptionFault where
  /-- a dominant stop cell -/
  | framing
  /-- a length byte above 16 -/
  | lengthAbove
  /-- a check byte that does not match -/
  | checkMismatch
  /-- a third recessive cell where a start cell is expected -/
  | truncated
deriving DecidableEq, Repr

/-- The commands, in the order of spec/opcode_table.json. A panel command carries the source station of its COMMAND
frame and the payload bytes after the code byte; it is addressed to the part's own number. -/
inductive Instr where
  /-- R188, with the levels of the station and budget straps (R47, R170). -/
  | powerOnReset (station budget : Fin 8)
  /-- R1, with one reading of T_CAV, T_CORE and T_BOIL. -/
  | measurementExpiry (cavity core boiler : Int)
  | controlTimerExpiry
  | runOnTimerExpiry
  | openDriveExpiry
  | closeTravelTimeout
  | slotExpiry
  | listenWindowExpiry
  | claimPeriodExpiry
  | minimumIntervalExpiry
  | raiseHoldOffExpiry
  /-- R56, R174: a CLAIM frame read whole, with its source and its three fields, and the level that the other stations
  make at its acknowledge cell. -/
  | claimReceived (source : Fin 7) (floor want : Word) (cls : Byte) (ack : Level)
  | peerSilent (station : Fin 7)
  | peerLost (station : Fin 7)
  | fillTimeout
  | drainTimerExpiry
  | soakComplete
  | startReadComplete
  | stepReadComplete
  | stepTimeEnd
  | pauseTimerExpiry
  | runTimeCap
  | wakeTimerExpiry
  /-- R141, R142: the erase or word program in flight ends. `kept` lists, by word of the sector, the bits that the
  memory cells failed to change; it is empty when the memory behaves (log 16). -/
  | storeOperationComplete (kept : List (Nat × Word))
  | storeRequestServed
  | storeAbandoned
  /-- R156, with one sample of the eight inputs; `true` is the first-named value of Table 8-2. -/
  | sampleExpiry (pins : Inputs Bool)
  | persistenceExpiry (place : Fin 8)
  /-- R173, with the cells of the reception, from the start cell of its header to the cell that ends it. -/
  | receptionError (cells : List Level)
  /-- R174, with all bytes of the frame read whole, header to check byte, and the level that the other stations make at
  its acknowledge cell. -/
  | frameDiscarded (bytes : List Byte) (ack : Level)
  /-- R176: a frame read whole whose source is the own number, with the level that the other stations make at its
  acknowledge cell. -/
  | ownSourceFrameReceived (kind : FrameKind) (dest : Fin 8) (payload : List Byte) (ack : Level)
  | transmitStart
  /-- R175, with the cell at which the own frame, driven recessive, reads dominant: one of the two kind cells and the
  three source cells, counted from 0. -/
  | arbitrationLoss (bit : Fin 5)
  /-- R176, with the cell of the own frame that is driven recessive and reads dominant, counted from its start cell. -/
  | conflictWhileSending (cell : Nat)
  /-- R178, with the level read. -/
  | acknowledgeCell (read : Level)
  | lineFault
  | lineRestored
  | firstIdleGap
  /-- R185: `code` is none for a frame of length 0. -/
  | unknownCommand (source : Fin 7) (code : Option Byte) (payload : List Byte)
  | configLoads (source : Fin 7) (payload : List Byte)
  | configTerm (source : Fin 7) (payload : List Byte)
  | configDone (source : Fin 7) (payload : List Byte)
  | configuredReached
  | deferredConfigCommand
  | startManual (source : Fin 7) (payload : List Byte)
  | runRecipe (source : Fin 7) (payload : List Byte)
  | adjust (source : Fin 7) (payload : List Byte)
  | pause (source : Fin 7) (payload : List Byte)
  | resume (source : Fin 7) (payload : List Byte)
  | confirm (source : Fin 7) (payload : List Byte)
  | skipStep (source : Fin 7) (payload : List Byte)
  | stop (source : Fin 7) (payload : List Byte)
  | storeOpen (source : Fin 7) (payload : List Byte)
  | storeWrite (source : Fin 7) (payload : List Byte)
  | storeClose (source : Fin 7) (payload : List Byte)
  | storeErase (source : Fin 7) (payload : List Byte)
  | storeRead (source : Fin 7) (payload : List Byte)
  | storeList (source : Fin 7) (payload : List Byte)
  | setHardness (source : Fin 7) (payload : List Byte)
  | descaleStart (source : Fin 7) (payload : List Byte)
  | rinseStart (source : Fin 7) (payload : List Byte)
  | descaleAbort (source : Fin 7) (payload : List Byte)
  | readScale (source : Fin 7) (payload : List Byte)
  | fetchEvents (source : Fin 7) (payload : List Byte)
  | fetchEventsNextFrame
  | clearTrip (source : Fin 7) (payload : List Byte)
  | readPeers (source : Fin 7) (payload : List Byte)
  | readLineCounts (source : Fin 7) (payload : List Byte)
  | restart (source : Fin 7) (payload : List Byte)
  /-- R188, with the levels of the station and budget straps (R47, R170). -/
  | restartTakesEffect (station budget : Fin 8)
  | answerHandover
  | statusTimerExpiry
  | statusIntervalExpiry
deriving DecidableEq, Repr

end Sys2Proof
end

