-- ==== Sys2Proof/Decode.lean ====
section
/-! DEFINITION. The commands that words spell by the table's bits, and what the COMMAND frame of a panel command
carries. -/

namespace Sys2Proof

/-- No row of spec/opcode_table.json gives any bits, so no word spells a command (DESIGN CHOICE, log 26). -/
def decodeTableWord (_nbits _w : Nat) : Option Instr := none

/-- Table 10-7: the source station, the code byte (none for a frame of length 0) and the bytes after it, of a panel
command; none for every other row. -/
def Instr.panelCommand : Instr → Option (Fin 7 × Option Byte × List Byte)
  | .powerOnReset _ _ => none
  | .measurementExpiry _ _ _ => none
  | .controlTimerExpiry => none
  | .runOnTimerExpiry => none
  | .openDriveExpiry => none
  | .closeTravelTimeout => none
  | .slotExpiry => none
  | .listenWindowExpiry => none
  | .claimPeriodExpiry => none
  | .minimumIntervalExpiry => none
  | .raiseHoldOffExpiry => none
  | .claimReceived _ _ _ _ _ => none
  | .peerSilent _ => none
  | .peerLost _ => none
  | .fillTimeout => none
  | .drainTimerExpiry => none
  | .soakComplete => none
  | .startReadComplete => none
  | .stepReadComplete => none
  | .stepTimeEnd => none
  | .pauseTimerExpiry => none
  | .runTimeCap => none
  | .wakeTimerExpiry => none
  | .storeOperationComplete _ => none
  | .storeRequestServed => none
  | .storeAbandoned => none
  | .sampleExpiry _ => none
  | .persistenceExpiry _ => none
  | .receptionError _ => none
  | .frameDiscarded _ _ => none
  | .ownSourceFrameReceived _ _ _ _ => none
  | .transmitStart => none
  | .arbitrationLoss _ => none
  | .conflictWhileSending _ => none
  | .acknowledgeCell _ => none
  | .lineFault => none
  | .lineRestored => none
  | .firstIdleGap => none
  | .unknownCommand source code payload => some (source, code, payload)
  | .configLoads source payload => some (source, some 0x01#8, payload)
  | .configTerm source payload => some (source, some 0x02#8, payload)
  | .configDone source payload => some (source, some 0x03#8, payload)
  | .configuredReached => none
  | .deferredConfigCommand => none
  | .startManual source payload => some (source, some 0x10#8, payload)
  | .runRecipe source payload => some (source, some 0x11#8, payload)
  | .adjust source payload => some (source, some 0x12#8, payload)
  | .pause source payload => some (source, some 0x13#8, payload)
  | .resume source payload => some (source, some 0x14#8, payload)
  | .confirm source payload => some (source, some 0x15#8, payload)
  | .skipStep source payload => some (source, some 0x16#8, payload)
  | .stop source payload => some (source, some 0x17#8, payload)
  | .storeOpen source payload => some (source, some 0x20#8, payload)
  | .storeWrite source payload => some (source, some 0x21#8, payload)
  | .storeClose source payload => some (source, some 0x22#8, payload)
  | .storeErase source payload => some (source, some 0x23#8, payload)
  | .storeRead source payload => some (source, some 0x24#8, payload)
  | .storeList source payload => some (source, some 0x25#8, payload)
  | .setHardness source payload => some (source, some 0x30#8, payload)
  | .descaleStart source payload => some (source, some 0x31#8, payload)
  | .rinseStart source payload => some (source, some 0x32#8, payload)
  | .descaleAbort source payload => some (source, some 0x33#8, payload)
  | .readScale source payload => some (source, some 0x34#8, payload)
  | .fetchEvents source payload => some (source, some 0x40#8, payload)
  | .fetchEventsNextFrame => none
  | .clearTrip source payload => some (source, some 0x41#8, payload)
  | .readPeers source payload => some (source, some 0x42#8, payload)
  | .readLineCounts source payload => some (source, some 0x43#8, payload)
  | .restart source payload => some (source, some 0x4F#8, payload)
  | .restartTakesEffect _ _ => none
  | .answerHandover => none
  | .statusTimerExpiry => none
  | .statusIntervalExpiry => none

end Sys2Proof
end

