-- ==== Sys2Proof/Machine/Arith.lean ====
section
/-! DEFINITION. The manual's arithmetic (00, Arithmetic), byte order (10.6), check byte (R171) and budget codes. -/

namespace Sys2Proof.Machine

/-- Division rounded up. -/
def ceilDiv (a b : Nat) : Nat := (a + b - 1) / b

/-- Clamping: a value below the range becomes its lower end, one above it its upper end. -/
def clampNat (lo hi v : Nat) : Nat := if v < lo then lo else if hi < v then hi else v

def clampInt (lo hi v : Int) : Int := if v < lo then lo else if hi < v then hi else v

/-- One more, stopping at the end of the range. -/
def satSucc (hi n : Nat) : Nat := if n < hi then n + 1 else hi

/-- Whole seconds of a time in milliseconds, truncated (DEDUCED, log 21). -/
def secs (ms : Nat) : Nat := ms / 1000

/-- A quantity as a 16-bit field. -/
def word (n : Nat) : Word := BitVec.ofNat 16 n

def byte (n : Nat) : Byte := BitVec.ofNat 8 n

/-- A signed quantity as a 16-bit two's complement field (10.6). -/
def wordOfInt (i : Int) : Word := BitVec.ofInt 16 i

/-- The two bytes of a word, most significant first (10.6). -/
def bytesOf (w : Word) : List Byte := [w.extractLsb' 8 8, w.extractLsb' 0 8]

/-- The word of two bytes, most significant first (10.6). -/
def wordOf (hi lo : Byte) : Word := hi ++ lo

/-- A byte list read as words, most significant byte first; a last odd byte is dropped. -/
def wordsOf : List Byte → List Word
  | hi :: lo :: rest => wordOf hi lo :: wordsOf rest
  | _ => []

/-- One place of the check byte's register (R171). -/
def crcShift (r : Byte) : Byte := if r.msb then (r <<< 1) ^^^ 0x97#8 else r <<< 1

/-- One byte combined into the check byte's register (R171). -/
def crcByte (r b : Byte) : Byte :=
  crcShift (crcShift (crcShift (crcShift (crcShift (crcShift (crcShift (crcShift (r ^^^ b))))))))

/-- The check byte of a frame's header, length and payload bytes (R171). -/
def checkByte (bytes : List Byte) : Byte := bytes.foldl crcByte 0xFF#8

/-- The budget of Table 0-4 for a code of the budget straps (R47). -/
def budgetOf : Fin 8 → Nat
  | 0 => 100
  | 1 => 115
  | 2 => 138
  | 3 => 161
  | 4 => 184
  | 5 => 230
  | 6 => 276
  | 7 => 368

end Sys2Proof.Machine
end

