-- ==== Sys2Proof/Machine/State.lean ====
section
/-! DEFINITION. The state of the C740: one component per block of Table 0-1, the command queue, the deliveries in
transit, and the state after reset (Tables 1-8, 2-6, 3-11, 4-7, 5-7, 6-9, 7-10, 8-8, 9-5 and R188).
Times are in milliseconds. A running down-counting timer is `some` of the time it has left. -/

namespace Sys2Proof.Machine

/-! ## Small types -/

/-- The six loads of Table 0-6. -/
inductive Load where
  | top | bottom | ringA | ringB | grill | boiler
deriving DecidableEq, Repr

/-- One item per load. -/
structure Six (α : Type) where
  top    : α
  bottom : α
  ringA  : α
  ringB  : α
  grill  : α
  boiler : α
deriving DecidableEq, Repr

/-- A trip place of Table 8-5. -/
abbrev Place := Fin 8

/-- One item per trip place. -/
structure Eight (α : Type) where
  p0 : α
  p1 : α
  p2 : α
  p3 : α
  p4 : α
  p5 : α
  p6 : α
  p7 : α
deriving DecidableEq, Repr

/-- A subset of the eight trip places. -/
abbrev Places := Eight Bool

/-- The heating modes of Table 1-2. -/
inductive Mode where
  | fanOnly | topBottom | hotAir | hotAirBottom | grill | grillFan | bottom | steam | combi
deriving DecidableEq, Repr

inductive VentField where
  | auto | opened | closed
deriving DecidableEq, Repr

/-- A vent position asked for (R20). -/
inductive VentPos where
  | opened | closed
deriving DecidableEq, Repr

/-- The vent states of Table 1-7. -/
inductive VentState where
  | opening | opened | closing | closed
deriving DecidableEq, Repr

/-- What ends a step (Table 6-4). -/
inductive EndKind where
  | time | core | timeOrCore | confirm | never
deriving DecidableEq, Repr

inductive RunState where
  | idle | running | paused | finishing
deriving DecidableEq, Repr

inductive Phase where
  | none | entry | preheat | waitConfirm | active
deriving DecidableEq, Repr

inductive EndReason where
  | normal | stopped | abandoned | aborted | timeCap
deriving DecidableEq, Repr

/-- The generator states of Table 4-2. -/
inductive GenState where
  | empty | filling | heating | steaming | refilling | standing | cooling | draining | waitTank | fault
deriving DecidableEq, Repr

/-- The program requests of R75. -/
inductive ProgRequest where
  | none | fill | warm | drain
deriving DecidableEq, Repr

/-- Whose request the water in the boiler serves (R76). -/
inductive RequestSource where
  | none | run | program
deriving DecidableEq, Repr

/-- The program states of Table 5-4. -/
inductive ProgState where
  | idle | promptSolution | draw | soak | drain | promptWater | rinseFill | rinseDrain | abortDrain
deriving DecidableEq, Repr

inductive Program where
  | none | descale | rinse
deriving DecidableEq, Repr

inductive ValueSource where
  | pending | keep | fallback
deriving DecidableEq, Repr

inductive LsuMode where
  | waiting | listening | sharing | isolated | recovering
deriving DecidableEq, Repr

inductive LineState where
  | syncing | lineOk | lineFault | silenced
deriving DecidableEq, Repr

inductive RxState where
  | waiting | receiving | ignoring
deriving DecidableEq, Repr

inductive SlotState where
  | empty | valid | incomplete
deriving DecidableEq, Repr

/-- The result codes of Table 10-4. -/
inductive Result where
  | ok | clamped | busy | wrongState | badField | notConfigured | locked | steamLocked | rinseRequired | notFitted
  | storeFault | unknown | termStillTrue
deriving DecidableEq, Repr

/-- The event codes of Table 10-3, in code order from 1. -/
inductive EventCode where
  | powerOn | restarted | lineFault | lineRestored | stationConflict | peerJoined | peerSilent | peerLost
  | isolatedEntered | isolatedLeft | loadStarved | loadShed | ventFault | fillTimeout | drainSlow | scaleAdvise
  | scaleLock | prompt | descaleDone | descaleAborted | runStarted | stepBegun | preheatReached | runPaused
  | runResumed | runEnded | tripSet | tripCleared | keepLost | keepWriteFail | storeAbandoned
deriving DecidableEq, Repr

/-- A claim (F, W, K) of Table 3-1. -/
structure Claim where
  floor : Nat
  want  : Nat
  cls   : Nat
deriving DecidableEq, Repr

/-- An answer (R184). -/
structure Answer where
  dest   : Fin 7
  code   : Byte
  result : Result
  data   : List Byte
deriving DecidableEq, Repr

/-- The command under way (Table 10-1): `code` is none for a frame of length 0. -/
structure Command where
  source  : Fin 7
  code    : Option Byte
  payload : List Byte
deriving DecidableEq, Repr

/-- The loads record of R186. -/
structure LoadsRecord where
  rated     : Six Nat
  generator : Bool
  probe     : Bool
  vent      : Bool
deriving DecidableEq, Repr

/-- A step as its words give it (Tables 6-4 and 10-10), before clamping. A field is none where its code is unsound. -/
structure RawStep where
  mode     : Option Mode
  setpoint : Int
  fan      : Nat
  vent     : Option VentField
  endKind  : Option EndKind
  preheat  : Bool
  hold     : Bool
  prompt   : Nat
  humidity : Option Nat
  duration : Option Nat
  core     : Option Int
  floor    : Option Nat
deriving DecidableEq, Repr

/-- The live step copy (R120): `duration` in seconds, `setpoint` none in FAN_ONLY. -/
structure LiveStep where
  mode     : Mode
  setpoint : Option Int
  fan      : Nat
  vent     : VentField
  endKind  : EndKind
  preheat  : Bool
  hold     : Bool
  prompt   : Nat
  humidity : Nat
  duration : Nat
  core     : Int
  floor    : Nat
  /-- whether a value was clamped in building it (STEP_BEGUN, R125) -/
  clamped  : Bool
deriving DecidableEq, Repr

/-- The values of a keep record (R143). -/
structure KeepValues where
  scale    : Nat
  hardness : Nat
  rinse    : Bool
  count    : Nat
deriving DecidableEq, Repr

/-- A request to the STC (section 7.2). -/
inductive StoreRequest where
  | openSlot (slot recipe : Nat)
  | write (offset : Nat) (words : List Word)
  | close (length : Nat)
  | erase (slot : Nat)
  | read (slot offset : Nat)
  | listSlots
  | startRead (slot : Nat)
  | stepRead (slot offset length : Nat)
  | keepWrite (values : KeepValues)
deriving DecidableEq, Repr

inductive TermFn where
  | and | or | xor | latch
deriving DecidableEq, Repr

structure Operand where
  source : Fin 16
  invert : Bool
deriving DecidableEq, Repr

/-- A configurable term (R168). `actions` is the action set of Table 10-4. -/
structure Term where
  a           : Operand
  b           : Operand
  c           : Operand
  fn          : TermFn
  outInvert   : Bool
  persistence : Nat
  latched     : Bool
  actions     : Word
deriving DecidableEq, Repr

/-! ## Deliveries between blocks (Table 0-2) -/

/-- A delivery from one block to another within an event, or a block's own continuation of the event. -/
inductive Signal where
  -- to the DSP
  | dspDemands (d : Six Nat)
  | dspBoiler (d : Nat)
  | dspLimit (l : Nat)
  | dspFan (level : Nat)
  | dspLow (covered settled : Bool)
  | dspTrip (place : Place) (actions : Word) (active : Bool)
  | dspConfigured (rated : Six Nat)
  -- to the CLC
  | clcDispatch (starved blocked : Six Bool)
  | clcRun (r : RunState)
  | clcStep (l : LiveStep)
  | clcUpdate
  | clcAdjust (setpoint : Option Int) (humidity fan : Option Nat)
  | clcTrip (place : Place) (actions : Word) (active : Bool)
  | clcProbe (present settled : Bool)
  | clcVent (closed settled : Bool)
  | clcGenerator (g : GenState)
  | clcConfigured (r : LoadsRecord)
  -- to the ILU
  | iluClimate (temp boiler : Int) (sensor : Bool)
  | iluRun (r : RunState)
  | iluGenerator (g : GenState)
  | iluDescale (active : Bool)
  | iluFan (level : Nat)
  | iluHeat (on : Bool)
  | iluConfigured
  -- to the SGC
  | sgcCooking (h : Option Nat)
  | sgcGrant (set : Bool)
  | sgcProgram (r : ProgRequest)
  | sgcDrainOrder
  | sgcTank (present settled : Bool)
  | sgcLow (covered settled : Bool)
  | sgcHigh (covered settled : Bool)
  | sgcBoiler (t : Int)
  | sgcTrip (place : Place) (actions : Word) (active : Bool)
  | sgcConfigured (r : LoadsRecord)
  | sgcEntry
  -- to the SDU
  | sduRefill
  | sduFillEnded
  | sduDrainEnded
  | sduWait (entered : Bool)
  | sduGenerator (g : GenState)
  | sduBoiler (t : Int)
  | sduTank (present settled : Bool)
  | sduRun (r : RunState)
  | sduConfigured (r : LoadsRecord)
  | sduScan (v : KeepValues) (source : ValueSource)
  -- to the RSQ
  | rsqPreheat (on : Bool)
  | rsqCore (c : Option Int)
  | rsqProbe (present settled : Bool)
  | rsqTrip (place : Place) (actions : Word) (active : Bool)
  | rsqTank (waiting : Bool)
  | rsqRunOnEnd
  | rsqLocks (steamLocked rinse : Bool)
  | rsqDescale (active : Bool)
  | rsqConfigured (r : LoadsRecord)
  | rsqResumed
  | rsqBegin (step : RawStep)
  | rsqBegun
  | rsqEntry
  -- to the LSU
  | lsuElementWant (w : Nat)
  | lsuBoilerWant (w : Nat)
  | lsuFloorClass (floor cls : Nat)
  | lsuConfigured
  | lsuClaim (source : Fin 8) (floor want cls : Nat)
  | lsuSent (c : Claim)
  | lsuAbandoned
  | lsuLineOk
  | lsuLineFault
  | lsuSilenced
  -- to the SLC
  | slcClaim (c : Claim)
  | slcAnswer (a : Answer)
  | slcStatus (payload : List Byte)
  | slcCheckError
  -- to the STC
  | stcRequest (r : StoreRequest)
  -- to the CMH
  | cmhCommand (c : Command)
  | cmhAnswer (result : Result) (data : List Byte)
  | cmhSlotEmpty
  | cmhRunState
deriving DecidableEq, Repr

/-! ## Blocks -/

/-- The Climate Controller, Table 1-1. -/
structure Clc where
  measureTimer  : Nat
  window        : List Int
  temp          : Int
  badCount      : Nat
  sensorFailed  : Bool
  core          : Option Int
  boiler        : Int
  setpoint      : Option Int
  mode          : Option Mode
  humidity      : Nat
  fanField      : Nat
  ventField     : Option VentField
  ventAsked     : Option VentPos
  integral      : Int
  lastEffort    : Int
  demands       : Six Nat
  want          : Nat
  controlTimer  : Option Nat
  fanLevel      : Nat
  /-- the run-on timer counts up -/
  runOn         : Option Nat
  vent          : VentState
  ventTimer     : Option Nat
  preheat       : Bool
  heatLimited   : Bool
  fanOffTrips   : Places
  ventOpenTrips : Places
  run           : RunState
  steaming      : Bool
  starved       : Six Bool
  blocked       : Six Bool
  probeIn       : Bool
  ventIn        : Bool
  configured    : Bool
  rated         : Six Nat
  probeFitted   : Bool
  ventFitted    : Bool
deriving DecidableEq, Repr

/-- One load at the dispatcher, Table 2-1. -/
structure DspLoad where
  rated       : Nat
  demand      : Nat
  acc         : Int
  on          : Bool
  runCount    : Nat
  tripBlock   : Places
  blocked     : Bool
  starveCount : Nat
  starved     : Bool
deriving DecidableEq, Repr

/-- The Slot Dispatcher, Table 2-2. -/
structure Dsp where
  loads      : Six DspLoad
  slotTimer  : Nat
  limit      : Nat
  configured : Bool
  fan        : Nat
  low        : Bool
  dry        : Bool
deriving DecidableEq, Repr

/-- A peer entry, Table 3-4; the age in milliseconds. -/
structure Peer where
  station : Nat
  silent  : Bool
  floor   : Nat
  want    : Nat
  cls     : Nat
  age     : Nat
deriving DecidableEq, Repr

/-- The Load Share Unit, Table 3-1. -/
structure Lsu where
  budget      : Nat
  own         : Nat
  mode        : LsuMode
  silenced    : Bool
  elementWant : Nat
  boilerWant  : Nat
  floorInput  : Nat
  classInput  : Nat
  configured  : Bool
  dc          : Claim
  lc          : Option Claim
  cc          : Claim
  pc          : Option Claim
  holdOff     : Option Nat
  claimPeriod : Option Nat
  minInterval : Option Nat
  listen      : Option Nat
  peers       : List Peer
  peak        : Nat
  allowance   : Nat
  limit       : Nat
deriving DecidableEq, Repr

/-- The wait record of Table 4-1: what WAIT_TANK interrupted, and whether the boiler holds water. -/
structure WaitRecord where
  refill : Bool
  water  : Bool
deriving DecidableEq, Repr

/-- The Steam Generator Controller, Table 4-1. The fill timer is frozen while the pump-off trip set is not empty. -/
structure Sgc where
  state       : GenState
  fitted      : Bool
  cooking     : Option Nat
  program     : ProgRequest
  source      : RequestSource
  fillTimer   : Option Nat
  /-- the return state: true for STEAMING, false for HEATING -/
  ret         : Option Bool
  wait        : Option WaitRecord
  drainTimer  : Option Nat
  extended    : Bool
  warm        : Nat
  pumpOff     : Places
  checkTaken  : Bool
  demand      : Nat
  want        : Nat
  tank        : Bool
  low         : Bool
  high        : Bool
  tankSettled : Bool
  lowSettled  : Bool
  highSettled : Bool
  boiler      : Int
  dry         : Bool
  grant       : Bool
  configured  : Bool
  rated       : Nat
deriving DecidableEq, Repr

/-- The Scale and Descale Unit, Table 5-1. -/
structure Sdu where
  scale        : Nat
  hardness     : Nat
  rinse        : Bool
  count        : Nat
  valueSource  : ValueSource
  program      : Program
  pstate       : ProgState
  round        : Nat
  rinseCounter : Nat
  soak         : Nat
  soaking      : Bool
  resume       : Option ProgState
  request      : ProgRequest
  gen          : GenState
  boiler       : Int
  tank         : Bool
  run          : RunState
  configured   : Bool
  fitted       : Bool
deriving DecidableEq, Repr

/-- Where a run's steps come from (Table 6-1). -/
inductive RunSource where
  | none | slot (n : Nat) | manual
deriving DecidableEq, Repr

/-- The pause-reason set (Table 6-5). -/
structure Reasons where
  door  : Bool
  trip  : Bool
  tank  : Bool
  probe : Bool
  panel : Bool
deriving DecidableEq, Repr

/-- An entry of the step table: where a step's words lie, counted from the count word. -/
structure StepEntry where
  offset : Nat
  length : Nat
deriving DecidableEq, Repr

/-- The Recipe Sequencer, Table 6-1. -/
structure Rsq where
  run           : RunState
  source        : RunSource
  recipe        : Nat
  stepCount     : Nat
  table         : List StepEntry
  index         : Nat
  readPending   : Bool
  live          : Option LiveStep
  phase         : Phase
  reasons       : Reasons
  stepElapsed   : Nat
  runElapsed    : Nat
  pauseTimer    : Nat
  grant         : Bool
  pauseTrips    : Places
  cooking       : Option Nat
  startSlot     : Option Nat
  doorTrip      : Bool
  abortTrips    : Places
  preheat       : Bool
  core          : Option Int
  probe         : Bool
  tankWait      : Bool
  steamLocked   : Bool
  rinse         : Bool
  descaleActive : Bool
  configured    : Bool
  rated         : Six Nat
  generator     : Bool
  probeFitted   : Bool
deriving DecidableEq, Repr

/-- A word of the nonvolatile memory with its address, 128 x sector + word. -/
abbrev MemCell := Nat × Word

/-- The memory operation in flight (R142): the erase under way, if any, and the words to program after it. -/
structure StoreOp where
  request : StoreRequest
  erasing : Option Nat
  words   : List MemCell
  retried : Bool
  left    : Nat
deriving DecidableEq, Repr

/-- An open write context (R147). -/
structure WriteContext where
  slot    : Nat
  recipe  : Nat
  highest : Option Nat
  timer   : Option Nat
deriving DecidableEq, Repr

/-- A read that the STC has served (R152) and whose completion the RSQ has not taken yet. -/
inductive ReadDone where
  | start (words : List Word)
  | step (words : List Word)
deriving DecidableEq, Repr

/-- The Store Controller, Table 7-1. -/
structure Stc where
  mem       : List MemCell
  scanned   : Bool
  wakeTimer : Option Nat
  op        : Option StoreOp
  requests  : List StoreRequest
  table     : List SlotState
  ctx       : Option WriteContext
  keepPos   : Nat
  readDone  : Option ReadDone
deriving DecidableEq, Repr

/-- One switch input at the ILU: `true` is the first-named value of Table 8-2. -/
structure InputState where
  last     : Option Bool
  count    : Nat
  filtered : Bool
  settled  : Bool
deriving DecidableEq, Repr

/-- One term at the ILU; `output` is none while the term is not evaluated. -/
structure TermState where
  latch  : Bool
  output : Option Bool
  timer  : Option Nat
  active : Bool
deriving DecidableEq, Repr

/-- The Interlock Unit, Table 8-1. `held` are the terms T0 to T3, at places 4 to 7. -/
structure Ilu where
  sampleTimer   : Nat
  inputs        : Inputs InputState
  cavityOver    : Bool
  boilerOver    : Bool
  runActive     : Bool
  steamActive   : Bool
  descaleActive : Bool
  fanRunning    : Bool
  heatOn        : Bool
  sensorCond    : Bool
  dryCond       : Bool
  configured    : Bool
  t0            : Option Term
  t1            : Option Term
  t2            : Option Term
  t3            : Option Term
  terms         : Eight TermState
deriving DecidableEq, Repr

/-- A frame of the part, by its slot kind. -/
inductive TxFrame where
  | claim (c : Claim)
  | answer (a : Answer)
  | status (payload : List Byte)
deriving DecidableEq, Repr

/-- The frame being driven, with the bytes it is sent as (R171) and the cell it has come to, counted from its start
cell. -/
structure InFlight where
  frame : TxFrame
  bytes : List Byte
  cell  : Nat
deriving DecidableEq, Repr

/-- The Share Line Controller, Table 9-1. -/
structure Slc where
  own               : Nat
  line              : LineState
  idleCount         : Nat
  dominantRun       : Nat
  rx                : RxState
  rxBuffer          : List Byte
  /-- the cells of the byte being read, from its start cell; or the recessive cells read where one is expected -/
  rxCells           : List Level
  claimSlot         : Option Claim
  answerSlot        : Option Answer
  statusSlot        : Option (List Byte)
  inFlight          : Option InFlight
  consecutive       : Nat
  checkErrors       : Nat
  truncated         : Nat
  arbitrationLosses : Nat
  undelivered       : Nat
  conflicts         : Nat
deriving DecidableEq, Repr

/-- The Command Handler, Table 10-1. -/
structure Cmh where
  configured    : Bool
  loads         : Option LoadsRecord
  buffer        : Option Command
  /-- a configuration command waits for the scan (R185) -/
  deferred      : Bool
  /-- CONFIG_DONE waits for its two conditions (R186) -/
  doneHeld      : Bool
  answerWaiting : Option Answer
  /-- the answer handed to the SLC whose outcome has not been reported (R184) -/
  outstanding   : Option Answer
  moreFrames    : List Answer
  restartDue    : Bool
  statusTimer   : Nat
  intervalTimer : Option Nat
  changeHeld    : Bool
deriving DecidableEq, Repr

/-- An entry of the event queue (R191). -/
structure Event where
  code    : EventCode
  subject : Nat
  value   : Word
  time    : Nat
deriving DecidableEq, Repr

/-- The Event Queue, Table 10-1. `fraction` counts the milliseconds of the running second (log 6). -/
structure Evq where
  queue    : List Event
  lost     : Nat
  seconds  : Nat
  fraction : Nat
deriving DecidableEq, Repr

/-- The levels at the strap pins (R47, R170). -/
structure Straps where
  station : Fin 8
  budget  : Fin 8
deriving DecidableEq, Repr

/-- The whole part. `bus` holds the deliveries of the event in progress; it is empty between events (log 8).
`freeUse` counts the free values used so far (DESIGN CHOICE, log 15). -/
structure State where
  pending : List Instr
  bus     : List Signal
  freeUse : Nat
  pins    : Straps
  clc     : Clc
  dsp     : Dsp
  lsu     : Lsu
  slc     : Slc
  sgc     : Sgc
  sdu     : Sdu
  rsq     : Rsq
  stc     : Stc
  ilu     : Ilu
  cmh     : Cmh
  evq     : Evq
deriving DecidableEq, Repr

/-- No command stops the part: the spec gives every row an effect, so no fault is ever raised. -/
inductive Fault where
deriving DecidableEq, Repr

/-- `notModelled` names a command whose arm has no meaning yet; raised only by Dispatch.lean's refused arms; safe,
since the model then stops. Every command has its meaning, so no arm raises it. -/
inductive Refusal where
  | notModelled (mnemonic : String)
deriving DecidableEq, Repr

/-! ## State after reset -/

def Six.all {α : Type} (x : α) : Six α := ⟨x, x, x, x, x, x⟩

def Eight.all {α : Type} (x : α) : Eight α := ⟨x, x, x, x, x, x, x, x⟩

/-- The empty set of trip places. -/
def Places.none : Places := Eight.all false

/-- Table 1-8, R25. -/
def Clc.afterReset : Clc where
  measureTimer  := 250
  window        := []
  temp          := 0
  badCount      := 0
  sensorFailed  := false
  core          := none
  boiler        := 0
  setpoint      := none
  mode          := none
  humidity      := 0
  fanField      := 0
  ventField     := none
  ventAsked     := none
  integral      := 0
  lastEffort    := 0
  demands       := Six.all 0
  want          := 0
  controlTimer  := none
  fanLevel      := 0
  runOn         := none
  vent          := .opening
  ventTimer     := some 6000
  preheat       := false
  heatLimited   := false
  fanOffTrips   := Places.none
  ventOpenTrips := Places.none
  run           := .idle
  steaming      := false
  starved       := Six.all false
  blocked       := Six.all true
  probeIn       := false
  ventIn        := false
  configured    := false
  rated         := Six.all 0
  probeFitted   := false
  ventFitted    := false

/-- Table 2-6, per load. -/
def DspLoad.afterReset : DspLoad where
  rated       := 0
  demand      := 0
  acc         := 0
  on          := false
  runCount    := 2
  tripBlock   := Places.none
  blocked     := true
  starveCount := 0
  starved     := false

/-- Table 2-6, R46. -/
def Dsp.afterReset : Dsp where
  loads      := Six.all DspLoad.afterReset
  slotTimer  := 500
  limit      := 0
  configured := false
  fan        := 0
  low        := false
  dry        := false

/-- Table 3-11, R73, with B and the station number from the straps (R47). -/
def Lsu.afterReset (pins : Straps) : Lsu where
  budget      := budgetOf pins.budget
  own         := pins.station.val
  mode        := .waiting
  silenced    := false
  elementWant := 0
  boilerWant  := 0
  floorInput  := 0
  classInput  := 3
  configured  := false
  dc          := ⟨3, 3, 3⟩
  lc          := none
  cc          := ⟨3, 3, 3⟩
  pc          := none
  holdOff     := none
  claimPeriod := none
  minInterval := none
  listen      := none
  peers       := []
  peak        := 2
  allowance   := 3
  limit       := 0

/-- Table 9-5, R183, with the station number from the straps (R170). The receive buffer is empty (DESIGN CHOICE,
log 33). -/
def Slc.afterReset (pins : Straps) : Slc where
  own               := pins.station.val
  line              := .syncing
  idleCount         := 0
  dominantRun       := 0
  rx                := .ignoring
  rxBuffer          := []
  rxCells           := []
  claimSlot         := none
  answerSlot        := none
  statusSlot        := none
  inFlight          := none
  consecutive       := 0
  checkErrors       := 0
  truncated         := 0
  arbitrationLosses := 0
  undelivered       := 0
  conflicts         := 0

/-- Table 4-7, R98. -/
def Sgc.afterReset : Sgc where
  state       := .empty
  fitted      := false
  cooking     := none
  program     := .none
  source      := .none
  fillTimer   := none
  ret         := none
  wait        := none
  drainTimer  := none
  extended    := false
  warm        := 0
  pumpOff     := Places.none
  checkTaken  := false
  demand      := 0
  want        := 0
  tank        := false
  low         := false
  high        := false
  tankSettled := false
  lowSettled  := false
  highSettled := false
  boiler      := 0
  dry         := false
  grant       := false
  configured  := false
  rated       := 0

/-- Table 5-7, R104, R117. -/
def Sdu.afterReset : Sdu where
  scale        := 0
  hardness     := 4
  rinse        := false
  count        := 0
  valueSource  := .pending
  program      := .none
  pstate       := .idle
  round        := 1
  rinseCounter := 1
  soak         := 0
  soaking      := false
  resume       := none
  request      := .none
  gen          := .empty
  boiler       := 0
  tank         := false
  run          := .idle
  configured   := false
  fitted       := false

def Reasons.none : Reasons := ⟨false, false, false, false, false⟩

/-- Table 6-9, R140. -/
def Rsq.afterReset : Rsq where
  run           := .idle
  source        := .none
  recipe        := 0
  stepCount     := 1
  table         := []
  index         := 0
  readPending   := false
  live          := none
  phase         := .none
  reasons       := Reasons.none
  stepElapsed   := 0
  runElapsed    := 0
  pauseTimer    := 0
  grant         := false
  pauseTrips    := Places.none
  cooking       := none
  startSlot     := none
  doorTrip      := false
  abortTrips    := Places.none
  preheat       := false
  core          := none
  probe         := false
  tankWait      := false
  steamLocked   := false
  rinse         := false
  descaleActive := false
  configured    := false
  rated         := Six.all 0
  generator     := false
  probeFitted   := false

/-- Table 7-10, R155, over the memory as it is left. The keep write position before the scan is 0 (DESIGN CHOICE,
log 3). -/
def Stc.afterReset (mem : List MemCell) : Stc where
  mem       := mem
  scanned   := false
  wakeTimer := some 10
  op        := none
  requests  := []
  table     := List.replicate 24 .incomplete
  ctx       := none
  keepPos   := 0
  readDone  := none

def InputState.afterReset : InputState := ⟨none, 0, false, false⟩

def TermState.afterReset : TermState := ⟨false, none, none, false⟩

/-- SENSOR and DRY are evaluated from reset, from conditions that are false there (R159, R162; DEDUCED,
log 19). -/
def TermState.evaluatedFromReset : TermState := ⟨false, some false, none, false⟩

/-- Table 8-8, R169. -/
def Ilu.afterReset : Ilu where
  sampleTimer   := 5
  inputs        := ⟨.afterReset, .afterReset, .afterReset, .afterReset, .afterReset, .afterReset, .afterReset,
                    .afterReset⟩
  cavityOver    := false
  boilerOver    := false
  runActive     := false
  steamActive   := false
  descaleActive := false
  fanRunning    := false
  heatOn        := false
  sensorCond    := false
  dryCond       := false
  configured    := false
  t0            := none
  t1            := none
  t2            := none
  t3            := none
  terms         := ⟨.afterReset, .afterReset, .evaluatedFromReset, .evaluatedFromReset, .afterReset, .afterReset,
                    .afterReset, .afterReset⟩

/-- R188. -/
def Cmh.afterReset : Cmh where
  configured    := false
  loads         := none
  buffer        := none
  deferred      := false
  doneHeld      := false
  answerWaiting := none
  outstanding   := none
  moreFrames    := []
  restartDue    := false
  statusTimer   := 1000
  intervalTimer := none
  changeHeld    := false

/-- R188: the queue holds the single entry of the reset's cause. -/
def Evq.afterReset (cause : EventCode) : Evq where
  queue    := [⟨cause, 0, 0, 0⟩]
  lost     := 0
  seconds  := 0
  fraction := 0

/-- Every block at its state after reset, over a given memory and command queue. -/
def State.afterReset (cause : EventCode) (pins : Straps) (mem : List MemCell) (freeUse : Nat)
    (pending : List Instr) : State where
  pending := pending
  bus     := []
  freeUse := freeUse
  pins    := pins
  clc     := Clc.afterReset
  dsp     := Dsp.afterReset
  lsu     := Lsu.afterReset pins
  slc     := Slc.afterReset pins
  sgc     := Sgc.afterReset
  sdu     := Sdu.afterReset
  rsq     := Rsq.afterReset
  stc     := Stc.afterReset mem
  ilu     := Ilu.afterReset
  cmh     := Cmh.afterReset
  evq     := Evq.afterReset cause

/-- The part right after power-on reset, with nothing commanded. The strap levels (DESIGN CHOICE, log 1) and the
erased memory (DESIGN CHOICE, log 2) are the model's choice. -/
def State.reset : State := State.afterReset .powerOn ⟨0, 0⟩ [] 0 []

end Sys2Proof.Machine
end

