-- ==== Sys2Proof/Machine/Tables.lean ====
section
/-! DEFINITION. The fixed tables of the part: loads, heating modes (Table 1-2), scale (Tables 5-2, 5-3), inputs
(Table 8-2), built-in terms (Table 8-6), codes (Tables 10-3, 10-4) and command lengths (Table 10-7). -/

namespace Sys2Proof.Machine

/-! ## Items by load, place and input -/

/-- The loads in index order (Table 0-6). -/
def Load.all : List Load := [.top, .bottom, .ringA, .ringB, .grill, .boiler]

/-- Table 0-6. -/
def Load.index : Load → Nat
  | .top => 0
  | .bottom => 1
  | .ringA => 2
  | .ringB => 3
  | .grill => 4
  | .boiler => 5

def Six.get {α : Type} (x : Six α) : Load → α
  | .top => x.top
  | .bottom => x.bottom
  | .ringA => x.ringA
  | .ringB => x.ringB
  | .grill => x.grill
  | .boiler => x.boiler

def Six.set {α : Type} (x : Six α) (l : Load) (v : α) : Six α :=
  match l with
  | .top => { x with top := v }
  | .bottom => { x with bottom := v }
  | .ringA => { x with ringA := v }
  | .ringB => { x with ringB := v }
  | .grill => { x with grill := v }
  | .boiler => { x with boiler := v }

def Six.map {α β : Type} (f : α → β) (x : Six α) : Six β :=
  ⟨f x.top, f x.bottom, f x.ringA, f x.ringB, f x.grill, f x.boiler⟩

/-- A six-fold item from a rule per load. -/
def Six.of {α : Type} (f : Load → α) : Six α :=
  ⟨f .top, f .bottom, f .ringA, f .ringB, f .grill, f .boiler⟩

def Places.all : List Place := [0, 1, 2, 3, 4, 5, 6, 7]

def Eight.get {α : Type} (x : Eight α) : Place → α
  | 0 => x.p0
  | 1 => x.p1
  | 2 => x.p2
  | 3 => x.p3
  | 4 => x.p4
  | 5 => x.p5
  | 6 => x.p6
  | 7 => x.p7

def Eight.set {α : Type} (x : Eight α) (p : Place) (v : α) : Eight α :=
  match p with
  | 0 => { x with p0 := v }
  | 1 => { x with p1 := v }
  | 2 => { x with p2 := v }
  | 3 => { x with p3 := v }
  | 4 => { x with p4 := v }
  | 5 => { x with p5 := v }
  | 6 => { x with p6 := v }
  | 7 => { x with p7 := v }

def Eight.map {α β : Type} (f : α → β) (x : Eight α) : Eight β :=
  ⟨f x.p0, f x.p1, f x.p2, f x.p3, f x.p4, f x.p5, f x.p6, f x.p7⟩

/-- Whether the set of places has a member. -/
def Places.any (x : Places) : Bool :=
  x.p0 || x.p1 || x.p2 || x.p3 || x.p4 || x.p5 || x.p6 || x.p7

/-- The set as a byte, bit n for place n (Table 10-4, active trips). -/
def Places.toByte (x : Places) : Byte :=
  BitVec.ofBool x.p7 ++ BitVec.ofBool x.p6 ++ BitVec.ofBool x.p5 ++ BitVec.ofBool x.p4 ++
    BitVec.ofBool x.p3 ++ BitVec.ofBool x.p2 ++ BitVec.ofBool x.p1 ++ BitVec.ofBool x.p0

/-! ## Trip places and actions -/

def Place.door : Place := 0
def Place.cutout : Place := 1
def Place.sensor : Place := 2
def Place.dry : Place := 3

/-- Action set bits 0 to 5: the loads by index (Table 10-4). -/
def Actions.load (a : Word) (l : Load) : Bool := a.getLsbD l.index

def Actions.pumpOff (a : Word) : Bool := a.getLsbD 8
def Actions.fanOff (a : Word) : Bool := a.getLsbD 9
def Actions.ventOpen (a : Word) : Bool := a.getLsbD 10
def Actions.pauseRun (a : Word) : Bool := a.getLsbD 11
def Actions.abortRun (a : Word) : Bool := a.getLsbD 12

/-- The action set bits that Table 10-4 gives. -/
def Actions.given : Word := 0x1F3F#16

/-- Table 8-6: all six loads off, fan off, pause run. -/
def Actions.door : Word := 0x0A3F#16

/-- Table 8-6: all six loads off, pump off, vent open, abort run. -/
def Actions.cutout : Word := 0x153F#16

/-- Table 8-6: all six loads off, abort run. -/
def Actions.sensor : Word := 0x103F#16

/-- Table 8-6: BOILER off, pump off, pause run. -/
def Actions.dry : Word := 0x0920#16

/-! ## Heating modes, Table 1-2 -/

/-- A row of Table 1-2. Weights in per cent, for the element loads. -/
structure ModeRow where
  weights  : Six Nat
  kp       : Int
  ki       : Int
  minFan   : Nat
  lo       : Int
  hi       : Int
  humLo    : Nat
  humHi    : Nat
  humDef   : Nat

def Mode.row : Mode → ModeRow
  | .fanOnly      => ⟨⟨0, 0, 0, 0, 0, 0⟩, 0, 0, 1, 0, 0, 0, 0, 0⟩
  | .topBottom    => ⟨⟨100, 100, 0, 0, 0, 0⟩, 40, 16, 0, 300, 2800, 0, 0, 0⟩
  | .hotAir       => ⟨⟨0, 0, 100, 100, 0, 0⟩, 48, 24, 2, 300, 2500, 0, 0, 0⟩
  | .hotAirBottom => ⟨⟨0, 40, 100, 100, 0, 0⟩, 48, 24, 2, 300, 2500, 0, 0, 0⟩
  | .grill        => ⟨⟨0, 0, 0, 0, 100, 0⟩, 64, 8, 0, 1500, 2800, 0, 0, 0⟩
  | .grillFan     => ⟨⟨0, 0, 0, 0, 100, 0⟩, 56, 12, 1, 1500, 2500, 0, 0, 0⟩
  | .bottom       => ⟨⟨0, 100, 0, 0, 0, 0⟩, 40, 16, 0, 300, 2500, 0, 0, 0⟩
  | .steam        => ⟨⟨0, 0, 30, 0, 0, 0⟩, 32, 8, 1, 400, 1000, 50, 100, 100⟩
  | .combi        => ⟨⟨0, 0, 100, 50, 0, 0⟩, 48, 16, 2, 1000, 2300, 10, 90, 60⟩

/-- The modes by number; 9 to 15 are unsound (Table 10-10). -/
def Mode.ofCode : Nat → Option Mode
  | 0 => some .fanOnly
  | 1 => some .topBottom
  | 2 => some .hotAir
  | 3 => some .hotAirBottom
  | 4 => some .grill
  | 5 => some .grillFan
  | 6 => some .bottom
  | 7 => some .steam
  | 8 => some .combi
  | _ => none

/-- Modes 7 and 8 are the steam modes. -/
def Mode.isSteam : Mode → Bool
  | .steam => true
  | .combi => true
  | _ => false

/-- A load is weighted in a mode when Table 1-2 gives it a weight. -/
def Mode.weighted (m : Mode) (l : Load) : Bool := m.row.weights.get l != 0

def EndKind.ofCode : Nat → Option EndKind
  | 0 => some .time
  | 1 => some .core
  | 2 => some .timeOrCore
  | 3 => some .confirm
  | 4 => some .never
  | _ => none

/-- Core-type: CORE or TIME_OR_CORE (06, section 6.2). -/
def EndKind.isCore : EndKind → Bool
  | .core => true
  | .timeOrCore => true
  | _ => false

/-- The end kinds that need a duration. -/
def EndKind.isTimed : EndKind → Bool
  | .time => true
  | .timeOrCore => true
  | _ => false

def VentField.ofCode : Nat → Option VentField
  | 0 => some .auto
  | 1 => some .opened
  | 2 => some .closed
  | _ => none

/-! ## Scale, Tables 5-2 and 5-3 -/

/-- Weight of a hardness class per refill cycle. -/
def hardnessWeight : Nat → Nat
  | 1 => 1
  | 2 => 2
  | 3 => 3
  | 4 => 5
  | 5 => 7
  | 6 => 9
  | 7 => 12
  | _ => 0

def scaleAdvise : Nat := 6000

def scaleLock : Nat := 8000

/-! ## Inputs, Table 8-2 -/

/-- Filter lengths in samples. -/
def filterLength : Inputs Nat := ⟨4, 4, 16, 16, 4, 4, 4, 4⟩

/-! ## Codes, Tables 10-3 and 10-4 -/

def EventCode.code : EventCode → Nat
  | .powerOn => 1
  | .restarted => 2
  | .lineFault => 3
  | .lineRestored => 4
  | .stationConflict => 5
  | .peerJoined => 6
  | .peerSilent => 7
  | .peerLost => 8
  | .isolatedEntered => 9
  | .isolatedLeft => 10
  | .loadStarved => 11
  | .loadShed => 12
  | .ventFault => 13
  | .fillTimeout => 14
  | .drainSlow => 15
  | .scaleAdvise => 16
  | .scaleLock => 17
  | .prompt => 18
  | .descaleDone => 19
  | .descaleAborted => 20
  | .runStarted => 21
  | .stepBegun => 22
  | .preheatReached => 23
  | .runPaused => 24
  | .runResumed => 25
  | .runEnded => 26
  | .tripSet => 27
  | .tripCleared => 28
  | .keepLost => 29
  | .keepWriteFail => 30
  | .storeAbandoned => 31

def RunState.code : RunState → Nat
  | .idle => 0
  | .running => 1
  | .paused => 2
  | .finishing => 3

def Phase.code : Phase → Nat
  | .none => 0
  | .entry => 1
  | .preheat => 2
  | .waitConfirm => 3
  | .active => 4

def EndReason.code : EndReason → Nat
  | .normal => 0
  | .stopped => 1
  | .abandoned => 2
  | .aborted => 3
  | .timeCap => 4

def GenState.code : GenState → Nat
  | .empty => 0
  | .filling => 1
  | .heating => 2
  | .steaming => 3
  | .refilling => 4
  | .standing => 5
  | .cooling => 6
  | .draining => 7
  | .waitTank => 8
  | .fault => 9

def ProgState.code : ProgState → Nat
  | .idle => 0
  | .promptSolution => 1
  | .draw => 2
  | .soak => 3
  | .drain => 4
  | .promptWater => 5
  | .rinseFill => 6
  | .rinseDrain => 7
  | .abortDrain => 8

def Program.code : Program → Nat
  | .none => 0
  | .descale => 1
  | .rinse => 2

def ValueSource.code : ValueSource → Nat
  | .pending => 0
  | .keep => 1
  | .fallback => 2

def LsuMode.code : LsuMode → Nat
  | .waiting => 0
  | .listening => 1
  | .sharing => 2
  | .isolated => 3
  | .recovering => 4

def LineState.code : LineState → Nat
  | .syncing => 0
  | .lineOk => 1
  | .lineFault => 2
  | .silenced => 3

def SlotState.code : SlotState → Nat
  | .empty => 0
  | .valid => 1
  | .incomplete => 2

def Result.code : Result → Nat
  | .ok => 0
  | .clamped => 1
  | .busy => 2
  | .wrongState => 3
  | .badField => 4
  | .notConfigured => 5
  | .locked => 6
  | .steamLocked => 7
  | .rinseRequired => 8
  | .notFitted => 9
  | .storeFault => 10
  | .unknown => 11
  | .termStillTrue => 12

/-- The pause-reason set as a number: bit 0 DOOR, 1 TRIP, 2 TANK, 3 PROBE, 4 PANEL. -/
def Reasons.code (r : Reasons) : Nat :=
  r.door.toNat + 2 * r.trip.toNat + 4 * r.tank.toNat + 8 * r.probe.toNat + 16 * r.panel.toNat

def kindCode : FrameKind → Nat
  | .claim => 0
  | .command => 1
  | .answer => 2
  | .status => 3

def kindOfCode : Nat → FrameKind
  | 0 => .claim
  | 1 => .command
  | 2 => .answer
  | _ => .status

/-! ## Command codes and lengths, Table 10-7 -/

/-- The least and the largest payload length after the code byte; none for an unknown code. -/
def commandLength (code : Byte) : Option (Nat × Nat) :=
  match code.toNat with
  | 0x01 => some (7, 7)
  | 0x02 => some (8, 8)
  | 0x03 => some (0, 0)
  | 0x10 => some (6, 14)
  | 0x11 => some (1, 1)
  | 0x12 => some (7, 7)
  | 0x13 => some (0, 0)
  | 0x14 => some (0, 0)
  | 0x15 => some (0, 0)
  | 0x16 => some (0, 0)
  | 0x17 => some (0, 0)
  | 0x20 => some (3, 3)
  | 0x21 => some (1, 13)
  | 0x22 => some (1, 1)
  | 0x23 => some (1, 1)
  | 0x24 => some (2, 2)
  | 0x25 => some (0, 0)
  | 0x30 => some (1, 1)
  | 0x31 => some (0, 0)
  | 0x32 => some (0, 0)
  | 0x33 => some (0, 0)
  | 0x34 => some (0, 0)
  | 0x40 => some (0, 0)
  | 0x41 => some (1, 1)
  | 0x42 => some (1, 1)
  | 0x43 => some (0, 0)
  | 0x4F => some (0, 0)
  | _ => none

/-- R185 test 2: the length Table 10-7 gives, or within its range; STORE_WRITE's is odd besides. -/
def lengthAllowed (code : Byte) (n : Nat) : Bool :=
  match commandLength code with
  | none => false
  | some (lo, hi) => lo ≤ n && n ≤ hi && (code != 0x21#8 || n % 2 == 1)

/-- R185 test 3: the commands taken in UNCONFIGURED. -/
def takenUnconfigured (code : Byte) : Bool :=
  code.toNat ∈ [0x01, 0x02, 0x03, 0x4F, 0x40, 0x34, 0x42, 0x43, 0x25]

/-- The three configuration commands. -/
def isConfigCommand (code : Byte) : Bool := code.toNat ∈ [0x01, 0x02, 0x03]

end Sys2Proof.Machine
end

