-- ==== Sys2Proof/Machine/Ops.lean ====
section
/-! DEFINITION. The shared operations: deliveries between blocks, posting of events, answers, the nonvolatile memory
and the timers. -/

namespace Sys2Proof.Machine

/-! ## Deliveries, events, answers -/

/-- A block's own continuation of an event waits until every delivery has been taken: first what the CLC and the SGC
then do, then what the RSQ does, last the status frame of a run state change (DESIGN CHOICE, log 5, log 13). -/
def Signal.rank : Signal → Nat
  | .clcUpdate => 1
  | .sgcEntry => 1
  | .rsqResumed => 2
  | .rsqBegin _ => 2
  | .rsqBegun => 2
  | .rsqEntry => 2
  | .cmhRunState => 3
  | _ => 0

/-- Deliveries in the order they are made, continuations after them. -/
def Signal.inOrder (sigs : List Signal) : List Signal :=
  sigs.filter (·.rank == 0) ++ sigs.filter (·.rank == 1) ++ sigs.filter (·.rank == 2) ++ sigs.filter (·.rank == 3)

/-- Deliveries made by a block: they are taken first in, first out (log 5). -/
def State.emit (sigs : List Signal) (s : State) : State := { s with bus := Signal.inOrder (s.bus ++ sigs) }

/-- A delivery made only where a condition holds. -/
def sigIf (c : Bool) (sig : Signal) : List Signal := if c then [sig] else []

/-- R191: the entry is appended with the seconds counter as its time, or lost at a full queue. -/
def Evq.append (q : Evq) (code : EventCode) (subject : Nat) (value : Word) : Evq :=
  if q.queue.length < 16 then { q with queue := q.queue ++ [⟨code, subject, value, q.seconds⟩] }
  else { q with lost := satSucc 255 q.lost }

/-- A block posts an event (R191). -/
def State.post (code : EventCode) (subject : Nat) (value : Word) (s : State) : State :=
  { s with evq := s.evq.append code subject value }

/-- Several events in the order given (R191). -/
def State.postAll (events : List (EventCode × Nat × Word)) (s : State) : State :=
  events.foldl (fun s e => s.post e.1 e.2.1 e.2.2) s

/-- The owner answers the command under way (R184). -/
def State.answer (r : Result) (data : List Byte) (s : State) : State := s.emit [.cmhAnswer r data]

/-- A refusal: an answer with no data. -/
def State.refuse (r : Result) (s : State) : State := s.answer r []

/-! ## Components -/

def State.setClc (c : Clc) (s : State) : State := { s with clc := c }
def State.setDsp (d : Dsp) (s : State) : State := { s with dsp := d }
def State.setLsu (l : Lsu) (s : State) : State := { s with lsu := l }
def State.setSlc (l : Slc) (s : State) : State := { s with slc := l }
def State.setSgc (g : Sgc) (s : State) : State := { s with sgc := g }
def State.setSdu (d : Sdu) (s : State) : State := { s with sdu := d }
def State.setRsq (r : Rsq) (s : State) : State := { s with rsq := r }
def State.setStc (t : Stc) (s : State) : State := { s with stc := t }
def State.setIlu (i : Ilu) (s : State) : State := { s with ilu := i }
def State.setCmh (c : Cmh) (s : State) : State := { s with cmh := c }
def State.setEvq (q : Evq) (s : State) : State := { s with evq := q }

/-! ## The nonvolatile memory (R141) -/

/-- Words of the memory: 25 sectors of 128. -/
def memWords : Nat := 3200

/-- What an erased word, and so an unlisted address, reads as (R141). -/
def erasedWord : Word := 0xFFFF#16

/-- The address of a word of a sector. -/
def memAddr (sector word : Nat) : Nat := 128 * sector + word

/-- R141: a read leaves the memory unchanged. -/
def Mem.read : List MemCell → Nat → Word
  | [], _ => erasedWord
  | (b, w) :: rest, a => if b = a then w else Mem.read rest a

/-- The canonical list with the word at `a` replaced. -/
def Mem.put : List MemCell → Nat → Word → List MemCell
  | [], a, w => if w = erasedWord then [] else [(a, w)]
  | (b, v) :: rest, a, w =>
    if a < b then (if w = erasedWord then (b, v) :: rest else (a, w) :: (b, v) :: rest)
    else if a = b then (if w = erasedWord then rest else (a, w) :: rest)
    else (b, v) :: Mem.put rest a w

/-- A write to a word of the memory; there is no word outside it (DESIGN CHOICE, log 32). -/
def Mem.write (m : List MemCell) (a : Nat) (w : Word) : List MemCell := if a < memWords then Mem.put m a w else m

/-- The canonical form: addresses strictly rising and inside the memory, no entry equal to an erased word. -/
def Mem.wf : List MemCell → Bool
  | [] => true
  | (a, w) :: rest =>
    decide (a < memWords) && (w != erasedWord) && (match rest with | [] => true | (b, _) :: _ => decide (a < b)) &&
      Mem.wf rest

/-- A word after an operation on it that should turn `old` into `new`, when the bits of `keep` stayed as they were. -/
def settleWord (old new keep : Word) : Word := new ^^^ ((old ^^^ new) &&& keep)

/-- The bits of a word of the sector that the cells failed to change. -/
def keptBits : List (Nat × Word) → Nat → Word
  | [], _ => 0
  | (o, k) :: rest, a => if o = a then k else keptBits rest a

/-- R141: a program clears bits only. -/
def Mem.program (m : List MemCell) (a : Nat) (value keep : Word) : List MemCell :=
  let old := Mem.read m a
  Mem.write m a (settleWord old (old &&& value) keep)

/-- R141: an erase sets the first `n` words of a sector to FFFFh, but for the kept bits. -/
def Mem.eraseUpTo (m : List MemCell) (sector : Nat) (keep : Nat → Word) : Nat → List MemCell
  | 0 => m
  | n + 1 =>
    let m' := Mem.eraseUpTo m sector keep n
    let a := memAddr sector n
    Mem.write m' a (settleWord (Mem.read m' a) erasedWord (keep n))

/-- The words `n` of a sector, from word 0. -/
def Mem.sector (m : List MemCell) (sector n : Nat) : List Word :=
  (List.range n).map fun w => Mem.read m (memAddr sector w)

/-- R141: the verify of an erase. -/
def Mem.erased (m : List MemCell) (sector : Nat) : Bool := (Mem.sector m sector 128).all (· == erasedWord)

/-! ## Timers -/

/-- A running timer counts down and stands at 0 until its expiry is taken (DESIGN CHOICE, log 6). -/
def countDown (t : Option Nat) : Option Nat := t.map (· - 1)

/-- An elapsed time counts up to the end of its range. -/
def countUp (hi t : Nat) : Nat := if t < hi then t + 1 else t

end Sys2Proof.Machine
end

