-- ==== Sys2Proof/Machine/Dispatcher.lean ====
section
/-! DEFINITION. The Slot Dispatcher (chapter 2, R26 to R46). -/

namespace Sys2Proof.Machine

/-- R28: H is L less the base load of 3 LU, not below 0. -/
def Dsp.headroom (d : Dsp) : Nat := d.limit - 3

/-- The rated power of a load while it is energised, else 0. -/
def DspLoad.draw (l : DspLoad) : Nat := if l.on then l.rated else 0

/-- Table 2-2: the sum of the rated powers of the energised loads. -/
def Dsp.energisedSum (d : Dsp) : Nat :=
  d.loads.top.draw + d.loads.bottom.draw + d.loads.ringA.draw + d.loads.ringB.draw + d.loads.grill.draw +
    d.loads.boiler.draw

/-- R45: any heating load energised. -/
def Dsp.heatOn (d : Dsp) : Bool :=
  d.loads.top.on || d.loads.bottom.on || d.loads.ringA.on || d.loads.ringB.on || d.loads.grill.on || d.loads.boiler.on

def Dsp.starved (d : Dsp) : Six Bool := d.loads.map (·.starved)

def Dsp.blocked (d : Dsp) : Six Bool := d.loads.map (·.blocked)

/-- R26: a load with rated power 0 is not fitted. -/
def DspLoad.fitted (l : DspLoad) : Bool := l.rated != 0

def Dsp.setLoad (d : Dsp) (l : Load) (v : DspLoad) : Dsp := { d with loads := d.loads.set l v }

/-- A load switched off: its run count restarts, its accumulator is kept (R30, R38, R42). -/
def DspLoad.switchOff (l : DspLoad) : DspLoad := { l with on := false, runCount := 0 }

/-! ## Blocking, R40 to R43 -/

/-- R41: the conditions that block particular loads. -/
def Dsp.conditionBlocked (d : Dsp) : Load → Bool
  | .ringA => d.fan == 0
  | .ringB => d.fan == 0
  | .boiler => !d.low || d.dry
  | _ => false

/-- R40 and R41. -/
def Dsp.isBlocked (d : Dsp) (l : Load) : Bool :=
  (d.loads.get l).tripBlock.any || !d.configured || d.conditionBlocked l

/-- R42, R43 for one load: a load that becomes blocked while energised is switched off at that event. -/
def DspLoad.reblock (l : DspLoad) (blocked : Bool) : DspLoad :=
  if blocked && l.on then { l.switchOff with blocked := true } else { l with blocked := blocked }

/-- R42: the blocked flags after a change of a blocking input. -/
def Dsp.reblock (d : Dsp) : Dsp :=
  { d with loads := Six.of fun l => (d.loads.get l).reblock (d.isBlocked l) }

/-! ## Reports, R45 -/

/-- The changes the DSP delivers at the event that makes them. -/
def Dsp.reports (old new : Dsp) : List Signal :=
  sigIf (old.heatOn != new.heatOn) (.iluHeat new.heatOn) ++
    sigIf (old.starved != new.starved || old.blocked != new.blocked) (.clcDispatch new.starved new.blocked)

/-- The DSP takes a new state of its own, posts its events and reports its changes. -/
def State.dspTo (new : Dsp) (events : List (EventCode × Nat × Word)) (s : State) : State :=
  ((s.setDsp new).postAll events).emit (Dsp.reports s.dsp new)

/-! ## The slot expiry, R29 to R37 -/

/-- Step 1, R30 and R31. -/
def DspLoad.countAndAdd (l : DspLoad) : DspLoad :=
  { l with
    runCount := satSucc 2 l.runCount
    acc := if l.fitted && !l.blocked then min 2000 (l.acc + l.demand) else l.acc }

/-- Step 2, R32. -/
def DspLoad.continueOrRelease (l : DspLoad) : DspLoad :=
  if l.on && l.runCount == 2 && l.acc < 1000 then l.switchOff else l

/-- R33: a candidate for switch-on. -/
def DspLoad.candidate (l : DspLoad) : Bool :=
  !l.on && l.fitted && !l.blocked && decide (1000 ≤ l.acc) && l.runCount == 2

/-- A load put into a list ordered by descending accumulator, before the loads of equal accumulator. -/
def Dsp.insertDescending (d : Dsp) (l : Load) : List Load → List Load
  | [] => [l]
  | m :: rest =>
    if (d.loads.get m).acc ≤ (d.loads.get l).acc then l :: m :: rest else m :: d.insertDescending l rest

/-- R33: the candidates by descending accumulator, lower index first among equals. -/
def Dsp.candidates (d : Dsp) : List Load :=
  (Load.all.filter fun l => (d.loads.get l).candidate).foldr d.insertDescending []

/-- R34: a load fits when the energised sum plus its rated power is H or less. -/
def Dsp.fits (d : Dsp) (l : Load) : Bool := decide (d.energisedSum + (d.loads.get l).rated ≤ d.headroom)

/-- A load switched on: its run count restarts and a starved load is unmarked (R34, R37). -/
def DspLoad.switchOn (l : DspLoad) : DspLoad :=
  { l with on := true, runCount := 0, starved := false, starveCount := if l.starved then 0 else l.starveCount }

/-- Step 3, R34: the first candidate in order that fits is switched on. -/
def Dsp.switchOn (d : Dsp) : Dsp :=
  match d.candidates.find? d.fits with
  | none => d
  | some l => d.setLoad l (d.loads.get l).switchOn

/-- Step 4, R35. -/
def DspLoad.subtract (l : DspLoad) : DspLoad := if l.on then { l with acc := l.acc - 1000 } else l

/-- R36: waiting at a full accumulator. -/
def DspLoad.waits (l : DspLoad) : Bool :=
  l.fitted && !l.blocked && !l.on && decide (0 < l.demand) && decide (l.acc = 2000)

/-- Step 5, R36. -/
def DspLoad.starve (l : DspLoad) : DspLoad :=
  let n := if l.waits then satSucc 8 l.starveCount else 0
  { l with starveCount := n, starved := l.starved || n == 8 }

/-- The five steps of Table 2-3. -/
def Dsp.expire (d : Dsp) : Dsp :=
  let d1 := { d with slotTimer := 500, loads := d.loads.map fun (l : DspLoad) => l.countAndAdd.continueOrRelease }
  let d3 := d1.switchOn
  { d3 with loads := d3.loads.map fun (l : DspLoad) => l.subtract.starve }

/-- R36: LOAD_STARVED for each load newly marked, in index order where several are marked at one expiry
(DESIGN CHOICE, log 42). -/
def Dsp.starvedEvents (old new : Dsp) : List (EventCode × Nat × Word) :=
  (Load.all.filter fun l => (new.loads.get l).starved && !(old.loads.get l).starved).map fun l =>
    (.loadStarved, l.index, word new.headroom)

/-- R29: one slot expiry. A load unmarked at step 3 is energised, so step 5 does not mark it again. -/
def State.dspSlotExpiry (s : State) : State :=
  let d := s.dsp.expire
  s.dspTo d (Dsp.starvedEvents s.dsp d)

/-! ## Applied limit and shedding, R28, R38, R39 -/

/-- An energised load put into a list of ascending accumulator, after the loads of lower index and equal
accumulator are to be taken: higher index first. -/
def Dsp.insertAscending (d : Dsp) (l : Load) : List Load → List Load
  | [] => [l]
  | m :: rest =>
    if (d.loads.get l).acc < (d.loads.get m).acc then l :: m :: rest else m :: d.insertAscending l rest

/-- R38: the energised loads by ascending accumulator, higher index first among equals. -/
def Dsp.shedOrder (d : Dsp) : List Load :=
  (Load.all.filter fun l => (d.loads.get l).on).foldr d.insertAscending []

/-- R38: loads are switched off one at a time until the energised sum is H or less. -/
def Dsp.shed : List Load → Dsp → Dsp
  | [], d => d
  | l :: rest, d =>
    if d.energisedSum ≤ d.headroom then d else Dsp.shed rest (d.setLoad l (d.loads.get l).switchOff)

/-- How many loads one dispatcher holds on that another does not. -/
def Dsp.switchedOff (old new : Dsp) : Nat :=
  (Load.all.filter fun l => (old.loads.get l).on && !(new.loads.get l).on).length

/-- R28, R38, R39: the DSP takes a new applied limit. -/
def State.dspLimit (l : Nat) (s : State) : State :=
  let d := { s.dsp with limit := l }
  let d' := Dsp.shed d.shedOrder d
  let n := Dsp.switchedOff d d'
  s.dspTo d' (if n = 0 then [] else [(.loadShed, n, word d'.headroom)])

/-! ## Demands, R27 and R37 -/

/-- R27, R37: a write of the stored value has no effect; a write of 0 unmarks a starved load. -/
def DspLoad.writeDemand (l : DspLoad) (d : Nat) : DspLoad :=
  if d = l.demand then l
  else if d = 0 && l.starved then { l with demand := 0, starved := false, starveCount := 0 }
  else { l with demand := d }

/-- R12: the CLC writes the five element demands. -/
def Dsp.writeElements (d : Dsp) (w : Six Nat) : Dsp :=
  { d with loads :=
    { top := d.loads.top.writeDemand w.top
      bottom := d.loads.bottom.writeDemand w.bottom
      ringA := d.loads.ringA.writeDemand w.ringA
      ringB := d.loads.ringB.writeDemand w.ringB
      grill := d.loads.grill.writeDemand w.grill
      boiler := d.loads.boiler } }

def State.dspDemands (w : Six Nat) (s : State) : State := s.dspTo (s.dsp.writeElements w) []

/-- R84: the SGC writes the BOILER demand. -/
def State.dspBoiler (w : Nat) (s : State) : State :=
  s.dspTo (s.dsp.setLoad .boiler (s.dsp.loads.boiler.writeDemand w)) []

/-! ## Blocking inputs -/

def State.dspFan (level : Nat) (s : State) : State := s.dspTo (Dsp.reblock { s.dsp with fan := level }) []

def State.dspLow (covered : Bool) (s : State) : State := s.dspTo (Dsp.reblock { s.dsp with low := covered }) []

/-- R40: the trip's place joins the trip block set of every load its action set names, or leaves every set. The DRY
trip is besides the DRY state of R41. -/
def Dsp.takeTrip (d : Dsp) (place : Place) (actions : Word) (active : Bool) : Dsp :=
  { d with
    dry := if place = Place.dry then active else d.dry
    loads := Six.of fun l =>
      let x := d.loads.get l
      if active then (if Actions.load actions l then { x with tripBlock := x.tripBlock.set place true } else x)
      else { x with tripBlock := x.tripBlock.set place false } }

def State.dspTrip (place : Place) (actions : Word) (active : Bool) (s : State) : State :=
  s.dspTo (s.dsp.takeTrip place actions active).reblock []

/-- R26: the rated powers and the configuration state are taken at CONFIGURED, and are then fixed until the next
reset. -/
def State.dspConfigured (rated : Six Nat) (s : State) : State :=
  if s.dsp.configured then s
  else
    s.dspTo
      (Dsp.reblock
        { s.dsp with
          configured := true
          loads := Six.of fun l => { s.dsp.loads.get l with rated := rated.get l } })
      []

end Sys2Proof.Machine
end

