-- ==== Sys2Proof/Machine/Climate.lean ====
section
/-! DEFINITION. The Climate Controller (chapter 1, R1 to R25). -/

namespace Sys2Proof.Machine

/-- Heating is suspended in every run state but RUNNING (section 1.3). -/
def Clc.suspended (c : Clc) : Bool := c.run != .running

/-- A run is RUNNING or PAUSED. -/
def RunState.live (r : RunState) : Bool := r == .running || r == .paused

/-- R2: the cavity temperature is unavailable until the window has received its first reading. -/
def Clc.available (c : Clc) : Bool := !c.window.isEmpty

/-! ## What follows from the CLC's state: fan, preheat, heat limitation -/

/-- R18: the level driven on FAN0 and FAN1. In FINISHING the run-on sets it (R19). -/
def Clc.fanFor (c : Clc) : Nat :=
  if c.fanOffTrips.any then 0
  else match c.run with
    | .idle => 0
    | .finishing => if c.runOn.isSome then 1 else 0
    | _ => match c.mode with
      | none => 0
      | some m => max m.row.minFan c.fanField

/-- R16. With the cavity temperature unavailable, or no run RUNNING or PAUSED, it is false (DEDUCED, log 18). -/
def Clc.preheatFor (c : Clc) : Bool :=
  c.run.live && c.available &&
    match c.mode, c.setpoint with
    | some .fanOnly, _ => true
    | some m, some sp => decide (sp - 50 ≤ c.temp) && (!(m.isSteam && decide (0 < c.humidity)) || c.steaming)
    | _, _ => false

/-- Whether a load flag is set for any load weighted in the mode. -/
def Mode.anyWeighted (m : Mode) (flags : Six Bool) : Bool :=
  (m.weighted .top && flags.top) || (m.weighted .bottom && flags.bottom) || (m.weighted .ringA && flags.ringA) ||
    (m.weighted .ringB && flags.ringB) || (m.weighted .grill && flags.grill)

/-- R17. -/
def Clc.heatLimitedFor (c : Clc) : Bool :=
  match c.mode with
  | none => false
  | some m => m.anyWeighted c.starved

/-- The fan level, preheat condition and heat-limited indication brought up to date. -/
def Clc.refresh (c : Clc) : Clc :=
  { c with fanLevel := c.fanFor, preheat := c.preheatFor, heatLimited := c.heatLimitedFor }

/-- R16, R18: the changes that the CLC delivers. -/
def Clc.reports (old new : Clc) : List Signal :=
  (if old.fanLevel != new.fanLevel then [.dspFan new.fanLevel, .iluFan new.fanLevel] else []) ++
    sigIf (old.preheat != new.preheat) (.rsqPreheat new.preheat)

/-- The CLC takes a new state of its own and delivers what follows from it, then `after`. -/
def State.clcTo (new : Clc) (after : List Signal) (s : State) : State :=
  let c := new.refresh
  (s.setClc c).emit (Clc.reports s.clc c ++ after)

/-! ## Vent, R20 to R23 -/

/-- R20: a build without a vent acts on no command after CONFIGURED. -/
def Clc.ventDead (c : Clc) : Bool := c.configured && !c.ventFitted

/-- R21: an open command, in any vent state. -/
def Clc.openVent (c : Clc) : Clc :=
  if c.ventDead then c else { c with vent := .opening, ventTimer := some 6000 }

/-- R22: a close command; withheld while a trip has vent-open (R20). -/
def Clc.closeVent (c : Clc) : Clc :=
  if c.ventDead || c.ventOpenTrips.any then c
  else if c.ventIn && (c.vent == .opened || c.vent == .closed) then { c with vent := .closed, ventTimer := none }
  else { c with vent := .closing, ventTimer := some 8000 }

/-- The command for a position. -/
def Clc.driveVent (c : Clc) : VentPos → Clc
  | .opened => c.openVent
  | .closed => c.closeVent

/-- R20: the position a vent field and a humidity target call for. -/
def ventAskedFor (f : VentField) (humidity : Nat) : VentPos :=
  match f with
  | .opened => .opened
  | .closed => .closed
  | .auto => if 0 < humidity then .closed else .opened

/-! ## The PI update, R10 to R13 -/

/-- R10: the error, clamped. -/
def Clc.error (c : Clc) (sp : Int) : Int := clampInt (-1000) 1000 (sp - c.temp)

/-- R11: growth of the integral is frozen after a saturated effort, and while a weighted load is starved or
blocked. -/
def Clc.frozen (c : Clc) (m : Mode) : Bool :=
  c.lastEffort == 1000 || m.anyWeighted c.starved || m.anyWeighted c.blocked

/-- R11: the new integral for an error. -/
def Clc.integralFor (c : Clc) (m : Mode) (e : Int) : Int :=
  let i := c.integral + (e * m.row.ki).tdiv 256
  clampInt 0 1000 (if c.integral < i && c.frozen m then c.integral else i)

/-- R10, R11: the effort and the integral after an update. -/
def Clc.effortFor (c : Clc) (m : Mode) (sp : Int) : Int × Int :=
  let e := c.error sp
  if !c.available then (0, c.integral)
  else if 200 < e then (1000, c.integral)
  else if e < -100 then (0, c.integral)
  else
    let i := c.integralFor m e
    (clampInt 0 1000 ((e * m.row.kp).tdiv 64 + i), i)

/-- R12: the element demands of an effort. -/
def demandsFor (m : Mode) (u : Nat) : Six Nat := m.row.weights.map fun w => u * w / 100

/-- R13: the element want of the demands. -/
def wantFor (rated demands : Six Nat) : Nat :=
  ceilDiv (rated.top * demands.top) 1000 + ceilDiv (rated.bottom * demands.bottom) 1000 +
    ceilDiv (rated.ringA * demands.ringA) 1000 + ceilDiv (rated.ringB * demands.ringB) 1000 +
    ceilDiv (rated.grill * demands.grill) 1000

/-- The demands and the want that follow from an effort, and their deliveries: the demands always (R12), the want when
it changes (R13). -/
def Clc.withDemands (c : Clc) (d : Six Nat) : Clc := { c with demands := d, want := wantFor c.rated d }

def Clc.demandSignals (old new : Clc) : List Signal :=
  .dspDemands new.demands :: sigIf (old.want != new.want) (.lsuElementWant new.want)

/-- R10 to R13: one PI update. -/
def Clc.piUpdate (c : Clc) : Clc :=
  match c.mode, c.setpoint with
  | some m, some sp =>
    let r := c.effortFor m sp
    { c with lastEffort := r.1, integral := r.2 }.withDemands (demandsFor m r.1.toNat)
  | _, _ => c

/-- A setpoint is active (section 1.3). -/
def Clc.setpointActive (c : Clc) : Bool := c.mode.isSome && c.setpoint.isSome

/-- R8, R9: a PI update with the control timer restarted, while a setpoint is active and heating is not suspended. -/
def State.clcUpdate (s : State) : State :=
  if s.clc.setpointActive && !s.clc.suspended then
    let c := { s.clc.piUpdate with controlTimer := some 2000 }
    s.clcTo c (Clc.demandSignals s.clc c)
  else s

/-- R9: the control timer's expiry. -/
def State.clcControlExpiry (s : State) : State := if s.clc.controlTimer.isSome then s.clcUpdate else s

/-! ## Measurement, R1 to R5 -/

/-- R2: the readings window after a good reading. -/
def Clc.windowWith (c : Clc) (r : Int) : List Int :=
  if c.window.isEmpty then [r, r, r, r] else (if c.window.length < 4 then c.window else c.window.drop 1) ++ [r]

/-- R2, R3: one cavity reading. -/
def Clc.takeCavity (c : Clc) (r : Int) : Clc :=
  if -400 ≤ r ∧ r ≤ 4000 then
    let w := c.windowWith r
    { c with window := w, temp := (w.foldl (· + ·) 0).tdiv 4, badCount := 0, sensorFailed := false }
  else
    let n := satSucc 3 c.badCount
    { c with badCount := n, sensorFailed := c.sensorFailed || n == 3 }

/-- R4: whether the core reading is valid. -/
def Clc.coreValid (c : Clc) : Bool := c.configured && c.probeFitted && c.probeIn

/-- R4: one core reading. -/
def Clc.takeCore (c : Clc) (r : Int) : Clc :=
  { c with core := if c.coreValid then some (clampInt 0 1200 r) else none }

/-- R5: one boiler reading. -/
def Clc.takeBoiler (c : Clc) (r : Int) : Clc := { c with boiler := clampInt 0 2000 r }

/-- R19: the end of the run-on. -/
def Clc.runOnOver (c : Clc) : Bool := c.runOn.isSome && c.available && decide (c.temp ≤ 800)

/-- R1: the changed values are delivered to the blocks that consume them. -/
def Clc.measureSignals (old new : Clc) : List Signal :=
  sigIf (old.temp != new.temp || old.boiler != new.boiler || old.sensorFailed != new.sensorFailed)
      (.iluClimate new.temp new.boiler new.sensorFailed) ++
    (if old.boiler != new.boiler then [.sgcBoiler new.boiler, .sduBoiler new.boiler] else []) ++
    sigIf (old.core != new.core) (.rsqCore new.core)

/-- R1: one measurement expiry. -/
def State.clcMeasure (cavity core boiler : Int) (s : State) : State :=
  let c := { ((s.clc.takeCavity cavity).takeCore core).takeBoiler boiler with measureTimer := 250 }
  if c.runOnOver then
    let c' := { c with runOn := none }
    s.clcTo c' (Clc.measureSignals s.clc c' ++ [.rsqRunOnEnd])
  else s.clcTo c (Clc.measureSignals s.clc c)

/-- R19: the run-on timer's expiry. -/
def State.clcRunOnExpiry (s : State) : State :=
  if s.clc.runOn.isSome then s.clcTo { s.clc with runOn := none } [.rsqRunOnEnd] else s

/-! ## Deliveries to the CLC -/

/-- R8: a step handed over by the RSQ. In FAN_ONLY the demands and the want become 0 at this event; otherwise the
update of R8 follows, once the fan's change has reached the dispatcher. -/
def State.clcStep (l : LiveStep) (s : State) : State :=
  let asked := ventAskedFor l.vent l.humidity
  let c := { s.clc with
    integral := 0, mode := some l.mode, setpoint := l.setpoint, humidity := l.humidity, fanField := l.fan,
    ventField := some l.vent, ventAsked := some asked, runOn := none, controlTimer := none }
  let c := c.driveVent asked
  match l.setpoint with
  | none =>
    let c := c.withDemands (Six.all 0)
    s.clcTo c (Clc.demandSignals s.clc c)
  | some _ => s.clcTo c (sigIf (!c.suspended) .clcUpdate)

/-- R14: heating suspended. -/
def Clc.suspend (c : Clc) : Clc :=
  { c with lastEffort := 0, controlTimer := none }.withDemands (Six.all 0)

/-- R14 at entry to FINISHING or IDLE. -/
def Clc.forget (c : Clc) : Clc := { c with setpoint := none, mode := none, integral := 0, humidity := 0 }

/-- R9, R14, R18, R19, R20: a change of the run state. -/
def State.clcRun (r : RunState) (s : State) : State :=
  let c := { s.clc with run := r }
  match r with
  | .running =>
    -- R9, R19: a run start during the run-on stops its timer; the end of a suspension takes an update
    s.clcTo (if s.clc.run == .finishing then { c with runOn := none } else c)
      (sigIf c.setpointActive .clcUpdate)
  | .paused =>
    let c := (if s.clc.run == .finishing then { c with runOn := none } else c).suspend
    s.clcTo c (Clc.demandSignals s.clc c)
  | .finishing =>
    let c := { c.suspend.forget with ventField := none, ventAsked := none, runOn := some 0 }.openVent
    if c.runOnOver then
      s.clcTo { c with runOn := none } (Clc.demandSignals s.clc c ++ [.rsqRunOnEnd])
    else s.clcTo c (Clc.demandSignals s.clc c)
  | .idle =>
    let c := { c.suspend.forget with runOn := none }
    s.clcTo c (Clc.demandSignals s.clc c)

/-- R15, R20: an ADJUST accepted by the RSQ. -/
def State.clcAdjust (setpoint : Option Int) (humidity fan : Option Nat) (s : State) : State :=
  let c := s.clc
  let c := if setpoint.isSome then { c with setpoint := setpoint } else c
  let c := match fan with
    | some f => { c with fanField := f }
    | none => c
  let c := match humidity with
    | none => c
    | some h =>
      let c := { c with humidity := h }
      if c.ventField = some .auto && c.ventAsked != some (ventAskedFor .auto h) then
        { c with ventAsked := some (ventAskedFor .auto h) }.driveVent (ventAskedFor .auto h)
      else c
  s.clcTo c []

/-- R18, R23, R24: a trip activation or clearing. -/
def State.clcTrip (place : Place) (actions : Word) (active : Bool) (s : State) : State :=
  let c := s.clc
  if active then
    let c := if Actions.fanOff actions then { c with fanOffTrips := c.fanOffTrips.set place true } else c
    let c := if Actions.ventOpen actions then
        { c with ventOpenTrips := c.ventOpenTrips.set place true }.openVent else c
    s.clcTo c []
  else
    let held := c.ventOpenTrips.any
    let c := { c with
      fanOffTrips := c.fanOffTrips.set place false, ventOpenTrips := c.ventOpenTrips.set place false }
    if held && !c.ventOpenTrips.any && c.run.live && c.ventAsked == some .closed then s.clcTo c.closeVent []
    else s.clcTo c []

/-- R4: filtered PROBE; the core reading becomes absent at the event at which PROBE turns absent. -/
def State.clcProbe (present : Bool) (s : State) : State :=
  let c := { s.clc with probeIn := present, core := if present then s.clc.core else none }
  s.clcTo c (sigIf (s.clc.core != c.core) (.rsqCore c.core))

/-- R22, R23: filtered VENT_CLOSED. VENT_FAULT carries value 0 (DESIGN CHOICE, log 41). -/
def State.clcVent (closed : Bool) (s : State) : State :=
  let c := { s.clc with ventIn := closed }
  if c.ventDead then s.clcTo c []
  else match c.vent with
    | .opening => s.clcTo c []
    | .closing => s.clcTo (if closed then { c with vent := .closed, ventTimer := none } else c) []
    | .opened => s.clcTo (if closed then { c with vent := .closed } else c) []
    | .closed =>
      if closed then s.clcTo c []
      else (s.post .ventFault 1 0).clcTo { c with vent := .opened } []

/-- R21: the open drive's expiry. -/
def State.clcOpenExpiry (s : State) : State :=
  if s.clc.vent == .opening && s.clc.ventTimer.isSome then
    s.clcTo { s.clc with vent := .opened, ventTimer := none } []
  else s

/-- R22: the close drive's expiry. VENT_FAULT carries value 0 (DESIGN CHOICE, log 41). -/
def State.clcCloseExpiry (s : State) : State :=
  if s.clc.vent == .closing && s.clc.ventTimer.isSome then
    (s.post .ventFault 0 0).clcTo { s.clc with vent := .opened, ventTimer := none } []
  else s

/-- R16: the generator state. -/
def State.clcGenerator (g : GenState) (s : State) : State := s.clcTo { s.clc with steaming := g == .steaming } []

/-- R17, R45: the dispatcher's flags. -/
def State.clcDispatch (starved blocked : Six Bool) (s : State) : State :=
  s.clcTo { s.clc with starved := starved, blocked := blocked } []

/-- R186, R20: the loads record. A build without a vent stops a drive in progress and counts the vent as OPEN. -/
def State.clcConfigured (r : LoadsRecord) (s : State) : State :=
  let c := { s.clc with configured := true, rated := r.rated, probeFitted := r.probe, ventFitted := r.vent }
  s.clcTo (if r.vent then c else { c with vent := .opened, ventTimer := none }) []

end Sys2Proof.Machine
end

