-- ==== Sys2Proof/Machine/Share.lean ====
section
/-! DEFINITION. The Load Share Unit (chapter 3, R47 to R73). -/

namespace Sys2Proof.Machine

/-! ## Claims -/

/-- X more demanding than Y in a field (section 3). -/
def Claim.moreDemanding (x y : Claim) : Bool := decide (y.floor < x.floor) || decide (y.want < x.want) || decide (x.cls < y.cls)

/-- The meet of two claims: the less demanding value of each field. -/
def Claim.meet (x y : Claim) : Claim := ⟨min x.floor y.floor, min x.want y.want, max x.cls y.cls⟩

/-- The extra of a claim: want minus floor. -/
def Claim.extra (c : Claim) : Nat := c.want - c.floor

/-- R48: the demand claim of the LSU's inputs. -/
def Lsu.demandClaim (l : Lsu) : Claim :=
  if l.configured then
    ⟨3 + l.floorInput, max (3 + l.floorInput) (3 + l.elementWant + l.boilerWant), l.classInput⟩
  else ⟨3, 3, 3⟩

/-! ## Allowance and applied limit, R58 to R61, R65, R68 -/

/-- The fixed share of an isolated station: floor(B / S_peak). -/
def Lsu.fixedShare (l : Lsu) : Nat := l.budget / l.peak

/-- R58: the claim a peer entry counts as. -/
def Lsu.counted (l : Lsu) (p : Peer) : Claim :=
  if p.silent then ⟨min p.want l.fixedShare, min p.want l.fixedShare, 0⟩ else ⟨p.floor, p.want, p.cls⟩

/-- The counted claims of all peer entries. -/
def Lsu.countedPeers (l : Lsu) : List Claim := l.peers.map l.counted

def sumFloors (cs : List Claim) : Nat := (cs.map (·.floor)).foldl (· + ·) 0

/-- The sum of the extras of the claims of a class. -/
def sumExtras (cs : List Claim) (k : Nat) : Nat := ((cs.filter (·.cls == k)).map (·.extra)).foldl (· + ·) 0

/-- R60: the extra that `own` receives when the remainder `r` is distributed over the claims `cs` (its own included),
class by class. -/
def ownExtra (own : Claim) (cs : List Claim) : List Nat → Nat → Nat
  | [], _ => 0
  | k :: rest, r =>
    let d := sumExtras cs k
    if own.cls = k then (if d ≤ r then own.extra else own.extra * r / d)
    else ownExtra own cs rest (if d ≤ r then r - d else 0)

/-- R59: the share of a claim `own` in a view of claims `others` under a budget. -/
def shareOf (budget : Nat) (own : Claim) (others : List Claim) : Nat :=
  let cs := own :: others
  let f := sumFloors cs
  if budget < f then own.floor * budget / f else own.floor + ownExtra own cs [0, 1, 2, 3] (budget - f)

/-- R59: the allowance A. -/
def Lsu.allowanceNow (l : Lsu) : Nat := shareOf l.budget l.cc l.countedPeers

/-- R68: the isolated limit. -/
def Lsu.isolatedLimit (l : Lsu) : Nat := min l.dc.want l.fixedShare

/-- R65: the applied limit of the mode. -/
def Lsu.limitNow (l : Lsu) : Nat :=
  match l.mode with
  | .waiting => 0
  | .listening => 0
  | .sharing => l.allowance
  | .isolated => l.isolatedLimit
  | .recovering => l.isolatedLimit

/-- R61, R65: A and L brought up to date. A depends only on B, the entries, S_peak and CC, so it is what its last
recomputation gave. -/
def Lsu.refresh (l : Lsu) : Lsu :=
  let l := { l with allowance := l.allowanceNow }
  { l with limit := l.limitNow }

/-- The LSU takes a new state of its own; it delivers a change of L (R66) and then `after`. -/
def State.lsuTo (new : Lsu) (after : List Signal) (s : State) : State :=
  let l := new.refresh
  (s.setLsu l).emit (sigIf (s.lsu.limit != l.limit) (.dspLimit l.limit) ++ after)

/-! ## Demand claim and fills, R50, R52 to R55 -/

/-- R54: whether a claim waits in the CLAIM slot, or is on its way there (DEDUCED, log 27). In SHARING a claim in flight
does not count as waiting (DESIGN CHOICE, log 43). -/
def State.claimWaits (s : State) : Bool :=
  s.slc.claimSlot.isSome || s.bus.any fun sig => match sig with
    | .slcClaim _ => true
    | _ => false

/-- An own claim is in flight. -/
def Slc.claimInFlight (l : Slc) : Bool :=
  match l.inFlight with
  | some ⟨.claim _, _, _⟩ => true
  | _ => false

/-- R52, R70: in LISTENING and RECOVERING the claim waits until it is reported sent or abandoned, so also in flight; a
claim handed over then takes the place of a frame that loses arbitration (R180; DEDUCED, log 43). -/
def State.claimUnsent (s : State) : Bool := s.claimWaits || s.slc.claimInFlight

/-- R54: DC differs from LC and the minimum interval is not running. -/
def Lsu.fillDue (l : Lsu) : Bool := l.lc != some l.dc && l.minInterval.isNone

/-- R50: what a change of DC leads to at the CLAIM slot, by mode. -/
def State.claimChange (l : Lsu) (s : State) : List Signal :=
  match l.mode with
  | .sharing => sigIf (s.claimWaits || l.fillDue) (.slcClaim l.dc)
  | .listening => sigIf (l.listen.isNone && s.claimUnsent) (.slcClaim l.dc)
  | .recovering => sigIf (l.listen.isNone && s.claimUnsent) (.slcClaim l.dc)
  | _ => []

/-- R50: DC recomputed after a change of its inputs. -/
def State.lsuInputs (new : Lsu) (s : State) : State :=
  let l := { new with dc := new.demandClaim }
  s.lsuTo l (if l.dc = s.lsu.dc then [] else s.claimChange l)

def State.lsuElementWant (w : Nat) (s : State) : State := s.lsuInputs { s.lsu with elementWant := w }

def State.lsuBoilerWant (w : Nat) (s : State) : State := s.lsuInputs { s.lsu with boilerWant := w }

/-- R49: each delivery replaces both inputs. -/
def State.lsuFloorClass (floor cls : Nat) (s : State) : State :=
  s.lsuInputs { s.lsu with floorInput := floor, classInput := cls }

def State.lsuConfigured (s : State) : State := s.lsuInputs { s.lsu with configured := true }

/-- R52, R70: the listen window's expiry. -/
def State.lsuListenExpiry (s : State) : State :=
  if s.lsu.listen.isSome then s.lsuTo { s.lsu with listen := none } [.slcClaim s.lsu.dc] else s

/-- R53: the claim period's expiry; the timer then stands stopped. -/
def State.lsuPeriodExpiry (s : State) : State :=
  if s.lsu.claimPeriod.isSome then
    s.lsuTo { s.lsu with claimPeriod := none }
      (match s.lsu.mode with
        | .sharing => [.slcClaim s.lsu.dc]
        | .listening => [.slcClaim s.lsu.dc]
        | .recovering => [.slcClaim s.lsu.dc]
        | _ => [])
  else s

/-- R54: the minimum interval's expiry. -/
def State.lsuIntervalExpiry (s : State) : State :=
  if s.lsu.minInterval.isSome then
    s.lsuTo { s.lsu with minInterval := none }
      (sigIf (s.lsu.mode == .sharing && s.lsu.lc != some s.lsu.dc) (.slcClaim s.lsu.dc))
  else s

/-- R64: the raise hold-off's expiry. -/
def State.lsuHoldOffExpiry (s : State) : State :=
  match s.lsu.holdOff, s.lsu.pc with
  | some _, some c => s.lsuTo { s.lsu with cc := c, pc := none, holdOff := none } []
  | _, _ => s

/-- R63: a sent claim processed: LC, CC, PC and the hold-off. -/
def Lsu.takeSent (l : Lsu) (c : Claim) : Lsu :=
  let cc := l.cc.meet c
  if c.moreDemanding cc then
    let restart := match l.pc with
      | none => true
      | some p => c.moreDemanding p
    { l with lc := some c, cc := cc, pc := some c, holdOff := if restart then some 2000 else l.holdOff }
  else { l with lc := some c, cc := cc, pc := none, holdOff := none }

/-- R52, R53, R54, R63, R70: the SLC reports an own claim sent. The minimum interval starts also at the claim that
enters SHARING (DEDUCED, log 12). -/
def State.lsuSent (c : Claim) (s : State) : State :=
  match s.lsu.mode with
  | .waiting => s
  | .isolated => s
  | _ => s.lsuTo { s.lsu.takeSent c with claimPeriod := some 1000, minInterval := some 200, mode := .sharing } []

/-- R55: an own claim abandoned on a conflict. -/
def State.lsuAbandoned (s : State) : State :=
  match s.lsu.mode with
  | .waiting => s
  | .isolated => s
  | _ => s.lsuTo { s.lsu with claimPeriod := some 1000 } []

/-! ## Peer table, R56 to R58 -/

/-- A table with the entry of a station put in its place or replaced. -/
def putPeer (p : Peer) : List Peer → List Peer
  | [] => [p]
  | q :: rest =>
    if p.station < q.station then p :: q :: rest
    else if p.station = q.station then p :: rest
    else q :: putPeer p rest

def findPeer (station : Nat) (ps : List Peer) : Option Peer := ps.find? (·.station == station)

/-- R58: S_peak after a table change. -/
def Lsu.withPeers (l : Lsu) (ps : List Peer) : Lsu := { l with peers := ps, peak := max l.peak (1 + ps.length) }

/-- R56: the fields of a claim are in order. -/
def claimFieldsValid (floor want cls : Nat) : Bool := decide (floor ≤ want) && decide (want ≤ 1023) && decide (cls ≤ 3)

/-- R56: a received claim. A claim that only restarts the age of a LIVE entry is no table change (R58), and leaves
S_peak as it is either way, since the number of entries stays. -/
def State.lsuClaim (source : Fin 8) (floor want cls : Nat) (s : State) : State :=
  if claimFieldsValid floor want cls then
    let l := s.lsu.withPeers (putPeer ⟨source.val, false, floor, want, cls, 0⟩ s.lsu.peers)
    match findPeer source.val s.lsu.peers with
    | none => (s.post .peerJoined source.val 0).lsuTo l []
    | some p => if p.silent then (s.post .peerJoined source.val 1).lsuTo l [] else s.lsuTo l []
  else s.emit [.slcCheckError]

/-- R57: a LIVE entry's age reaches 3.5 s. -/
def State.lsuPeerSilent (station : Nat) (s : State) : State :=
  match findPeer station s.lsu.peers with
  | none => s
  | some p =>
    if p.silent then s
    else (s.post .peerSilent station (word p.want)).lsuTo
      (s.lsu.withPeers (putPeer { p with silent := true, age := 3500 } s.lsu.peers)) []

/-- R57: a SILENT entry's age reaches 63.5 s. -/
def State.lsuPeerLost (station : Nat) (s : State) : State :=
  match findPeer station s.lsu.peers with
  | none => s
  | some p =>
    if p.silent then
      (s.post .peerLost station 0).lsuTo (s.lsu.withPeers (s.lsu.peers.filter (·.station != station))) []
    else s

/-! ## Line state reports, R51, R67, R69, R71 -/

/-- R51, R69: the SLC reports LINE_OK. -/
def State.lsuLineOk (s : State) : State :=
  match s.lsu.mode with
  | .waiting => s.lsuTo { s.lsu with mode := .listening, listen := some 3500 } []
  | .isolated =>
    if s.lsu.silenced then s
    else
      let l := s.lsu.limit
      let cc : Claim := ⟨min s.lsu.dc.floor l, l, s.lsu.dc.cls⟩
      (s.post .isolatedLeft 0 (word l)).lsuTo
        { s.lsu with mode := .recovering, cc := cc, listen := some 3500 } []
  | _ => s

/-- R67: entry to ISOLATED. -/
def Lsu.isolate (l : Lsu) : Lsu :=
  { l with
    mode := .isolated, listen := none, claimPeriod := none, minInterval := none, holdOff := none, pc := none }

/-- R67: LINE_FAULT, with subject 0, or SILENCED, with subject 1. -/
def State.lsuIsolate (subject : Nat) (l : Lsu) (s : State) : State :=
  (s.post .isolatedEntered subject (word l.isolatedLimit)).lsuTo l.isolate []

def State.lsuLineFault (s : State) : State := if s.lsu.mode = .isolated then s else s.lsuIsolate 0 s.lsu

def State.lsuSilenced (s : State) : State :=
  let l := { s.lsu with silenced := true }
  if s.lsu.mode = .isolated then s.lsuTo l [] else s.lsuIsolate 1 l

/-! ## READ_PEERS, R72 -/

def wordBytes (n : Nat) : List Byte := bytesOf (word n)

def flagByte (b : Bool) : Byte := if b then 1 else 0

def claimBytes (c : Claim) : List Byte := wordBytes c.floor ++ wordBytes c.want ++ [byte c.cls]

/-- Seven bytes of one entry in parts 3 to 5; FFh and zeros for no entry (Table 10-8). -/
def peerBytes : Option Peer → List Byte
  | none => [0xFF#8, 0, 0, 0, 0, 0, 0]
  | some p =>
    [byte p.station, byte ((if p.silent then 128 else 0) + secs p.age)] ++ wordBytes p.floor ++ wordBytes p.want ++
      [byte p.cls]

/-- Table 10-8, READ_PEERS; none for a part above 5. -/
def Lsu.partData (l : Lsu) (part : Nat) : Option (List Byte) :=
  match part with
  | 0 => some ([byte l.mode.code, flagByte l.silenced] ++ wordBytes l.budget ++ [byte l.peak] ++
      wordBytes l.allowance ++ wordBytes l.limit ++ [byte l.peers.length])
  | 1 => some (claimBytes l.dc ++ claimBytes l.cc)
  | 2 => some (match l.pc with
    | none => [0, 0, 0, 0, 0, 0]
    | some c => 1 :: claimBytes c)
  | 3 => some (peerBytes (l.peers[0]?) ++ peerBytes (l.peers[1]?))
  | 4 => some (peerBytes (l.peers[2]?) ++ peerBytes (l.peers[3]?))
  | 5 => some (peerBytes (l.peers[4]?) ++ peerBytes (l.peers[5]?))
  | _ => none

/-- R72: the reading changes no LSU state. -/
def State.takeReadPeers (payload : List Byte) (s : State) : State :=
  match s.lsu.partData (payload.headD 0).toNat with
  | none => s.refuse .badField
  | some d => s.answer .ok d

end Sys2Proof.Machine
end

