-- ==== Sys2Proof/Machine/Line.lean ====
section
/-! DEFINITION. The Share Line Controller (chapter 9, R170 to R183), and the bytes of frames (section 10.6.1). -/

namespace Sys2Proof.Machine

/-! ## Levels and cells, R170 and R171 -/

/-- R170: the line of two stations is dominant where one of them drives dominant. -/
def wired : Level → Level → Level
  | .dominant, _ => .dominant
  | .recessive, other => other

/-- R170: a data bit of 0 is dominant, a bit of 1 recessive. -/
def cellOfBit : Bool → Level
  | false => .dominant
  | true => .recessive

def bitOfCell : Level → Bool
  | .dominant => false
  | .recessive => true

/-- R171: the ten cells of a byte: a start cell, the data cells with the most significant bit first, a stop cell. -/
def byteCells (b : Byte) : List Level :=
  .dominant :: [7, 6, 5, 4, 3, 2, 1, 0].map (fun i => cellOfBit (b.getLsbD i)) ++ [.recessive]

/-- R171: each byte follows the last with no cell between. -/
def cellsOf (bytes : List Byte) : List Level := bytes.flatMap byteCells

/-- R171: the byte of eight data cells. -/
def byteOfCells (data : List Level) : Byte := byte (data.foldl (fun n c => 2 * n + (bitOfCell c).toNat) 0)

/-- R172: the idle count after a cell. -/
def idleCell (n : Nat) : Level → Nat
  | .dominant => 0
  | .recessive => satSucc 12 n

/-- R181: the dominant run after a cell. -/
def runCell (n : Nat) : Level → Nat
  | .dominant => satSucc 17 n
  | .recessive => 0

/-- R172, R181: the two counts over the cells read, those of a frame included (DEDUCED, log 47). -/
def Slc.counts (cells : List Level) (l : Slc) : Slc :=
  { l with idleCount := cells.foldl idleCell l.idleCount, dominantRun := cells.foldl runCell l.dominantRun }

def Slc.count (c : Level) (l : Slc) : Slc := l.counts [c]

/-! ## Frames, R171 and section 10.6.1 -/

/-- A frame's fields. -/
structure Frame where
  kind    : FrameKind
  source  : Nat
  dest    : Nat
  payload : List Byte
deriving DecidableEq, Repr

/-- The header byte: kind in bits 7 and 6, source in bits 5 to 3, destination in bits 2 to 0. -/
def Frame.header (f : Frame) : Byte := byte (64 * kindCode f.kind + 8 * (f.source % 8) + f.dest % 8)

/-- The bytes the check byte covers. -/
def Frame.body (f : Frame) : List Byte := f.header :: byte f.payload.length :: f.payload

/-- R171: the bytes of the frame as it is sent. -/
def Frame.bytes (f : Frame) : List Byte := f.body ++ [checkByte f.body]

/-- R171: the cells of the frame up to the stop cell of its check byte. The acknowledge cell and two recessive end cells
come after them. -/
def Frame.cells (f : Frame) : List Level := cellsOf f.bytes

/-- R171, R173: the frame that bytes read whole with a matching check byte make. -/
def Frame.ofBytes : List Byte → Option Frame
  | header :: length :: rest =>
    let n := length.toNat
    if n ≤ 16 && rest.length = n + 1 &&
        rest.getLast? == some (checkByte (header :: length :: rest.dropLast)) then
      some ⟨kindOfCode (header.toNat / 64), header.toNat / 8 % 8, header.toNat % 8, rest.dropLast⟩
    else none
  | _ => none

/-- A frame of the part, from its slot's contents (section 10.6.1). -/
def TxFrame.toFrame (own : Nat) : TxFrame → Frame
  | .claim c => ⟨.claim, own, 7, claimBytes c⟩
  | .answer a => ⟨.answer, own, a.dest.val, a.code :: byte a.result.code :: a.data⟩
  | .status p => ⟨.status, own, 7, p⟩

/-! ## Counters, R183 -/

def countMax : Nat := 65535

/-! ## SILENCED and conflicts, R176 and R177 -/

/-- The three slots and the frame in flight emptied. -/
def Slc.emptied (l : Slc) : Slc := { l with claimSlot := none, answerSlot := none, statusSlot := none, inFlight := none }

/-- R177: entry to SILENCED. -/
def State.enterSilenced (s : State) : State :=
  ((s.post .stationConflict s.slc.own (word s.slc.conflicts)).setSlc { s.slc.emptied with line := .silenced }).emit
    [.cmhSlotEmpty, .lsuSilenced]

/-- R176: a conflict counted; the third in a row silences the part. -/
def State.slcConflict (s : State) : State :=
  let l := { s.slc with conflicts := satSucc countMax s.slc.conflicts, consecutive := satSucc 3 s.slc.consecutive }
  let s := s.setSlc l
  if l.consecutive = 3 && l.line ≠ .silenced then s.enterSilenced else s

def State.slcCheckError (s : State) : State :=
  s.setSlc { s.slc with checkErrors := satSucc countMax s.slc.checkErrors }

/-! ## Receiving, R173 and R174 -/

/-- How a reception ends (R173). -/
inductive Ended where
  | whole
  | error (fault : ReceptionFault)
deriving DecidableEq, Repr

/-- R173, R177: a reception is begun in LINE_OK and SILENCED only. -/
def Slc.reads (l : Slc) : Bool := l.line == .lineOk || l.line == .silenced

/-- R173: what the bytes read so far end the reception as, if they end it. -/
def receptionEnd : List Byte → Option Ended
  | header :: length :: rest =>
    if 16 < length.toNat then some (.error .lengthAbove)
    else if rest.length = length.toNat + 1 then
      (if rest.getLast? == some (checkByte (header :: length :: rest.dropLast)) then some .whole
      else some (.error .checkMismatch))
    else none
  | _ => none

/-- R173: a reception under way at one cell: a start cell, a data cell, a stop cell, or a recessive cell where a start
cell is expected, of which two are tolerated. -/
def Slc.receiveCell (c : Level) (l : Slc) : Slc × Option Ended :=
  match l.rxCells with
  | .dominant :: data =>
    if data.length < 8 then ({ l with rxCells := .dominant :: (data ++ [c]) }, none)
    else
      match c with
      | .dominant => ({ l with rx := .ignoring, rxCells := [] }, some (.error .framing))
      | .recessive =>
        let bytes := l.rxBuffer ++ [byteOfCells data]
        match receptionEnd bytes with
        | none => ({ l with rxBuffer := bytes, rxCells := [] }, none)
        | some e => ({ l with rx := .ignoring, rxBuffer := bytes, rxCells := [] }, some e)
  | gap =>
    match c with
    | .dominant => ({ l with rxCells := [.dominant] }, none)
    | .recessive =>
      if gap.length < 2 then ({ l with rxCells := .recessive :: gap }, none)
      else ({ l with rx := .ignoring, rxCells := [] }, some (.error .truncated))

/-- R173: the receive state at one cell. -/
def Slc.hearCell (c : Level) (l : Slc) : Slc × Option Ended :=
  match l.rx with
  | .waiting =>
    if l.reads && c == .dominant then ({ l with rx := .receiving, rxBuffer := [], rxCells := [.dominant] }, none)
    else (l, none)
  | .receiving => l.receiveCell c
  | .ignoring => (l, none)

/-- R172, R173: the line is ignored until an idle gap exists. -/
def Slc.gap (l : Slc) : Slc :=
  if l.reads && l.rx == .ignoring && l.idleCount == 12 then { l with rx := .waiting } else l

/-! ## Line states, R181 and R182 -/

/-- R181: entry to LINE_FAULT. A reception under way ends uncounted. -/
def State.enterLineFault (s : State) : State :=
  ((s.post .lineFault 0 (if s.slc.line = .syncing then 0 else 1)).setSlc
    { s.slc.emptied with line := .lineFault, rx := .ignoring, rxCells := [], consecutive := 0 }).emit
    [.cmhSlotEmpty, .lsuLineFault]

/-- R181, R182: entry to LINE_OK, from LINE_FAULT with LINE_RESTORED posted, from SYNCING with no event. -/
def State.enterLineOk (s : State) : State :=
  ((if s.slc.line = .lineFault then s.post .lineRestored 0 0 else s).setSlc
    { s.slc with line := .lineOk, rx := .waiting }).emit [.lsuLineOk]

/-- R172, R173, R181, R182: what the two counts bring about at a cell: a run of 17 in SYNCING and LINE_OK, an idle count of
12 in every state. -/
def State.countsReached (s : State) : State :=
  let l := s.slc
  if (l.line = .syncing || l.line = .lineOk) && l.dominantRun = 17 then s.enterLineFault
  else if (l.line = .syncing || l.line = .lineFault) && l.idleCount = 12 then s.enterLineOk
  else s.setSlc l.gap

/-- R170: a cell after the reception has ended. -/
def State.passCell (c : Level) (s : State) : State := (s.setSlc (s.slc.count c)).countsReached

/-- R170: a cell is read: it is counted, the reception goes on with it, and the counts act. A stuck line ends a reception
uncounted (R181). -/
def State.hearCell (c : Level) (s : State) : State × Option Ended :=
  let (l, ended) := (s.slc.count c).hearCell c
  let t := (s.setSlc l).countsReached
  (t, if t.slc.line = .lineFault then none else ended)

/-- R181: LINE_FAULT, after dominant cells to a run of 17. -/
def State.slcLineFault (s : State) : State :=
  if s.slc.line = .syncing || s.slc.line = .lineOk then
    (s.setSlc (s.slc.counts (List.replicate 17 .dominant))).enterLineFault
  else s

/-- R181: LINE_RESTORED, after recessive cells to an idle count of 12. -/
def State.slcLineRestored (s : State) : State :=
  if s.slc.line = .lineFault then (s.setSlc (s.slc.counts (List.replicate 12 .recessive))).enterLineOk else s

/-- R182: FIRST_IDLE_GAP, after recessive cells to an idle count of 12. -/
def State.slcFirstGap (s : State) : State :=
  if s.slc.line = .syncing then (s.setSlc (s.slc.counts (List.replicate 12 .recessive))).enterLineOk else s

/-! ## Examination, R174 -/

/-- The cells of a reception that are still to come: after an arbitration loss the first cells of the winning frame have
been read (R175). None where the part is sending, or another frame's cells have been read (DEDUCED, log 28). -/
def Slc.toCome (l : Slc) (cells : List Level) : Option (List Level) :=
  if l.inFlight.isSome then none
  else if l.rx = .receiving then
    (if l.rxBuffer.isEmpty && l.rxCells.isPrefixOf cells then some (cells.drop l.rxCells.length) else none)
  else some cells

/-- Table 9-3: kind and destination agree. -/
def Frame.addressed (f : Frame) : Bool :=
  match f.kind with
  | .claim => f.dest == 7
  | .status => f.dest == 7
  | .command => f.dest != 7
  | .answer => f.dest != 7

/-- The claim fields of a CLAIM payload (section 10.6.1). -/
def claimFields : List Byte → Option (Nat × Nat × Nat)
  | [f1, f0, w1, w0, k] => some ((wordOf f1 f0).toNat, (wordOf w1 w0).toNat, k.toNat)
  | _ => none

/-- What Table 9-3 makes of a frame. -/
inductive Verdict where
  | conflict
  | checkError
  | claim (floor want cls : Nat)
  | command
  | discard
deriving DecidableEq, Repr

/-- Table 9-3, in order, and R177 for SILENCED. A frame from source 7, which is no station, is discarded
(DESIGN CHOICE, log 10). In SILENCED what is no sound claim is discarded uncounted (DEDUCED, log 38). -/
def Slc.examine (l : Slc) (bufferFree : Bool) (f : Frame) : Verdict :=
  if f.source = l.own then .conflict
  else if f.source = 7 then .discard
  else if l.line = .silenced then
    match f.kind, claimFields f.payload with
    | .claim, some (floor, want, cls) => if f.addressed && l.own ≠ 7 then .claim floor want cls else .discard
    | _, _ => .discard
  else if !f.addressed then .checkError
  else
    match f.kind with
    | .claim => match claimFields f.payload with
      | some (floor, want, cls) => .claim floor want cls
      | none => .checkError
    | .command => if f.dest = l.own && bufferFree then .command else .discard
    | .answer => .discard
    | .status => .discard

/-- R173, R174: the receiver after a frame read whole and its acknowledge cell; the line is then ignored until the next
idle gap. -/
def Slc.read (l : Slc) (f : Frame) (ack : Level) : Slc :=
  { l.counts (f.cells ++ [ack]) with rx := .ignoring, rxBuffer := f.bytes, rxCells := [] }

/-- A station number of a frame, as the source of a command. -/
def stationOf (n : Nat) : Fin 7 := if h : n < 7 then ⟨n, h⟩ else 0

/-- R174, R176, R177: a frame read whole with a matching check byte, at its acknowledge cell, where the other stations
make the level `others`. In LINE_OK the part drives the cell of an accepted frame dominant. -/
def State.examined (f : Frame) (others : Level) (s : State) : State :=
  let after := fun own => s.passCell (wired own others)
  match s.slc.examine s.cmh.buffer.isNone f with
  | .conflict => (after .recessive).slcConflict
  | .checkError => (after .recessive).slcCheckError
  | .claim floor want cls =>
    (after (if s.slc.line = .lineOk then .dominant else .recessive)).emit [.lsuClaim (Fin.ofNat 8 f.source) floor want cls]
  | .command =>
    (after .dominant).emit [.cmhCommand ⟨stationOf f.source, f.payload.head?, f.payload.drop 1⟩]
  | .discard => after .recessive

/-- R173, Table 9-4: an ended reception that is no frame is counted. -/
def State.receptionFault : ReceptionFault → State → State
  | .truncated, s => s.setSlc { s.slc with truncated := satSucc countMax s.slc.truncated }
  | .framing, s => s.slcCheckError
  | .lengthAbove, s => s.slcCheckError
  | .checkMismatch, s => s.slcCheckError

/-- R172 to R177, R181, R182: cells are read, one after another. A reception that ends as an error is counted; a frame
read whole, `frame` of its bytes, is examined at the cell after it. Answers the state at the last cell that leaves no
reception under way, `kept` where there is none: cells that begin a reception and do not end it, and a frame without its
acknowledge cell, are left out (DESIGN CHOICE, log 9). -/
def State.hear (frame : List Byte → Option Frame) : List Level → (kept s : State) → State
  | [], kept, _ => kept
  | c :: rest, kept, s =>
    match s.hearCell c with
    | (t, none) => State.hear frame rest (if t.slc.rx = .receiving then kept else t) t
    | (t, some (.error fault)) =>
      State.hear frame rest (t.receptionFault fault) (t.receptionFault fault)
    | (t, some .whole) =>
      match rest, frame t.slc.rxBuffer with
      | ack :: more, some f => State.hear frame more (t.examined f ack) (t.examined f ack)
      | _, _ => kept

/-- R173 to R177: the cells of a frame and its acknowledge cell are read. While the line is ignored, they are counted and
nothing else. -/
def State.receive (f : Frame) (others : Level) (s : State) : State :=
  match s.slc.toCome f.cells with
  | none => s
  | some cells => State.hear (fun _ => some f) (cells ++ [others]) s s

/-- R173, R181, R182: the cells of a reception that ends as an error, with what its cells bring about on the way. -/
def State.slcReceptionError (cells : List Level) (s : State) : State :=
  match s.slc.toCome cells with
  | none => s
  | some rest => State.hear Frame.ofBytes rest s s

/-- R174: bytes that make a frame read whole are examined. -/
def State.slcFrame (bytes : List Byte) (others : Level) (s : State) : State :=
  match Frame.ofBytes bytes with
  | some f => s.receive f others
  | none => s

/-! ## Sending, R172, R175, R176, R178, R180 -/

/-- R180: the occupied slot of lowest kind number. -/
def Slc.offer (l : Slc) : Option TxFrame :=
  match l.claimSlot, l.answerSlot, l.statusSlot with
  | some c, _, _ => some (.claim c)
  | none, some a, _ => some (.answer a)
  | none, none, some p => some (.status p)
  | none, none, none => none

/-- R179: a frame leaves its slot at its start cell. -/
def Slc.leaveSlot (l : Slc) : TxFrame → Slc
  | .claim _ => { l with claimSlot := none }
  | .answer _ => { l with answerSlot := none }
  | .status _ => { l with statusSlot := none }

/-- R172, R179, R180: the SLC starts to send, in an idle gap. -/
def State.slcStart (s : State) : State :=
  let l := s.slc
  if l.line = .lineOk && l.inFlight.isNone && l.rx ≠ .receiving && l.idleCount = 12 then
    match l.offer with
    | some f =>
      s.setSlc { (l.leaveSlot f).count .dominant with
        inFlight := some ⟨f, (f.toFrame l.own).bytes, 0⟩, rx := .waiting }
    | none => s
  else s

/-- R171: the cells of the own frame up to the stop cell of its check byte. -/
def InFlight.cells (f : InFlight) : List Level := cellsOf f.bytes

/-- The level that the part drives at a cell of its frame. -/
def InFlight.level (f : InFlight) (cell : Nat) : Level := f.cells.getD cell .recessive

/-- R175, R176: a cell still to come, driven recessive, at which a mismatch can be read. -/
def InFlight.mismatches (f : InFlight) (cell : Nat) : Bool :=
  decide (f.cell < cell) && decide (cell < f.cells.length) && f.level cell == .recessive

/-- The cells still to come of the own frame before a given one. No own frame makes a run of 17 or a gap (R181), so the
rows of sending count its cells and test no count. -/
def InFlight.until (f : InFlight) (cell : Nat) : List Level := (f.cells.take cell).drop (f.cell + 1)

/-- R170: the level the part drives at the SHARE pin. -/
def Slc.drives (l : Slc) : Level :=
  match l.inFlight with
  | some f => f.level f.cell
  | none => .recessive

/-- R180: a lost frame returns to its slot if the slot is empty. -/
def Slc.returnFrame (l : Slc) : TxFrame → Slc
  | .claim c => { l with claimSlot := l.claimSlot.or (some c) }
  | .answer a => { l with answerSlot := l.answerSlot.or (some a) }
  | .status p => { l with statusSlot := l.statusSlot.or (some p) }

/-- R175: arbitration lost at one of the two kind cells and the three source cells, cells 1 to 5 of the frame; the SLC
goes on as the receiver of the winning frame, with the header cells it has read. -/
def State.slcLoss (bit : Fin 5) (s : State) : State :=
  match s.slc.inFlight with
  | some f =>
    let cell := bit.val + 1
    if f.mismatches cell then
      s.setSlc { (s.slc.counts (f.until cell ++ [.dominant])).returnFrame f.frame with
        inFlight := none, arbitrationLosses := satSucc countMax s.slc.arbitrationLosses, rx := .receiving,
        rxBuffer := [], rxCells := f.cells.take cell ++ [.dominant] }
    else s
  | none => s

/-- R176: what an abandoned frame is reported as. -/
def abandonedSignals : TxFrame → List Signal
  | .claim _ => [.lsuAbandoned]
  | .answer _ => [.cmhSlotEmpty]
  | .status _ => []

/-- R176: a mismatch after the source cells, from the destination cells to the stop cell of the check byte. -/
def State.slcMismatch (cell : Nat) (s : State) : State :=
  match s.slc.inFlight with
  | some f =>
    if f.mismatches cell && decide (6 ≤ cell) then
      ((s.setSlc { s.slc.counts (f.until cell ++ [.dominant]) with
        inFlight := none, rx := .ignoring, rxCells := [] }).emit (abandonedSignals f.frame)).slcConflict
    else s
  | none => s

/-- R178: the acknowledge cell of the own frame. The two end cells after it are recessive cells of a quiet line. -/
def State.slcAcknowledge (read : Level) (s : State) : State :=
  match s.slc.inFlight with
  | some f =>
    let l := { s.slc.counts (f.until f.cells.length ++ [read]) with inFlight := none, consecutive := 0 }
    match f.frame with
    | .claim c => (s.setSlc l).emit [.lsuSent c]
    | .status _ => s.setSlc l
    | .answer _ =>
      (s.setSlc (if read = .dominant then l else { l with undelivered := satSucc countMax l.undelivered })).emit
        [.cmhSlotEmpty]
  | none => s

/-! ## The passage of cells -/

/-- Ten cells in which no other station drives: the own frame in flight goes on, up to its acknowledge cell; while a frame
is being received nothing passes; a quiet line is read recessive. In SYNCING and LINE_FAULT the cells come with the rows
that end these states (DESIGN CHOICE, log 9). -/
def Slc.tick (l : Slc) : Slc :=
  if l.reads then
    match l.inFlight with
    | some f =>
      let cells := (f.cells.drop (f.cell + 1)).take 10
      { l.counts cells with inFlight := some { f with cell := f.cell + cells.length } }
    | none => if l.rx = .receiving then l else (l.counts (List.replicate 10 .recessive)).gap
  else l

/-! ## Slots, R179 -/

/-- R179: a frame handed over is discarded in LINE_FAULT and SILENCED. -/
def Slc.discards (l : Slc) : Bool := l.line == .lineFault || l.line == .silenced

def State.slcClaim (c : Claim) (s : State) : State :=
  if s.slc.discards then s else s.setSlc { s.slc with claimSlot := some c }

def State.slcStatus (payload : List Byte) (s : State) : State :=
  if s.slc.discards then s else s.setSlc { s.slc with statusSlot := some payload }

/-- R179: an ANSWER is taken only into an empty slot; one discarded on handing is reported at once. -/
def State.slcAnswer (a : Answer) (s : State) : State :=
  if s.slc.discards then s.emit [.cmhSlotEmpty]
  else if s.slc.answerSlot.isSome then s
  else s.setSlc { s.slc with answerSlot := some a }

/-! ## READ_LINE_COUNTS, R183 -/

/-- Table 10-8. -/
def Slc.countsData (l : Slc) : List Byte :=
  wordBytes l.checkErrors ++ wordBytes l.truncated ++ wordBytes l.arbitrationLosses ++ wordBytes l.undelivered ++
    wordBytes l.conflicts ++ [byte l.line.code, byte l.own]

def State.takeReadLineCounts (s : State) : State := s.answer .ok s.slc.countsData

end Sys2Proof.Machine
end

