-- ==== Sys2Proof/Machine/Scale.lean ====
section
/-! DEFINITION. The Scale and Descale Unit (chapter 5, R99 to R117). -/

namespace Sys2Proof.Machine

/-! ## Indications, R102 -/

/-- R102: steam locked. -/
def Sdu.steamLocked (d : Sdu) : Bool := decide (scaleLock ≤ d.scale)

/-- R102: descale active. -/
def Sdu.active (d : Sdu) : Bool := d.pstate != .idle

/-- R107: the SDU waits at a prompt. -/
def Sdu.atPrompt (d : Sdu) : Bool := d.pstate == .promptSolution || d.pstate == .promptWater

/-- The four values worth keeping (section 5.1.1). -/
def Sdu.keepValues (d : Sdu) : KeepValues := ⟨d.scale, d.hardness, d.rinse, d.count⟩

/-- R103: a keep-write request with the values as they stand. -/
def Sdu.keepSignal (d : Sdu) : Signal := .stcRequest (.keepWrite d.keepValues)

/-- R49, Table 3-2: the floor and class the SDU delivers. -/
def Sdu.floorSignal : Signal := .lsuFloorClass 0 3

/-- R102, R75: the indications and the program request, where they change. -/
def Sdu.reports (old new : Sdu) : List Signal :=
  sigIf (old.steamLocked != new.steamLocked || old.rinse != new.rinse) (.rsqLocks new.steamLocked new.rinse) ++
    (if old.active != new.active then [.iluDescale new.active, .rsqDescale new.active] else [])

def Sdu.requestSignals (old new : Sdu) : List Signal := sigIf (old.request != new.request) (.sgcProgram new.request)

/-- The SDU takes a new state of its own, delivers its indications, then `before` its program request. -/
def State.sduTo (new : Sdu) (before : List Signal) (s : State) : State :=
  (s.setSdu new).emit (Sdu.reports s.sdu new ++ before ++ Sdu.requestSignals s.sdu new)

/-! ## Scale load, R100, R101, R103 -/

/-- R100: the load after a refill cycle. -/
def Sdu.scaleAfterRefill (d : Sdu) : Nat := min 65535 (d.scale + hardnessWeight d.hardness)

/-- R101: a threshold crossed upward. -/
def crossed (t before after : Nat) : Bool := decide (before < t) && decide (t ≤ after)

/-- R101: the threshold events of an increment. -/
def scaleEvents (before after : Nat) : List (EventCode × Nat × Word) :=
  (if crossed scaleAdvise before after then [(.scaleAdvise, 0, word after)] else []) ++
    (if crossed scaleLock before after then [(.scaleLock, 0, word after)] else [])

/-- R100 to R103: a refill cycle completion. -/
def State.sduRefill (s : State) : State :=
  let d := { s.sdu with scale := s.sdu.scaleAfterRefill }
  (s.postAll (scaleEvents s.sdu.scale d.scale)).sduTo d
    (sigIf (decide (s.sdu.scale / 256 < d.scale / 256)) d.keepSignal)

/-- R104: the values of the start-up scan. -/
def State.sduScan (v : KeepValues) (source : ValueSource) (s : State) : State :=
  s.sduTo { s.sdu with scale := v.scale, hardness := v.hardness, rinse := v.rinse, count := v.count,
                       valueSource := source } []

/-! ## Program phases, R108 to R116 -/

/-- The program ended: R112, R115, R116. -/
def Sdu.ended (d : Sdu) : Sdu := { d with program := .none, pstate := .idle, request := .none, soaking := false }

/-- R108: entry to DRAW. -/
def Sdu.enterDraw (d : Sdu) : Sdu := { d with pstate := .draw, request := .fill }

/-- R109: entry to SOAK. -/
def Sdu.enterSoak (d : Sdu) : Sdu := { d with pstate := .soak, soak := 0, soaking := false, request := .warm }

/-- R110: entry to DRAIN. -/
def Sdu.enterDrain (d : Sdu) : Sdu := { d with pstate := .drain, soaking := false, request := .drain }

/-- R111: entry to RINSE_FILL. -/
def Sdu.enterRinseFill (d : Sdu) : Sdu := { d with pstate := .rinseFill, request := .fill }

/-- R111: entry to RINSE_DRAIN. -/
def Sdu.enterRinseDrain (d : Sdu) : Sdu := { d with pstate := .rinseDrain, request := .drain }

/-- R108, R111: the SGC reports the fill ended. -/
def State.sduFillEnded (s : State) : State :=
  match s.sdu.pstate with
  | .draw => s.sduTo s.sdu.enterSoak []
  | .rinseFill => s.sduTo s.sdu.enterRinseDrain []
  | _ => s

/-- R112: completion of the program at the third rinse drain. -/
def State.sduComplete (s : State) : State :=
  let d := s.sdu
  let d' := if d.program = .descale then { d with scale := 0, rinse := false, count := satSucc 65535 d.count }
    else { d with rinse := false }
  let e := d'.ended
  (s.post .descaleDone (if d.program = .descale then 0 else 1) (word e.count)).sduTo e [e.keepSignal, Sdu.floorSignal]

/-- R110, R111, R112, R114, R116: the SGC reports the drain ended. -/
def State.sduDrainEnded (s : State) : State :=
  let d := s.sdu
  match d.pstate with
  | .soak => s.sduTo { d.enterDraw with soak := 0, soaking := false } []
  | .drain =>
    if d.round = 1 then s.sduTo { d.enterDraw with round := 2 } []
    else (s.post .prompt 21 0).sduTo { d with pstate := .promptWater, request := .none } []
  | .rinseDrain =>
    if d.rinseCounter < 3 then s.sduTo { d.enterRinseFill with rinseCounter := d.rinseCounter + 1 } []
    else s.sduComplete
  | .abortDrain => s.sduTo d.ended [Sdu.floorSignal]
  | _ => s

/-- R113: the generator enters or leaves WAIT_TANK with request source program. -/
def State.sduWait (entered : Bool) (s : State) : State :=
  let d := s.sdu
  if entered then
    match d.pstate with
    | .draw => (s.post .prompt 20 0).sduTo { d with resume := some .draw, pstate := .promptSolution } []
    | .soak =>
      (s.post .prompt 20 0).sduTo { d with resume := some .soak, pstate := .promptSolution, soaking := false } []
    | .rinseFill => (s.post .prompt 21 0).sduTo { d with resume := some .rinseFill, pstate := .promptWater } []
    | _ => s
  else
    match d.resume with
    | some p => s.sduTo { d with pstate := p, resume := none } []
    | none => s

/-- R109, R114: the generator state. FAULT stops the soak time. -/
def State.sduGenerator (g : GenState) (s : State) : State :=
  s.sduTo { s.sdu with gen := g, soaking := s.sdu.soaking && g != .fault } []

/-- R109: whether the soak time counts from a boiler reading on (DEDUCED, log 29). -/
def Sdu.soakCounts (d : Sdu) : Bool := d.pstate == .soak && decide (700 ≤ d.boiler) && d.gen != .fault

/-- R109: a boiler reading; a soak whose count stands at its full 1200 s is complete at the reading. -/
def State.sduBoiler (t : Int) (s : State) : State :=
  let d := { s.sdu with boiler := t }
  if d.pstate = .soak && 1200000 ≤ d.soak then s.sduTo d.enterDrain []
  else s.sduTo { d with soaking := d.soakCounts } []

/-- R109: the soak time reaches 1200 s, while it counts. -/
def State.sduSoakComplete (s : State) : State :=
  if s.sdu.pstate = .soak && (s.sdu.soaking || 1200000 ≤ s.sdu.soak) then
    s.sduTo { s.sdu.enterDrain with soak := 1200000 } []
  else s

def State.sduTank (present : Bool) (s : State) : State := s.sduTo { s.sdu with tank := present } []

def State.sduRun (r : RunState) (s : State) : State := s.sduTo { s.sdu with run := r } []

def State.sduConfigured (r : LoadsRecord) (s : State) : State :=
  s.sduTo { s.sdu with configured := true, fitted := r.generator } []

/-! ## Commands -/

/-- R99: SET_HARDNESS. -/
def State.takeSetHardness (payload : List Byte) (s : State) : State :=
  let given := (payload.headD 0).toNat
  let cls := clampNat 1 7 given
  let d := { s.sdu with hardness := cls }
  (s.sduTo d [d.keepSignal]).answer (if cls = given then .ok else .clamped) []

/-- The tests that R105 and R106 share, in order. -/
def Sdu.startRefusal (d : Sdu) : Option Result :=
  if !d.fitted then some .notFitted
  else if d.pstate ≠ .idle then some .wrongState
  else if d.run ≠ .idle then some .wrongState
  else if d.gen ≠ .empty && d.gen ≠ .cooling && d.gen ≠ .draining then some .wrongState
  else none

/-- R105: DESCALE_START. -/
def State.takeDescaleStart (s : State) : State :=
  match s.sdu.startRefusal with
  | some r => s.refuse r
  | none =>
    if s.sdu.rinse then s.refuse .rinseRequired
    else
      ((s.post .prompt 20 0).sduTo
        { s.sdu with program := .descale, round := 1, soak := 0, pstate := .promptSolution }
        [Sdu.floorSignal]).answer .ok []

/-- R106: RINSE_START. -/
def State.takeRinseStart (s : State) : State :=
  match s.sdu.startRefusal with
  | some r => s.refuse r
  | none =>
    if s.sdu.rinse then
      ((s.post .prompt 21 0).sduTo { s.sdu with program := .rinse, rinseCounter := 1, pstate := .promptWater }
        [Sdu.floorSignal]).answer .ok []
    else s.refuse .wrongState

/-- R107, R108, R111: a CONFIRM that the SDU takes itself. In a descaling program the rinse counter becomes 1 here, at the
first entry to RINSE_FILL, and reads until then as it stood before the program (DEDUCED, log 48). -/
def State.sduConfirm (s : State) : State :=
  let d := s.sdu
  if !d.tank then s.refuse .wrongState
  else if d.pstate = .promptSolution then
    let d' := { d.enterDraw with rinse := true }
    (s.sduTo d' [d'.keepSignal]).answer .ok []
  else if d.pstate = .promptWater then (s.sduTo { d.enterRinseFill with rinseCounter := 1 } []).answer .ok []
  else s.refuse .wrongState

/-- R115: DESCALE_ABORT. -/
def State.takeDescaleAbort (s : State) : State :=
  let d := s.sdu
  match d.pstate with
  | .idle => s.refuse .wrongState
  | .abortDrain => s.refuse .wrongState
  | _ =>
    if d.pstate = .promptSolution && d.resume.isNone then
      ((s.post .descaleAborted 0 1).sduTo d.ended [Sdu.floorSignal]).answer .ok []
    else
      ((s.post .descaleAborted (if d.program = .rinse then 1 else 0) (word d.pstate.code)).sduTo
        { d with pstate := .abortDrain, request := .drain, resume := none, soaking := false } []).answer .ok []

/-- R102, Table 10-8: READ_SCALE. -/
def Sdu.readData (d : Sdu) : List Byte :=
  wordBytes d.scale ++ [byte d.hardness, flagByte d.rinse] ++ wordBytes d.count ++
    [byte d.valueSource.code, byte d.program.code, byte d.pstate.code, byte d.round, byte d.rinseCounter] ++
    wordBytes (secs d.soak)

def State.takeReadScale (s : State) : State := s.answer .ok s.sdu.readData

end Sys2Proof.Machine
end

