-- ==== Sys2Proof/Machine/Steam.lean ====
section
/-! DEFINITION. The Steam Generator Controller (chapter 4, R74 to R98). -/

namespace Sys2Proof.Machine

/-! ## Requests and outputs -/

/-- The effective request of R76. -/
inductive Effective where
  | steam (h : Nat)
  | warm
  | stand
  | drain
deriving DecidableEq, Repr

/-- R76. -/
def Sgc.effective (g : Sgc) : Effective :=
  match g.source with
  | .none => .stand
  | .run => match g.cooking with
    | some h => .steam h
    | none => .stand
  | .program => match g.program with
    | .warm => .warm
    | .drain => .drain
    | _ => .stand

/-- The effective request asks for heat. -/
def Effective.isHeat : Effective → Bool
  | .steam _ => true
  | .warm => true
  | _ => false

/-- PUMP (Table 4-2, R93). -/
def Sgc.pump (g : Sgc) : Bool := (g.state == .filling || g.state == .refilling) && !g.pumpOff.any

/-- DRAIN (Table 4-2). -/
def Sgc.drainValve (g : Sgc) : Bool := g.state == .draining

/-- Table 4-4: the BOILER demand. -/
def Sgc.demandNow (g : Sgc) : Nat :=
  match g.state with
  | .heating => match g.effective with
    | .steam _ => 1000
    | .warm => g.warm
    | _ => 0
  | .steaming => match g.cooking with
    | some h => h * 10
    | none => 0
  | _ => 0

/-- R84, R85: the demand and the want brought up to date. -/
def Sgc.refresh (g : Sgc) : Sgc :=
  let d := g.demandNow
  { g with demand := d, want := ceilDiv (g.rated * d) 1000 }

/-! ## Reports, R84, R85, R96 -/

/-- R81, R96: entry to WAIT_TANK, delivered to the owner of the request. -/
def waitSignal (source : RequestSource) (entered : Bool) : List Signal :=
  match source with
  | .run => [.rsqTank entered]
  | .program => [.sduWait entered]
  | .none => []

/-- R96: the deliveries of a change of generator state. Any state that follows WAIT_TANK makes the exit from it (DEDUCED,
log 36). -/
def Sgc.stateSignals (old new : Sgc) : List Signal :=
  if old.state = new.state then []
  else
    [.clcGenerator new.state, .iluGenerator new.state] ++
      (if old.state = .waitTank then waitSignal old.source false else []) ++
      [.sduGenerator new.state] ++
      sigIf (old.state == .filling && (new.state == .heating || new.state == .standing)) .sduFillEnded ++
      sigIf (new.state == .empty) .sduDrainEnded ++
      (if new.state = .waitTank then waitSignal new.source true else [])

/-- R84, R85: the demand to the DSP and the want to the LSU, where they change. -/
def Sgc.demandSignals (old new : Sgc) : List Signal :=
  sigIf (old.demand != new.demand) (.dspBoiler new.demand) ++
    sigIf (old.want != new.want) (.lsuBoilerWant new.want)

/-- The SGC takes a new state of its own, delivers what changed, and then examines what its new state calls for. -/
def State.sgcTo (new : Sgc) (s : State) : State :=
  let g := new.refresh
  (s.setSgc g).emit (Sgc.demandSignals s.sgc g ++ Sgc.stateSignals s.sgc g ++ [.sgcEntry])

/-! ## Entering states -/

/-- R84: entry to HEATING, with the warming rule's first value under heat (warm). -/
def Sgc.enterHeating (g : Sgc) : Sgc :=
  match g.effective with
  | .warm => { g with state := .heating, warm := if g.boiler < 800 then 1000 else 0 }
  | _ => { g with state := .heating }

/-- R86, R80: entry to REFILLING, or to WAIT_TANK where the tank is absent. -/
def Sgc.enterRefilling (g : Sgc) (ret : Bool) : Sgc :=
  if g.tank then { g with state := .refilling, ret := some ret, fillTimer := some 60000 }
  else { g with state := .waitTank, ret := some ret, wait := some ⟨true, true⟩, fillTimer := none }

/-- R92: entry to EMPTY. No drain period is running, so drain extended is clear (Table 4-1; DEDUCED, log 20). -/
def Sgc.enterEmpty (g : Sgc) : Sgc :=
  { g with
    state := .empty, source := .none, ret := none, wait := none, fillTimer := none, drainTimer := none,
    extended := false }

/-- R90: entry to COOLING. -/
def Sgc.enterCooling (g : Sgc) : Sgc := { g with state := .cooling, fillTimer := none }

/-- R89: a drain ordered by the run's end or by the program. -/
def Sgc.drain (g : Sgc) : Sgc :=
  match g.state with
  | .filling => g.enterCooling
  | .heating => g.enterCooling
  | .steaming => g.enterCooling
  | .refilling => g.enterCooling
  | .standing => g.enterCooling
  | .waitTank => match g.wait with
    | some ⟨_, true⟩ => g.enterCooling
    | _ => g.enterEmpty
  | _ => g

/-- R77: what takes the generator out of EMPTY, and for whom. -/
def Sgc.leaves (g : Sgc) : Option RequestSource :=
  if !g.configured || !g.fitted then none
  else if g.program = .fill || g.program = .warm then some .program
  else if g.cooking.isSome && g.grant then some .run
  else none

/-- R77: leaving EMPTY. -/
def Sgc.leaveEmpty (g : Sgc) (src : RequestSource) : Sgc :=
  if g.tank then { g with state := .filling, source := src, fillTimer := some 90000 }
  else { g with state := .waitTank, source := src, wait := some ⟨false, false⟩ }

/-- R78, R87: where a fill, or a refill whose return state is given, leads when HIGH is covered. -/
def Sgc.filled (g : Sgc) (backToSteaming : Bool) : Sgc :=
  let g := { g with fillTimer := none }
  match g.effective with
  | .drain => g.enterCooling
  | .stand => { g with state := .standing }
  | _ => if backToSteaming then { g with state := .steaming } else g.enterHeating

/-- What the state calls for at its entry and at each event that bears on it: R77 in EMPTY, R78 in FILLING, R87 in
REFILLING, R83 in HEATING, R90 in COOLING. -/
def State.sgcEntry (s : State) : State :=
  let g := s.sgc
  match g.state with
  | .empty => match g.leaves with
    | some src => s.sgcTo (g.leaveEmpty src)
    | none => s
  | .filling => if g.high then s.sgcTo (g.filled false) else s
  | .refilling =>
    if g.high then (s.sgcTo (g.filled (g.ret == some true))).emit [.sduRefill] else s
  | .heating => match g.effective with
    | .steam _ => if 980 ≤ g.boiler then s.sgcTo { g with state := .steaming } else s
    | _ => s
  | .cooling =>
    if g.boiler ≤ 850 then s.sgcTo { g with state := .draining, drainTimer := some 30000, extended := false } else s
  | _ => s

/-! ## Changes of the requests, R74 to R77, R83, R88, R89 -/

/-- The state after a change of a request. -/
def Sgc.requestChanged (g : Sgc) : Sgc :=
  match g.state with
  | .heating => if g.effective = .stand then { g with state := .standing } else g
  | .steaming => if g.effective = .stand then { g with state := .standing } else g
  | .standing =>
    if g.effective.isHeat then (if g.low then g.enterHeating else g.enterRefilling false) else g
  | _ => g

/-- R74, R84: the cooking request. -/
def State.sgcCooking (h : Option Nat) (s : State) : State := s.sgcTo { s.sgc with cooking := h }.requestChanged

/-- R77: the steam grant. -/
def State.sgcGrant (set : Bool) (s : State) : State := s.sgcTo { s.sgc with grant := set }

/-- R75, R89: the program request. A DRAIN delivered in EMPTY is a completed drain at that event. -/
def State.sgcProgram (r : ProgRequest) (s : State) : State :=
  let g := { s.sgc with program := r }
  if r = .drain then
    (if g.state = .empty then (s.sgcTo g).emit [.sduDrainEnded] else s.sgcTo g.drain)
  else s.sgcTo g.requestChanged

/-- R89: the run-end drain order. -/
def State.sgcDrainOrder (s : State) : State := s.sgcTo s.sgc.drain

/-! ## Inputs, R80, R82, R86, R97 -/

/-- R82: where the wait record points. -/
def Sgc.resume (g : Sgc) : Sgc :=
  match g.wait with
  | some ⟨true, true⟩ => { g with state := .refilling, fillTimer := some 60000 }
  | some ⟨false, true⟩ => { g with state := .filling, fillTimer := some 90000 }
  | some ⟨false, false⟩ =>
    if (g.cooking.isSome && g.grant) || g.program = .fill || g.program = .warm then
      { g with state := .filling, fillTimer := some 90000 }
    else g.enterEmpty
  | _ => g.enterEmpty

/-- R79, R80: a fill or refill interrupted. -/
def Sgc.interrupt (g : Sgc) : Sgc :=
  { g with state := .waitTank, wait := some ⟨g.state == .refilling, true⟩, fillTimer := none }

/-- R77, R80, R82: filtered TANK. -/
def State.sgcTank (present settled : Bool) (s : State) : State :=
  let g := { s.sgc with tank := present, tankSettled := settled }
  if present = s.sgc.tank then s.sgcTo g
  else if present then (if g.state = .waitTank then s.sgcTo g.resume else s.sgcTo g)
  else if g.state = .filling || g.state = .refilling then s.sgcTo g.interrupt
  else s.sgcTo g

/-- R97: the start-up check. -/
def Sgc.startupCheck (g : Sgc) : Sgc :=
  if g.configured && g.fitted && g.lowSettled && !g.checkTaken then
    let g := { g with checkTaken := true }
    if g.state = .empty && g.low then { g with state := .cooling, source := .none } else g
  else g

/-- R86, R97: filtered LOW, with its settled state. -/
def State.sgcLow (covered settled : Bool) (s : State) : State :=
  let turned := s.sgc.low && !covered
  let g := { s.sgc with low := covered, lowSettled := settled }
  let g := if turned then
      (match g.state with
        | .heating => g.enterRefilling false
        | .steaming => g.enterRefilling true
        | _ => g)
    else g
  s.sgcTo g.startupCheck

/-- R78, R87: filtered HIGH. -/
def State.sgcHigh (covered settled : Bool) (s : State) : State :=
  s.sgcTo { s.sgc with high := covered, highSettled := settled }

/-- R84: the warming rule at a new reading. -/
def Sgc.warmAt (g : Sgc) : Nat :=
  if g.state = .heating && g.effective = .warm then
    (if g.boiler < 700 then 1000 else if 800 ≤ g.boiler then 0 else g.warm)
  else g.warm

/-- R83, R84, R90: a new boiler reading. -/
def State.sgcBoiler (t : Int) (s : State) : State :=
  let g := { s.sgc with boiler := t }
  s.sgcTo { g with warm := g.warmAt }

/-! ## Trips, R93 to R95 -/

/-- R94: entry to FAULT. No second drain period is running, so drain extended is clear (Table 4-1; DEDUCED, log 20). -/
def Sgc.enterFault (g : Sgc) : Sgc :=
  { g with state := .fault, fillTimer := none, drainTimer := none, extended := false }

/-- R93, R94, R95: a trip activation or clearing. -/
def State.sgcTrip (place : Place) (actions : Word) (active : Bool) (s : State) : State :=
  let g := s.sgc
  if active then
    let g := if Actions.pumpOff actions then { g with pumpOff := g.pumpOff.set place true } else g
    if place = Place.dry then s.sgcTo (if g.fitted then { g with dry := true }.enterFault else { g with dry := true })
    else s.sgcTo g
  else
    let g := { g with pumpOff := g.pumpOff.set place false }
    if place = Place.dry then
      (if g.state = .fault then s.sgcTo { g with dry := false }.enterCooling else s.sgcTo { g with dry := false })
    else s.sgcTo g

/-! ## Configuration, timers, confirmation -/

/-- R94, R95: a generator that becomes fitted while the DRY trip is active enters FAULT there (DEDUCED,
log 40). -/
def Sgc.faultAtFit (g : Sgc) : Sgc := if g.fitted && g.dry then g.enterFault else g

/-- R98: the fitted flag and the BOILER rated power. -/
def State.sgcConfigured (r : LoadsRecord) (s : State) : State :=
  s.sgcTo ({ s.sgc with configured := true, fitted := r.generator, rated := r.rated.boiler }.faultAtFit).startupCheck

/-- R79: the fill timer's expiry; it stands frozen while the pump is held off. -/
def State.sgcFillTimeout (s : State) : State :=
  let g := s.sgc
  if (g.state == .filling || g.state == .refilling) && g.fillTimer.isSome && !g.pumpOff.any then
    (if g.state = .filling then s.post .fillTimeout 0 90 else s.post .fillTimeout 1 60).sgcTo g.interrupt
  else s

/-- R91: the drain timer's expiry. -/
def State.sgcDrainExpiry (s : State) : State :=
  let g := s.sgc
  if g.state == .draining && g.drainTimer.isSome then
    if g.extended then (s.post .drainSlow 0 60).sgcTo g.enterEmpty
    else if g.low then s.sgcTo { g with extended := true, drainTimer := some 30000 }
    else s.sgcTo g.enterEmpty
  else s

/-- R82: a confirmation delivered to the SGC, which answers it. -/
def State.sgcConfirm (s : State) : State :=
  if s.sgc.state = .waitTank && s.sgc.tank then (s.sgcTo s.sgc.resume).answer .ok [] else s.refuse .wrongState

end Sys2Proof.Machine
end

