-- ==== Sys2Proof/Machine/Flags.lean ====
section
/-! DEFINITION. Indications formed from the state: the scale status, the remaining step seconds (R118), the STATUS
payload (R189, Table 10-5) and the output pins (Table 0-3). -/

namespace Sys2Proof.Machine

/-- R102 and Table 10-4: the scale status code. -/
def Sdu.status (d : Sdu) : Nat :=
  if d.rinse then 3 else if d.steamLocked then 2 else if scaleAdvise ≤ d.scale then 1 else 0

/-- R118: the remaining step seconds. -/
def Rsq.remaining (r : Rsq) : Nat :=
  if r.run.live then
    match r.live with
    | some l => if l.endKind.isTimed then l.duration - secs r.stepElapsed else 0
    | none => 0
  else 0

/-- Table 10-4: the active trip set. -/
def Ilu.activeTrips (i : Ilu) : Places := i.terms.map (·.active)

/-- 8000h for a value that is none (R189). -/
def wordOrNone (v : Option Int) : Word :=
  match v with
  | some i => wordOfInt i
  | none => 0x8000#16

/-- R189, Table 10-5: the STATUS payload of the values the blocks hold. -/
def State.statusPayload (s : State) : List Byte :=
  [byte (64 * s.rsq.run.code + 8 * s.rsq.phase.code + 4 * s.clc.heatLimited.toNat + 2 * s.cmh.configured.toNat +
      s.sdu.active.toNat),
    byte s.rsq.index, byte s.rsq.reasons.code] ++
    bytesOf (wordOfInt s.clc.temp) ++ bytesOf (wordOrNone s.clc.setpoint) ++ bytesOf (wordOrNone s.clc.core) ++
    wordBytes s.rsq.remaining ++
    [byte s.sgc.state.code, byte (64 * s.sdu.status + s.evq.queue.length), s.ilu.activeTrips.toByte] ++
    wordBytes s.lsu.limit

/-! ## Output pins, Table 0-3 -/

/-- VNT_OPN and VNT_CLS (Table 1-7). -/
def Clc.ventPins (c : Clc) : Bool × Bool := (c.vent == .opening && c.ventTimer.isSome, c.vent == .closing && c.ventTimer.isSome)

/-- FAN1 and FAN0: the fan level in binary (R18). -/
def Clc.fanPins (c : Clc) : Bool × Bool := (c.fanLevel / 2 % 2 == 1, c.fanLevel % 2 == 1)

/-- LD0 to LD5 (R45). -/
def Dsp.loadPins (d : Dsp) : Six Bool := d.loads.map (·.on)

/-- The drives of the actuators, loads, pump, drain valve, vent motor and fan, and the level driven at SHARE. -/
structure OutputPins where
  loads : Six Bool
  pump  : Bool
  drain : Bool
  vent  : Bool × Bool
  fan   : Bool × Bool
  share : Level
deriving DecidableEq, Repr

def State.outputs (s : State) : OutputPins where
  loads := s.dsp.loadPins
  pump  := s.sgc.pump
  drain := s.sgc.drainValve
  vent  := s.clc.ventPins
  fan   := s.clc.fanPins
  share := s.slc.drives

end Sys2Proof.Machine
end

