-- ==== Sys2Proof/Machine/Operands.lean ====
section
/-! DEFINITION. What commands and store words carry: steps and recipe records (R119, R144, Table 10-10), keep records
(R153, Table 10-11), and the payloads of CONFIG_LOADS, CONFIG_TERM and ADJUST (Table 10-7). -/

namespace Sys2Proof.Machine

/-- The bits of a word from `lo` up, `n` of them, as a number. -/
def field (w : Word) (lo n : Nat) : Nat := (w.extractLsb' lo n).toNat

/-! ## Steps -/

/-- Table 10-10: the number of presence marks of a step's presence word. -/
def presenceCount (w : Word) : Nat :=
  (w.getLsbD 15).toNat + (w.getLsbD 14).toNat + (w.getLsbD 13).toNat + (w.getLsbD 12).toNat

/-- An optional word: the first of the list, where it is marked. -/
def takeMarked (marked : Bool) : List Word → Option (Option Word × List Word)
  | w :: rest => if marked then some (some w, rest) else some (none, w :: rest)
  | [] => if marked then none else some (none, [])

/-- A step's fields from its first three words and its optional words. -/
def RawStep.ofWords (attributes setpoint presence : Word) (humidity duration core floor : Option Word) : RawStep where
  mode     := Mode.ofCode (field attributes 12 4)
  setpoint := setpoint.toInt
  fan      := field attributes 10 2
  vent     := VentField.ofCode (field attributes 8 2)
  endKind  := EndKind.ofCode (field attributes 5 3)
  preheat  := attributes.getLsbD 4
  hold     := attributes.getLsbD 3
  prompt   := field presence 0 8
  humidity := humidity.map (·.toNat)
  duration := duration.map (·.toNat)
  core     := core.map (·.toInt)
  floor    := floor.map (·.toNat)

/-- Tables 7-4 and 10-10: a step read from the head of a word list, and the words after it. -/
def parseStep : List Word → Option (RawStep × List Word)
  | attributes :: setpoint :: presence :: rest => do
    let (humidity, rest) ← takeMarked (presence.getLsbD 15) rest
    let (duration, rest) ← takeMarked (presence.getLsbD 14) rest
    let (core, rest) ← takeMarked (presence.getLsbD 13) rest
    let (floor, rest) ← takeMarked (presence.getLsbD 12) rest
    some (RawStep.ofWords attributes setpoint presence humidity duration core floor, rest)
  | _ => none

/-- R119. -/
def RawStep.sound (r : RawStep) (manual : Bool) : Bool :=
  match r.mode, r.vent, r.endKind with
  | some _, some _, some k =>
    (!k.isTimed || r.duration.isSome) && (!k.isCore || r.core.isSome) && (manual || k != .never)
  | _, _, _ => false

/-- Section 10.6: bits of a step's words that Table 10-10 does not give (DEDUCED, log 23). -/
def stepBitsGiven (attributes presence : Word) : Bool := field attributes 0 3 == 0 && field presence 8 4 == 0

/-- R122, Table 10-7: the step of a START_MANUAL payload; none where its length or a bit is wrong, or it is unsound
(DEDUCED, log 24). -/
def manualStep (payload : List Byte) : Option RawStep :=
  let ws := wordsOf payload
  match ws with
  | attributes :: _ :: presence :: _ =>
    if payload.length = 6 + 2 * presenceCount presence && stepBitsGiven attributes presence then
      match parseStep ws with
      | some (r, _) => if r.sound true then some r else none
      | none => none
    else none
  | _ => none

/-! ## The live step copy, R7 and R120 -/

/-- R7, R120: the setpoint taken. -/
def Mode.clampSetpoint (m : Mode) (sp : Int) : Option Int :=
  if m = .fanOnly then none else some (clampInt m.row.lo m.row.hi sp)

/-- R7, R120: the humidity taken, and whether it counts as clamped (DEDUCED, log 22). -/
def Mode.takeHumidity (m : Mode) (h : Option Nat) : Nat × Bool :=
  match h with
  | none => (if m.isSteam then m.row.humDef else 0, false)
  | some h =>
    if m.isSteam then (clampNat m.row.humLo m.row.humHi h, clampNat m.row.humLo m.row.humHi h != h)
    else (0, m != .fanOnly && h != 0)

/-- R120: the live step copy of a sound step. -/
def RawStep.live (r : RawStep) (m : Mode) (v : VentField) (k : EndKind) : LiveStep :=
  let sp := m.clampSetpoint r.setpoint
  let hum := m.takeHumidity r.humidity
  let fan := clampNat 0 3 r.fan
  let dur := r.duration.getD 0
  let core := r.core.getD 0
  let floor := r.floor.getD 0
  { mode := m, setpoint := sp, fan := fan, vent := v, endKind := k, preheat := r.preheat, hold := r.hold,
    prompt := r.prompt, humidity := hum.1,
    duration := if k.isTimed then clampNat 1 43200 dur else dur
    core := if k.isCore then clampInt 300 1200 core else core
    floor := clampNat 0 100 floor
    clamped :=
      (sp.isSome && sp != some r.setpoint) || hum.2 || fan != r.fan || (k.isTimed && clampNat 1 43200 dur != dur) ||
        (k.isCore && clampInt 300 1200 core != core) || clampNat 0 100 floor != floor }

def RawStep.toLive (r : RawStep) : Option LiveStep :=
  match r.mode, r.vent, r.endKind with
  | some m, some v, some k => some (r.live m v k)
  | _, _, _ => none

/-! ## Recipe records, R144 -/

/-- A recipe record: its number of words from the count word on, and its steps with their places. -/
structure Record where
  length : Nat
  steps  : List (StepEntry × RawStep)
deriving DecidableEq, Repr

/-- `n` sound steps from an offset on. -/
def parseSteps : Nat → Nat → List Word → Option (Nat × List (StepEntry × RawStep))
  | 0, offset, _ => some (offset, [])
  | n + 1, offset, ws =>
    match parseStep ws with
    | none => none
    | some (r, rest) =>
      let len := ws.length - rest.length
      if r.sound false then
        match parseSteps n (offset + len) rest with
        | none => none
        | some (stop, steps) => some (stop, (⟨offset, len⟩, r) :: steps)
      else none

/-- R144: a sound record, from its words from the count word on. The words are those of the sector, so a record that
does not fit in it is not sound. -/
def parseRecord : List Word → Option Record
  | [] => none
  | count :: rest =>
    let steps := field count 8 8
    let name := field count 0 8
    let nameWords := ceilDiv name 2
    if 1 ≤ steps && steps ≤ 12 && 1 ≤ name && name ≤ 20 && nameWords ≤ rest.length then
      match parseSteps steps (1 + nameWords) (rest.drop nameWords) with
      | none => none
      | some (stop, entries) => some ⟨stop, entries⟩
    else none

/-! ## Keep records, R153 and Table 10-11 -/

def keepMarker : Word := 0x7E01#16

/-- Table 7-7: the words of a keep record. -/
def KeepValues.words (v : KeepValues) : List Word :=
  let w1 := word v.scale
  let w2 := word (v.hardness + if v.rinse then 256 else 0)
  let w3 := word v.count
  [keepMarker, w1, w2, w3, 0xFFFF#16 - (keepMarker + w1 + w2 + w3)]

/-- R153: the values of a valid keep record. -/
def keepOfWords : List Word → Option KeepValues
  | [w0, w1, w2, w3, w4] =>
    let cls := field w2 0 8
    if w0 = keepMarker && 1 ≤ cls && cls ≤ 7 && field w2 9 7 = 0 && w0 + w1 + w2 + w3 + w4 = 0xFFFF#16 then
      some ⟨w1.toNat, cls, w2.getLsbD 8, w3.toNat⟩
    else none
  | _ => none

/-! ## CONFIG_LOADS, R186 -/

/-- R186: the loads record of a CONFIG_LOADS payload; none where it is refused. -/
def loadsOf : List Byte → Option LoadsRecord
  | [p0, p1, p2, p3, p4, p5, flags] =>
    let rated : Six Nat := ⟨p0.toNat, p1.toNat, p2.toNat, p3.toNat, p4.toNat, p5.toNat⟩
    let generator := flags.getLsbD 0
    if [p0, p1, p2, p3, p4, p5].all (fun p => p.toNat ≤ 150) && (flags.extractLsb' 3 5).toNat == 0 &&
        generator == (rated.boiler != 0) then
      some ⟨rated, generator, flags.getLsbD 1, flags.getLsbD 2⟩
    else none
  | _ => none

/-! ## CONFIG_TERM, R168 -/

/-- Table 10-7: an operand byte; none where a bit not given is set. -/
def operandOf (b : Byte) : Option Operand :=
  if (b.extractLsb' 4 3).toNat = 0 then some ⟨(b.extractLsb' 0 4).toFin, b.getLsbD 7⟩ else none

def TermFn.ofCode : Nat → TermFn
  | 0 => .and
  | 1 => .or
  | 2 => .xor
  | _ => .latch

/-- FAN_RUNNING's source number (Table 8-4). -/
def fanRunning : Fin 16 := 14

/-- R168: a LEVEL term with fan off on an operand FAN_RUNNING. -/
def Term.selfDefeating (t : Term) : Bool :=
  !t.latched && Actions.fanOff t.actions &&
    (t.a.source == fanRunning || t.b.source == fanRunning || t.c.source == fanRunning)

/-- R168: the index and the term of a CONFIG_TERM payload; none where it is refused. -/
def termOf : List Byte → Option (Fin 4 × Term)
  | [index, a, b, c, fn, persistence, act1, act0] => do
    let a ← operandOf a
    let b ← operandOf b
    let c ← operandOf c
    let actions := wordOf act1 act0
    let term : Term := { a := a, b := b, c := c, fn := TermFn.ofCode (fn.extractLsb' 0 2).toNat,
                         outInvert := fn.getLsbD 4, persistence := persistence.toNat, latched := fn.getLsbD 5,
                         actions := actions }
    if h : index.toNat < 4 then
      if (fn.extractLsb' 2 2).toNat = 0 && (fn.extractLsb' 6 2).toNat = 0 && actions &&& ~~~Actions.given = 0 &&
          !term.selfDefeating then
        some (⟨index.toNat, h⟩, term)
      else none
    else none
  | _ => none

/-! ## ADJUST, R138 -/

/-- The values of an ADJUST payload that are marked present. -/
structure Adjustment where
  setpoint  : Option Int
  humidity  : Option Nat
  fan       : Option Nat
  remaining : Option Nat
deriving DecidableEq, Repr

/-- Table 10-7: the values of an ADJUST payload; none where a mark not given is set, or no value is present. -/
def adjustmentOf : List Byte → Option Adjustment
  | [marks, s1, s0, h, f, r1, r0] =>
    if (marks.extractLsb' 4 4).toNat = 0 && marks ≠ 0 then
      some { setpoint := if marks.getLsbD 0 then some (wordOf s1 s0).toInt else none
             humidity := if marks.getLsbD 1 then some h.toNat else none
             fan := if marks.getLsbD 2 then some f.toNat else none
             remaining := if marks.getLsbD 3 then some (wordOf r1 r0).toNat else none }
    else none
  | _ => none

/-- R138: a present value that the live step does not use. -/
def Adjustment.unused (a : Adjustment) (l : LiveStep) : Bool :=
  (a.setpoint.isSome && l.mode == .fanOnly) || (a.humidity.isSome && !l.mode.isSteam) ||
    (a.remaining.isSome && !l.endKind.isTimed)

end Sys2Proof.Machine
end

