-- ==== Sys2Proof/Machine/Interlock.lean ====
section
/-! DEFINITION. The Interlock Unit (chapter 8, R156 to R169). -/

namespace Sys2Proof.Machine

/-! ## The inputs and their filter, R156 to R158 -/

/-- R156, R157: one sample of one input, with its filter length. -/
def InputState.take (i : InputState) (len : Nat) (sample : Bool) : InputState :=
  let count := if i.last = some sample then satSucc len i.count else 1
  let agreed := count == len
  { last := some sample, count := count, filtered := if agreed then sample else i.filtered,
    settled := i.settled || agreed }

/-- R158: a change that is delivered. -/
def InputState.changed (old new : InputState) : Bool := old.filtered != new.filtered || old.settled != new.settled

/-- R156: one sample of all eight inputs. -/
def takeSamples (i : Inputs InputState) (pins : Inputs Bool) : Inputs InputState where
  door       := i.door.take filterLength.door pins.door
  tank       := i.tank.take filterLength.tank pins.tank
  levelLow   := i.levelLow.take filterLength.levelLow pins.levelLow
  levelHigh  := i.levelHigh.take filterLength.levelHigh pins.levelHigh
  tray       := i.tray.take filterLength.tray pins.tray
  cutout     := i.cutout.take filterLength.cutout pins.cutout
  probe      := i.probe.take filterLength.probe pins.probe
  ventClosed := i.ventClosed.take filterLength.ventClosed pins.ventClosed

/-- R158, Table 8-3: the deliveries of changed inputs, each with the filtered value and the settled state. Where TANK or
LOW and HIGH change at one expiry, TANK is taken first, then LOW, and HIGH last (DESIGN CHOICE, log 44). -/
def inputSignals (old new : Inputs InputState) : List Signal :=
  (if old.tank.changed new.tank then
      [.sgcTank new.tank.filtered new.tank.settled, .sduTank new.tank.filtered new.tank.settled] else []) ++
    (if old.levelLow.changed new.levelLow then
      [.dspLow new.levelLow.filtered new.levelLow.settled, .sgcLow new.levelLow.filtered new.levelLow.settled]
      else []) ++
    sigIf (old.levelHigh.changed new.levelHigh) (.sgcHigh new.levelHigh.filtered new.levelHigh.settled) ++
    (if old.probe.changed new.probe then
      [.clcProbe new.probe.filtered new.probe.settled, .rsqProbe new.probe.filtered new.probe.settled] else []) ++
    sigIf (old.ventClosed.changed new.ventClosed) (.clcVent new.ventClosed.filtered new.ventClosed.settled)

/-- R157: all eight inputs have settled. -/
def Ilu.allSettled (i : Ilu) : Bool :=
  i.inputs.door.settled && i.inputs.tank.settled && i.inputs.levelLow.settled && i.inputs.levelHigh.settled &&
    i.inputs.tray.settled && i.inputs.cutout.settled && i.inputs.probe.settled && i.inputs.ventClosed.settled

/-! ## Sources and terms, R159 to R161 -/

/-- Table 8-4. -/
def Ilu.source (i : Ilu) (n : Fin 16) : Bool :=
  match n.val with
  | 0 => true
  | 1 => !i.inputs.door.filtered
  | 2 => !i.inputs.tank.filtered
  | 3 => i.inputs.levelLow.filtered
  | 4 => i.inputs.levelHigh.filtered
  | 5 => !i.inputs.tray.filtered
  | 6 => !i.inputs.cutout.filtered
  | 7 => i.inputs.probe.filtered
  | 8 => i.inputs.ventClosed.filtered
  | 9 => i.cavityOver
  | 10 => i.boilerOver
  | 11 => i.runActive
  | 12 => i.steamActive
  | 13 => i.descaleActive
  | 14 => i.fanRunning
  | _ => i.heatOn

/-- Section 8.3: an operand's value. -/
def Ilu.operand (i : Ilu) (o : Operand) : Bool := i.source o.source != o.invert

/-- R161: the latch after an update from the operand values. -/
def latchUpdate (latch a b c : Bool) : Bool := if a && c then true else if b then false else latch

/-- R160, R161: a term's latch and its output. -/
def Ilu.compute (i : Ilu) (t : Term) (latch : Bool) : Bool × Bool :=
  let a := i.operand t.a
  let b := i.operand t.b
  let c := i.operand t.c
  match t.fn with
  | .and => (latch, (a && b && c) != t.outInvert)
  | .or => (latch, (a || b || c) != t.outInvert)
  | .xor => (latch, (a ^^ b ^^ c) != t.outInvert)
  | .latch => let l := latchUpdate latch a b c; (l, l != t.outInvert)

/-- The configurable term held for a place. -/
def Ilu.held (i : Ilu) : Place → Option Term
  | 4 => i.t0
  | 5 => i.t1
  | 6 => i.t2
  | 7 => i.t3
  | _ => none

/-- R160, R161, R167: the latch and the output of the term at a place. -/
def Ilu.outputAt (i : Ilu) (p : Place) (latch : Bool) : Bool × Bool :=
  match p with
  | 0 => (latch, i.source 1)
  | 1 => (latch, i.source 6)
  | 2 => (latch, i.sensorCond)
  | 3 => (latch, i.dryCond)
  | _ => match i.held p with
    | some t => i.compute t latch
    | none => (latch, false)

/-- Table 8-6, R168: the persistence in units of 0.1 s. -/
def Ilu.persistence (i : Ilu) (p : Place) : Nat :=
  match i.held p with
  | some t => t.persistence
  | none => 0

/-- Table 8-6, R168: the mode, LATCHED or LEVEL. -/
def Ilu.latched (i : Ilu) (p : Place) : Bool :=
  match p with
  | 0 => false
  | 1 => true
  | 2 => true
  | 3 => true
  | _ => match i.held p with
    | some t => t.latched
    | none => false

/-- Table 8-6, R168: the action set. -/
def Ilu.actions (i : Ilu) (p : Place) : Word :=
  match p with
  | 0 => Actions.door
  | 1 => Actions.cutout
  | 2 => Actions.sensor
  | 3 => Actions.dry
  | _ => match i.held p with
    | some t => t.actions
    | none => 0

/-! ## Trips, R163 to R166 -/

def Ilu.setTerm (i : Ilu) (p : Place) (t : TermState) : Ilu := { i with terms := i.terms.set p t }

/-- R166: the deliveries of a trip's activation or clearing. -/
def tripSignals (p : Place) (actions : Word) (active : Bool) : List Signal :=
  [.dspTrip p actions active, .sgcTrip p actions active, .clcTrip p actions active, .rsqTrip p actions active]

/-- R166: a trip becomes active. -/
def State.tripSet (p : Place) (s : State) : State :=
  let i := s.ilu
  ((s.post .tripSet p.val (i.actions p)).setIlu
    (i.setTerm p { i.terms.get p with active := true, timer := none })).emit (tripSignals p (i.actions p) true)

/-- R166: a trip becomes inactive. -/
def State.tripCleared (p : Place) (byCommand : Bool) (s : State) : State :=
  let i := s.ilu
  ((s.post .tripCleared p.val (if byCommand then 1 else 0)).setIlu
    (i.setTerm p { i.terms.get p with active := false })).emit (tripSignals p (i.actions p) false)

/-- R160, R161, R163, R164: the term at a place recomputed, while it is evaluated. -/
def State.evaluate (p : Place) (s : State) : State :=
  let i := s.ilu
  let t := i.terms.get p
  match t.output with
  | none => s
  | some was =>
    let r := i.outputAt p t.latch
    let t' := { t with latch := r.1, output := some r.2 }
    if was = r.2 then s.setIlu (i.setTerm p t')
    else if r.2 then
      if t.active then s.setIlu (i.setTerm p t')
      else if i.persistence p = 0 then (s.setIlu (i.setTerm p t')).tripSet p
      else s.setIlu (i.setTerm p { t' with timer := some (100 * i.persistence p) })
    else
      let s' := s.setIlu (i.setTerm p { t' with timer := none })
      if t.active && !i.latched p then s'.tripCleared p false else s'

/-- The ILU takes new source values, and every term is recomputed once, in place order: sources and conditions that change
at one event, and terms that begin at one event, are taken together, and the order of several TRIP_SET and TRIP_CLEARED
entries is that of the places (DEDUCED, log 14). Recomputing a term whose operands have not changed changes nothing. -/
def State.iluTo (new : Ilu) (s : State) : State := Places.all.foldl (fun s p => s.evaluate p) (s.setIlu new)

/-- R162: a term begins to be evaluated, as though its output had been false. -/
def Ilu.beginTerm (i : Ilu) (p : Place) (begins : Bool) : Ilu :=
  if begins then i.setTerm p { i.terms.get p with output := some false, latch := false } else i

/-! ## Deliveries to the ILU -/

/-- R156 to R158: the sample expiry. The inputs that change at one expiry are taken together (DEDUCED, log 14), and a block
that takes both an input (R158) and a trip (R166) of one expiry takes the input first (DESIGN CHOICE, log 50). -/
def State.iluSample (pins : Inputs Bool) (s : State) : State :=
  let old := s.ilu.inputs
  let new := takeSamples old pins
  let i := { s.ilu with sampleTimer := 5, inputs := new }
  let i := i.beginTerm Place.door (!old.door.settled && new.door.settled)
  let i := i.beginTerm Place.cutout (!old.cutout.settled && new.cutout.settled)
  (s.emit (inputSignals old new)).iluTo i

/-- R159: the cavity temperature, the boiler reading and the sensor condition of one measurement expiry, taken together
(DEDUCED, log 14). -/
def State.iluClimate (temp boiler : Int) (sensor : Bool) (s : State) : State :=
  s.iluTo { s.ilu with
    cavityOver := decide (3000 < temp), boilerOver := decide (1100 < boiler), dryCond := decide (1400 < boiler),
    sensorCond := sensor }

def State.iluRun (r : RunState) (s : State) : State :=
  s.iluTo { s.ilu with runActive := r == .running || r == .paused }

def State.iluGenerator (g : GenState) (s : State) : State := s.iluTo { s.ilu with steamActive := g != .empty }

def State.iluDescale (active : Bool) (s : State) : State := s.iluTo { s.ilu with descaleActive := active }

def State.iluFan (level : Nat) (s : State) : State := s.iluTo { s.ilu with fanRunning := decide (1 ≤ level) }

def State.iluHeat (on : Bool) (s : State) : State := s.iluTo { s.ilu with heatOn := on }

/-- R162: the configured terms begin to be evaluated at CONFIGURED, in place order (DEDUCED, log 14). -/
def State.iluConfigured (s : State) : State :=
  let i := { s.ilu with configured := true }
  s.iluTo ((((i.beginTerm 4 i.t0.isSome).beginTerm 5 i.t1.isSome).beginTerm 6 i.t2.isSome).beginTerm 7 i.t3.isSome)

/-- R163: a persistence timer's expiry. -/
def State.iluPersistence (p : Place) (s : State) : State :=
  let t := s.ilu.terms.get p
  if t.timer.isSome && t.output == some true && !t.active then s.tripSet p else s

/-! ## Commands -/

/-- R168: CONFIG_TERM. -/
def State.takeConfigTerm (payload : List Byte) (s : State) : State :=
  match termOf payload with
  | none => s.refuse .badField
  | some (index, t) =>
    let i := s.ilu
    (s.setIlu (match index with
      | 0 => { i with t0 := some t }
      | 1 => { i with t1 := some t }
      | 2 => { i with t2 := some t }
      | 3 => { i with t3 := some t })).answer .ok []

/-- R165: CLEAR_TRIP. -/
def State.takeClearTrip (payload : List Byte) (s : State) : State :=
  let place := (payload.headD 0).toNat
  if h : place < 8 then
    let p : Place := ⟨place, h⟩
    let t := s.ilu.terms.get p
    if !t.active then s.refuse .wrongState
    else if t.output == some true then s.refuse .termStillTrue
    else (s.tripCleared p true).answer .ok []
  else s.refuse .badField

end Sys2Proof.Machine
end

