-- ==== Sys2Proof/Machine/Recipe.lean ====
section
/-! DEFINITION. The Recipe Sequencer (chapter 6, R118 to R140). -/

namespace Sys2Proof.Machine

/-! ## Values derived from the run context -/

def Reasons.any (r : Reasons) : Bool := r.door || r.trip || r.tank || r.probe || r.panel

/-- R133: TANK alone, or TANK and PANEL. -/
def Reasons.keepsRequest (r : Reasons) : Bool := r.tank && !r.door && !r.trip && !r.probe

/-- R133: the cooking request. -/
def Rsq.cookingNow (r : Rsq) : Option Nat :=
  match r.live with
  | none => none
  | some l =>
    if l.mode.isSteam && !r.readPending && (r.run == .running || (r.run == .paused && r.reasons.keepsRequest)) then
      some l.humidity
    else none

/-- Table 10-4 and Table 6-8: the slot as an event subject, 0 for a manual run. -/
def RunSource.slotNumber : RunSource → Nat
  | .slot n => n
  | _ => 0

/-- The live step is core-type. -/
def Rsq.coreStep (r : Rsq) : Bool :=
  match r.live with
  | some l => l.endKind.isCore
  | none => false

/-- R129: the core reading is at the live target or more. -/
def Rsq.coreReached (r : Rsq) : Bool :=
  match r.live, r.core with
  | some l, some c => l.endKind.isCore && decide (l.core ≤ c)
  | _, _ => false

/-- R118: the deliveries of a change of run state. -/
def Rsq.runSignals (old new : Rsq) : List Signal :=
  if old.run = new.run then []
  else [.iluRun new.run] ++ sigIf ((old.run == .idle) != (new.run == .idle)) (.sduRun new.run) ++
    [.clcRun new.run, .cmhRunState]

/-- R133: the cooking request, where it changes. -/
def Rsq.cookingSignals (old new : Rsq) : List Signal := sigIf (old.cooking != new.cooking) (.sgcCooking new.cooking)

/-- The RSQ takes a new state of its own; it delivers `before`, the cooking request (R133), `mid`, the run state (R118)
and `after`. -/
def State.rsqTo (new : Rsq) (before mid after : List Signal) (s : State) : State :=
  let r := { new with cooking := new.cookingNow }
  (s.setRsq r).emit (before ++ Rsq.cookingSignals s.rsq r ++ mid ++ Rsq.runSignals s.rsq r ++ after)

/-! ## Ending a run, R136 and R137 -/

def Rsq.finish (r : Rsq) : Rsq :=
  { r with run := .finishing, reasons := Reasons.none, phase := .none, readPending := false, grant := false,
           pauseTimer := 0 }

/-- R136: entry to FINISHING. -/
def State.rsqFinish (reason : EndReason) (s : State) : State :=
  (s.post .runEnded reason.code (word (secs s.rsq.runElapsed))).rsqTo s.rsq.finish [.sgcGrant false]
    [.sgcDrainOrder, .lsuFloorClass 0 3] []

/-- R137: the fan run-on has ended. The step elapsed is 0 in IDLE, as Table 6-7 shows it (DEDUCED, log 20). -/
def State.rsqRunOnEnd (s : State) : State :=
  if s.rsq.run = .finishing then
    s.rsqTo { s.rsq with
        run := .idle, source := .none, recipe := 0, stepCount := 1, index := 0, live := none, stepElapsed := 0 } []
      [.lsuFloorClass 0 3] []
  else s

/-! ## Step ends and step reads, R124 and R130 -/

/-- R124: the step read of the current index. -/
def Rsq.readSignals (r : Rsq) : List Signal :=
  match r.source, r.table[r.index]? with
  | .slot n, some e => [.stcRequest (.stepRead n e.offset e.length)]
  | _, _ => []

/-- R130: a step end. -/
def State.rsqStepEnd (s : State) : State :=
  if s.rsq.index + 1 < s.rsq.stepCount then
    let r := { s.rsq with index := s.rsq.index + 1, readPending := true, phase := .entry }
    s.rsqTo r [] [] r.readSignals
  else s.rsqFinish .normal

/-! ## Phases, R126 to R129 -/

/-- R129: entry to ACTIVE; a core reading already at the target ends the step there in a RUNNING run. -/
def State.rsqActive (s : State) : State :=
  let s := s.rsqTo { s.rsq with phase := .active } [] [] []
  if s.rsq.run = .running && s.rsq.coreReached then s.rsqStepEnd else s

/-- Cases 3 and 4 of R126. -/
def State.rsqPromptOrActive (l : LiveStep) (s : State) : State :=
  if l.prompt = 0 then s.rsqActive
  else (s.post .prompt l.prompt (word (256 + s.rsq.index))).rsqTo { s.rsq with phase := .waitConfirm } [] [] []

/-- R127: preheat is reached, where the run is RUNNING in PREHEAT and the condition is true. -/
def State.rsqPreheatTest (s : State) : State :=
  match s.rsq.live with
  | some l =>
    if s.rsq.phase = .preheat && s.rsq.run = .running && s.rsq.preheat then
      (s.post .preheatReached s.rsq.index (wordOfInt s.clc.temp)).rsqPromptOrActive l
    else s
  | none => s

/-- R126, from case 2 on. -/
def State.rsqDecide (l : LiveStep) (s : State) : State :=
  if l.preheat then (s.rsqTo { s.rsq with phase := .preheat } [] [] []).rsqPreheatTest else s.rsqPromptOrActive l

/-! ## The pause-reason set, R131 and R132 -/

/-- R132: the run state follows the set. Deliveries that would change it in IDLE or FINISHING are not kept. -/
def State.rsqReasons (reasons : Reasons) (s : State) : State :=
  let r := s.rsq
  if !r.run.live then s
  else if !r.reasons.any && reasons.any then
    (s.post .runPaused reasons.code (word r.index)).rsqTo
      { r with reasons := reasons, run := .paused, pauseTimer := 0 } [] [] []
  else if r.reasons.any && !reasons.any then
    (s.post .runResumed r.reasons.code (word (secs r.pauseTimer))).rsqTo
      { r with reasons := reasons, run := .running, pauseTimer := 0 } [] [] [.rsqResumed]
  else s.rsqTo { r with reasons := reasons } [] [] []

/-- R132: what the pause held back. -/
def State.rsqResumed (s : State) : State :=
  if s.rsq.run = .running && !s.rsq.readPending then
    if s.rsq.phase = .active then (if s.rsq.coreReached then s.rsqStepEnd else s) else s.rsqPreheatTest
  else s

/-- R126 case 1, R131: PROBE joins the set and the probe prompt is posted, also where PROBE is a member already
(DEDUCED, log 37). Where PROBE joins an empty set, PROMPT is posted before the RUN_PAUSED of R132
(DESIGN CHOICE, log 45). -/
def State.rsqProbePrompt (s : State) : State :=
  (s.post .prompt 10 (word (512 + s.rsq.index))).rsqReasons { s.rsq.reasons with probe := true }

/-- R131: filtered PROBE. While a step read is pending the step is not begun, and only a departure is taken
(DEDUCED, log 31). -/
def State.rsqProbe (present : Bool) (s : State) : State :=
  let s' := s.rsqTo { s.rsq with probe := present } [] [] []
  if present then
    (if s.rsq.reasons.probe then (s'.rsqReasons { s.rsq.reasons with probe := false }).emit [.rsqEntry] else s')
  else if s.rsq.probe && s.rsq.run.live && s.rsq.coreStep && !s.rsq.readPending && !s.rsq.reasons.probe then
    s'.rsqProbePrompt
  else s'

/-- R126: a step waiting in ENTRY takes the decision again, from case 2 on. -/
def State.rsqEntry (s : State) : State :=
  match s.rsq.live with
  | some l =>
    if s.rsq.phase = .entry && s.rsq.run.live && !s.rsq.readPending && !s.rsq.reasons.probe then s.rsqDecide l else s
  | none => s

/-- R126: the ENTRY decision. -/
def State.rsqEnter (l : LiveStep) (s : State) : State :=
  if l.endKind.isCore && !s.rsq.probe then s.rsqProbePrompt else s.rsqDecide l

/-! ## Step begin, R125 -/

/-- R125: the live copy and its deliveries; what depends on them follows. -/
def State.rsqBegin (step : RawStep) (s : State) : State :=
  match step.toLive with
  | some l =>
    if s.rsq.run.live then
      s.rsqTo { s.rsq with live := some l, stepElapsed := 0, readPending := false, phase := .entry } [.clcStep l]
        [.lsuFloorClass l.floor (if l.hold then 2 else 1)] [.rsqBegun]
    else s
  | none => s

/-- R125, R126: PROBE removed, STEP_BEGUN, and the ENTRY decision. -/
def State.rsqBegun (s : State) : State :=
  match s.rsq.live with
  | none => s
  | some l =>
    if !s.rsq.run.live || s.rsq.phase ≠ .entry then s
    else
      let s := if l.endKind.isCore then s else s.rsqReasons { s.rsq.reasons with probe := false }
      (s.post .stepBegun s.rsq.index (if l.clamped then 1 else 0)).rsqEnter l

/-! ## Run start, R121 to R123 -/

/-- R6: a mode is usable in the build. -/
def Rsq.usable (r : Rsq) (m : Mode) : Bool :=
  (m == .fanOnly || m.anyWeighted (r.rated.map (· != 0))) && (!m.isSteam || r.generator)

/-- R121, tests 6 to 8, over the modes and end kinds of the steps. -/
def Rsq.stepRefusal (r : Rsq) (steps : List RawStep) : Option Result :=
  let modes := steps.filterMap (·.mode)
  let kinds := steps.filterMap (·.endKind)
  if modes.any (fun m => !r.usable m) || (kinds.any (·.isCore) && !r.probeFitted) then some .notFitted
  else if modes.any (·.isSteam) && r.steamLocked then some .steamLocked
  else if r.rinse then some .rinseRequired
  else none

/-- R121, tests 2 to 4. -/
def Rsq.startRefusal (r : Rsq) : Option Result :=
  if r.run.live then some .wrongState
  else if r.descaleActive then some .wrongState
  else if r.abortTrips.any then some .wrongState
  else none

/-- R123: the run context of a run that starts. The live copy of a run cut short in FINISHING is cleared
(DEDUCED, log 20). -/
def Rsq.started (r : Rsq) (source : RunSource) (recipe count : Nat) (table : List StepEntry) : Rsq :=
  let reasons : Reasons := { Reasons.none with door := r.doorTrip, trip := r.pauseTrips.any }
  { r with
    source := source, recipe := recipe, stepCount := count, table := table, index := 0, stepElapsed := 0,
    runElapsed := 0, pauseTimer := 0, grant := !r.steamLocked && !r.rinse, reasons := reasons, live := none,
    startSlot := none, run := if reasons.any then .paused else .running }

/-- R123: RUN_STARTED, and RUN_PAUSED for a run that starts paused. -/
def Rsq.startEvents (r : Rsq) : List (EventCode × Nat × Word) :=
  (.runStarted, r.source.slotNumber, word r.recipe) ::
    (if r.run = .paused then [(.runPaused, r.reasons.code, 0)] else [])

/-- R123, R124: the run starts; `after` begins its first step or asks for it. -/
def State.rsqStart (r : Rsq) (after : List Signal) (s : State) : State :=
  (s.postAll r.startEvents).rsqTo r [.sgcGrant r.grant] [] after

/-- R122: START_MANUAL. -/
def State.takeStartManual (payload : List Byte) (s : State) : State :=
  match s.rsq.startRefusal with
  | some r => s.refuse r
  | none =>
    match manualStep payload with
    | none => s.refuse .badField
    | some step =>
      match s.rsq.stepRefusal [step], step.toLive with
      | some r, _ => s.refuse r
      | none, none => s.refuse .badField
      | none, some l =>
        (s.rsqStart (s.rsq.started .manual 0 1 []) [.rsqBegin step]).answer (if l.clamped then .clamped else .ok) []

/-- R121: RUN_RECIPE, tests 2 to 5, and the start read. -/
def State.takeRunRecipe (payload : List Byte) (s : State) : State :=
  let slot := (payload.headD 0).toNat
  match s.rsq.startRefusal with
  | some r => s.refuse r
  | none =>
    if 1 ≤ slot && slot ≤ 24 && s.stc.table[slot - 1]? == some .valid then
      s.rsqTo { s.rsq with startSlot := some slot } [] [] [.stcRequest (.startRead slot)]
    else s.refuse .badField

/-- R121: the start read completes with the words of the sector; test 4 again, then tests 6 to 8. A record that is no
longer sound is refused (DESIGN CHOICE, log 17). -/
def State.rsqStartRead (words : List Word) (s : State) : State :=
  match s.rsq.startSlot with
  | none => s
  | some slot =>
    let s := s.setRsq { s.rsq with startSlot := none }
    if s.rsq.abortTrips.any then s.refuse .wrongState
    else match parseRecord (words.drop 2) with
      | none => s.refuse .badField
      | some record =>
        match s.rsq.stepRefusal (record.steps.map (·.2)) with
        | some r => s.refuse r
        | none =>
          let r := s.rsq.started (.slot slot) (words.getD 1 0).toNat record.steps.length (record.steps.map (·.1))
          (s.rsqStart { r with readPending := true, phase := .entry } r.readSignals).answer .ok []

/-- R124: a step read completes. -/
def State.rsqStepRead (words : List Word) (s : State) : State :=
  if s.rsq.run.live && s.rsq.readPending then
    match parseStep words with
    | some (step, _) => s.rsqBegin step
    | none => s
  else s

/-! ## Deliveries from the other blocks -/

def State.rsqPreheat (on : Bool) (s : State) : State :=
  (s.rsqTo { s.rsq with preheat := on } [] [] []).rsqPreheatTest

/-- R129: the core reading. -/
def State.rsqCore (c : Option Int) (s : State) : State :=
  let s := s.rsqTo { s.rsq with core := c } [] [] []
  if s.rsq.run = .running && s.rsq.phase = .active && s.rsq.coreReached then s.rsqStepEnd else s

/-- R131: the set after the trips held by the RSQ. -/
def Rsq.tripReasons (r : Rsq) : Reasons := { r.reasons with door := r.doorTrip, trip := r.pauseTrips.any }

/-- R131: the trips the RSQ holds, in every run state. -/
def Rsq.takeTrip (r : Rsq) (place : Place) (actions : Word) (active : Bool) : Rsq :=
  if active then
    { r with
      doorTrip := r.doorTrip || place = Place.door
      pauseTrips := if Actions.pauseRun actions && place ≠ Place.door then r.pauseTrips.set place true else r.pauseTrips
      abortTrips := if Actions.abortRun actions then r.abortTrips.set place true else r.abortTrips }
  else
    { r with
      doorTrip := r.doorTrip && place ≠ Place.door
      pauseTrips := r.pauseTrips.set place false
      abortTrips := r.abortTrips.set place false }

/-- R131, R136: a trip activation or clearing. A trip that carries abort-run ends the run (DEDUCED,
log 35). -/
def State.rsqTrip (place : Place) (actions : Word) (active : Bool) (s : State) : State :=
  let s := s.setRsq (s.rsq.takeTrip place actions active)
  if s.rsq.run.live then
    if active && Actions.abortRun actions then s.rsqFinish .aborted else s.rsqReasons s.rsq.tripReasons
  else s

/-- R131: entry to and exit from WAIT_TANK for the run. -/
def State.rsqTank (waiting : Bool) (s : State) : State :=
  (s.setRsq { s.rsq with tankWait := waiting }).rsqReasons { s.rsq.reasons with tank := waiting }

def State.rsqLocks (steamLocked rinse : Bool) (s : State) : State :=
  s.setRsq { s.rsq with steamLocked := steamLocked, rinse := rinse }

def State.rsqDescale (active : Bool) (s : State) : State := s.setRsq { s.rsq with descaleActive := active }

/-- R186: the RSQ takes the configuration state, the rated powers and the fitted flags. -/
def State.rsqConfigured (r : LoadsRecord) (s : State) : State :=
  s.setRsq { s.rsq with configured := true, rated := r.rated, generator := r.generator, probeFitted := r.probe }

/-! ## Timers -/

/-- R129: the step elapsed reaches the live duration, while RUNNING. -/
def State.rsqStepTimeEnd (s : State) : State :=
  match s.rsq.live with
  | some l =>
    if s.rsq.run = .running && s.rsq.phase = .active && l.endKind.isTimed then
      (s.setRsq { s.rsq with stepElapsed := 1000 * l.duration }).rsqStepEnd
    else s
  | none => s

/-- R134: the pause timer reaches 1800 s. -/
def State.rsqPauseExpiry (s : State) : State := if s.rsq.run = .paused then s.rsqFinish .abandoned else s

/-- R134: the run elapsed reaches 43200 s. -/
def State.rsqRunCap (s : State) : State :=
  if s.rsq.run.live then (s.setRsq { s.rsq with runElapsed := 43200000 }).rsqFinish .timeCap else s

/-! ## Commands -/

/-- R138: the live step after an accepted ADJUST, and whether a value was clamped. -/
def LiveStep.adjusted (l : LiveStep) (a : Adjustment) (elapsed : Nat) : LiveStep × Bool :=
  let sp := match a.setpoint with
    | some v => l.mode.clampSetpoint v
    | none => l.setpoint
  let hum := match a.humidity with
    | some v => clampNat l.mode.row.humLo l.mode.row.humHi v
    | none => l.humidity
  let fan := match a.fan with
    | some v => clampNat 0 3 v
    | none => l.fan
  let rem := a.remaining.map (clampNat 1 (43200 - elapsed))
  ({ l with setpoint := sp, humidity := hum, fan := fan, duration := match rem with
      | some v => elapsed + v
      | none => l.duration },
    (a.setpoint.isSome && a.setpoint != sp) || (a.humidity.isSome && a.humidity != some hum) ||
      (a.fan.isSome && a.fan != some fan) || a.remaining != rem)

/-- R138: ADJUST. -/
def State.takeAdjust (payload : List Byte) (s : State) : State :=
  match s.rsq.run.live, s.rsq.readPending, s.rsq.live with
  | false, _, _ => s.refuse .wrongState
  | true, true, _ => s.refuse .busy
  | true, false, none => s.refuse .wrongState
  | true, false, some l =>
    match adjustmentOf payload with
    | none => s.refuse .badField
    | some a =>
      if a.unused l then s.refuse .badField
      else
        let r := l.adjusted a (secs s.rsq.stepElapsed)
        let live := r.1
        (s.rsqTo { s.rsq with live := some live }
          (sigIf (a.setpoint.isSome || a.humidity.isSome || a.fan.isSome)
            (.clcAdjust (a.setpoint.bind fun _ => live.setpoint) (a.humidity.map fun _ => live.humidity)
              (a.fan.map fun _ => live.fan))) [] []).answer (if r.2 then .clamped else .ok) []

/-- R135: PAUSE. -/
def State.takePause (s : State) : State :=
  if s.rsq.run.live then (s.rsqReasons { s.rsq.reasons with panel := true }).answer .ok [] else s.refuse .wrongState

/-- R135: RESUME. -/
def State.takeResume (s : State) : State :=
  if s.rsq.run.live && s.rsq.reasons.panel then
    (s.rsqReasons { s.rsq.reasons with panel := false }).answer .ok []
  else s.refuse .wrongState

/-- R130: SKIP_STEP. -/
def State.takeSkipStep (s : State) : State :=
  if !s.rsq.run.live then s.refuse .wrongState
  else if s.rsq.readPending then s.refuse .busy
  else s.rsqStepEnd.answer .ok []

/-- R136: STOP. -/
def State.takeStop (s : State) : State :=
  if s.rsq.run.live then (s.rsqFinish .stopped).answer .ok [] else s.refuse .wrongState

/-- R128, R129, R139: a CONFIRM routed to the RSQ. -/
def State.rsqConfirm (s : State) : State :=
  if s.rsq.run.live && s.rsq.phase = .waitConfirm then s.rsqActive.answer .ok []
  else
    match s.rsq.live with
    | some l =>
      if s.rsq.run.live && s.rsq.phase = .active && l.endKind = .confirm then s.rsqStepEnd.answer .ok []
      else s.refuse .wrongState
    | none => s.refuse .wrongState

end Sys2Proof.Machine
end

