-- ==== Sys2Proof/Config.lean ====
section
/-! DEFINITION. What the manual leaves open: the free values. Nothing can evaluate them, so no claim rests on a value. -/

namespace Sys2Proof

/-- R141: an erase or program cut short by a reset leaves, in each word it was working on, "the old value, the new
value or any value in between". The bits set in the free value are the bits that kept their old value; it is applied
to the count of free uses and to the word's address (log 15). -/
opaque Config.cutShort : Nat → Nat → Word

end Sys2Proof
end

