-- ==== Sys2Proof/Machine/Store.lean ====
section
/-! DEFINITION. The Store Controller (chapter 7, R141 to R155). -/

namespace Sys2Proof.Machine

/-! ## Slots and keep positions -/

/-- Table 10-10: the VALID status word. -/
def validStatus : Word := 0xA55A#16

/-- R145: the state of a slot as its sector's words give it. -/
def classifySlot (ws : List Word) : SlotState :=
  if ws.all (· == erasedWord) then .empty
  else match ws with
    | status :: recipe :: rest =>
      if status = validStatus && 1 ≤ recipe.toNat && recipe.toNat ≤ 999 && (parseRecord rest).isSome then .valid
      else .incomplete
    | _ => .incomplete

/-- The slot table's entry, and a change of it. -/
def Stc.slotState (t : Stc) (slot : Nat) : SlotState := t.table.getD (slot - 1) .incomplete

def Stc.setSlot (t : Stc) (slot : Nat) (v : SlotState) : Stc := { t with table := t.table.set (slot - 1) v }

/-- R146: the five words of a keep position, 0 to 24. -/
def keepWords (m : List MemCell) (position : Nat) : List Word :=
  (List.range 5).map fun i => Mem.read m (5 * position + i)

/-- The 25 keep positions. -/
def keepPositions : List Nat := List.range 25

/-- R146: the last valid keep record in address order. -/
def lastKeep (m : List MemCell) : Option KeepValues :=
  (keepPositions.filterMap fun p => keepOfWords (keepWords m p)).getLast?

/-- R146: the positions whose five words are not all FFFFh. -/
def usedPositions (m : List MemCell) : List Nat :=
  keepPositions.filter fun p => (keepWords m p).any (· != erasedWord)

/-- R146: the position that follows the highest used one, or 0. -/
def nextKeepPos (m : List MemCell) : Nat :=
  match (usedPositions m).getLast? with
  | some p => 5 * (p + 1)
  | none => 0

/-- R146: the fallback values. -/
def fallbackValues : KeepValues := ⟨6000, 4, false, 0⟩

/-! ## Answers and results -/

/-- Table 10-7: STORE_LIST, two bits per slot, slot 1 in bits 7 and 6 of the first byte. -/
def listData : List SlotState → List Byte
  | a :: b :: c :: d :: rest => byte (64 * a.code + 16 * b.code + 4 * c.code + d.code) :: listData rest
  | _ => []

/-- R152: the words of a sector from a word on. -/
def sectorWords (m : List MemCell) (sector offset n : Nat) : List Word :=
  (List.range n).map fun i => Mem.read m (memAddr sector (offset + i))

/-- The words to program from a word of a sector on. -/
def placed (sector offset : Nat) (ws : List Word) : List MemCell :=
  ws.zipIdx.map fun p => (memAddr sector (offset + p.2), p.1)

/-- R150: the inactivity timer's period. -/
def inactivity : Nat := 30000

/-- R147 to R151, R154: an operation has completed. -/
def State.storeDone (r : StoreRequest) (s : State) : State :=
  let t := s.stc
  match r with
  | .openSlot slot recipe => (s.setStc { t with ctx := some ⟨slot, recipe, none, some inactivity⟩ }).answer .ok []
  | .write offset ws =>
    let last := offset + ws.length - 1
    (s.setStc { t with ctx := t.ctx.map fun (c : WriteContext) =>
      { c with highest := some (max (c.highest.getD 0) last), timer := some inactivity } }).answer .ok []
  | .close _ =>
    let t' := match t.ctx with
      | some c => t.setSlot c.slot .valid
      | none => t
    (s.setStc { t' with ctx := none }).answer .ok []
  | .erase slot => (s.setStc (t.setSlot slot .empty)).answer .ok []
  | .keepWrite _ => s.setStc { t with keepPos := t.keepPos + 5 }
  | _ => s

/-- R147 to R151, R154: an operation has failed: at its erase, or at the word whose address is given. -/
def State.storeFailed (r : StoreRequest) (word : Option Nat) (s : State) : State :=
  let t := s.stc
  match r with
  | .write _ _ => (s.setStc { t with ctx := none }).refuse .storeFault
  | .close _ => (s.setStc { t with ctx := none }).refuse .storeFault
  | .keepWrite _ =>
    match word with
    | none => s.post .keepWriteFail 25 0
    | some a =>
      (s.post .keepWriteFail (t.keepPos / 5) (Sys2Proof.Machine.word (a - t.keepPos))).setStc
        { t with keepPos := t.keepPos + 5 }
  | _ => s.refuse .storeFault

/-! ## Serving, R142 -/

/-- R149: the checks of STORE_CLOSE when it is served. -/
def Stc.closeSound (t : Stc) (c : WriteContext) (n : Nat) : Bool :=
  decide (1 ≤ n) && decide (n ≤ 126) && c.highest == some (n - 1) &&
    ((parseRecord (sectorWords t.mem c.slot 2 126)).map (·.length) == some n)

/-- An operation begins with an erase, or with its first word. -/
def Stc.begin (t : Stc) (r : StoreRequest) (erasing : Option Nat) (words : List MemCell) : Stc :=
  { t with op := some ⟨r, erasing, words, false, if erasing.isSome then 25 else 1⟩ }

/-- R142: a request reaches the memory. -/
def State.serve (r : StoreRequest) (s : State) : State :=
  let t := s.stc
  match r with
  | .openSlot slot recipe =>
    s.setStc ((t.setSlot slot .incomplete).begin r (some slot) [(memAddr slot 1, word recipe)])
  | .write offset ws =>
    match t.ctx with
    | some c => s.setStc (t.begin r none (placed c.slot (offset + 2) ws))
    | none => s.refuse .wrongState
  | .close n =>
    match t.ctx with
    | some c =>
      if t.closeSound c n then s.setStc (t.begin r none [(memAddr c.slot 0, validStatus)])
      else (s.setStc { t with ctx := none }).refuse .badField
    | none => s.refuse .wrongState
  | .erase slot => s.setStc ((t.setSlot slot .incomplete).begin r (some slot) [])
  | .read slot offset =>
    s.answer .ok (byte (t.slotState slot).code :: (sectorWords t.mem slot offset 6).flatMap bytesOf)
  | .listSlots => s.answer .ok (listData t.table)
  | .startRead slot => s.setStc { t with readDone := some (.start (Mem.sector t.mem slot 128)) }
  | .stepRead slot offset length =>
    s.setStc { t with readDone := some (.step (sectorWords t.mem slot (offset + 2) length)) }
  | .keepWrite v =>
    if t.keepPos = 125 then s.setStc (t.begin r (some 0) (placed 0 0 v.words))
    else s.setStc (t.begin r none (placed 0 t.keepPos v.words))

/-- R142: the request at the head of the list is served. -/
def State.serveNext (s : State) : State :=
  match s.stc.requests with
  | [] => s
  | r :: rest => (s.setStc { s.stc with requests := rest }).serve r

/-- R143: a keep write that waits takes the new values; any other request joins the end of the list. -/
def joinRequests (r : StoreRequest) : List StoreRequest → List StoreRequest
  | [] => [r]
  | q :: rest =>
    match q, r with
    | .keepWrite _, .keepWrite v => .keepWrite v :: rest
    | _, _ => q :: joinRequests r rest

/-- R142: a request arrives. -/
def State.stcRequest (r : StoreRequest) (s : State) : State :=
  if s.stc.scanned && s.stc.op.isNone && s.stc.requests.isEmpty then s.serve r
  else s.setStc { s.stc with requests := joinRequests r s.stc.requests }

/-- R142: the request at the head of the list may be served. -/
def Stc.serviceDue (t : Stc) : Bool := t.scanned && t.op.isNone && !t.requests.isEmpty && t.readDone.isNone

/-! ## The operation in flight, R141 and R142 -/

/-- What one completed erase or word program makes of the memory. -/
def StoreOp.apply (o : StoreOp) (m : List MemCell) (keep : Nat → Word) : List MemCell :=
  match o.erasing with
  | some sector => Mem.eraseUpTo m sector keep 128
  | none =>
    match o.words with
    | (a, w) :: _ => Mem.program m a w (keep (a % 128))
    | [] => m

/-- R141: the verify. -/
def StoreOp.verified (o : StoreOp) (m : List MemCell) : Bool :=
  match o.erasing with
  | some sector => Mem.erased m sector
  | none =>
    match o.words with
    | (a, w) :: _ => Mem.read m a == w
    | [] => true

/-- The operation after a good verify; none when it is complete. -/
def StoreOp.next (o : StoreOp) : Option StoreOp :=
  let rest := if o.erasing.isSome then o.words else o.words.drop 1
  if rest.isEmpty then none else some { o with erasing := none, words := rest, retried := false, left := 1 }

/-- R154: after a good erase of sector 0 the keep write position becomes 0. -/
def StoreOp.keepPosAfter (o : StoreOp) (pos : Nat) : Nat := if o.erasing == some 0 then 0 else pos

/-- R141, R142: an erase or a word program ends. -/
def State.storeOperationComplete (kept : List (Nat × Word)) (s : State) : State :=
  match s.stc.op with
  | none => s
  | some o =>
    let mem := o.apply s.stc.mem (keptBits kept)
    if o.verified mem then
      let s := s.setStc { s.stc with mem := mem, op := o.next, keepPos := o.keepPosAfter s.stc.keepPos }
      if o.next.isSome then s else (s.storeDone o.request).serveNext
    else if o.retried then
      let failedAt := if o.erasing.isSome then none else o.words.head?.map (·.1)
      ((s.setStc { s.stc with mem := mem, op := none }).storeFailed o.request failedAt).serveNext
    else
      s.setStc { s.stc with mem := mem, op := some { o with retried := true, left := if o.erasing.isSome then 25 else 1 } }

/-- R141, R155: what a reset leaves of the memory: the words under way hold any value in between (log 15). Where that word
is the last of a keep record, the new record may stand although R116 and R153 have the old one found (DEDUCED, log 49). -/
def Stc.cutMem (t : Stc) (use : Nat) : List MemCell :=
  match t.op with
  | none => t.mem
  | some o =>
    match o.erasing with
    | some sector => Mem.eraseUpTo t.mem sector (fun n => Config.cutShort use (memAddr sector n)) 128
    | none =>
      match o.words with
      | (a, w) :: _ => Mem.program t.mem a w (Config.cutShort use a)
      | [] => t.mem

/-! ## The start-up scan, R146 -/

def State.stcScan (s : State) : State :=
  if s.stc.scanned || s.stc.wakeTimer.isNone then s
  else
    let m := s.stc.mem
    let table := (List.range 24).map fun i => classifySlot (Mem.sector m (i + 1) 128)
    let s := s.setStc { s.stc with scanned := true, wakeTimer := none, table := table, keepPos := nextKeepPos m }
    match lastKeep m with
    | some v => s.emit [.sduScan v .keep]
    | none => (s.post .keepLost 0 (word (usedPositions m).length)).emit [.sduScan fallbackValues .fallback]

/-! ## Commands -/

/-- R147, R151: the slot is the source of a run that is RUNNING, PAUSED or FINISHING. -/
def Rsq.holdsSlot (r : Rsq) (slot : Nat) : Bool := r.run != .idle && r.source == .slot slot

def slotGiven (slot : Nat) : Bool := 1 ≤ slot && slot ≤ 24

/-- R147: STORE_OPEN. -/
def State.takeStoreOpen (payload : List Byte) (s : State) : State :=
  let slot := (payload.getD 0 0).toNat
  let recipe := (wordOf (payload.getD 1 0) (payload.getD 2 0)).toNat
  if s.stc.ctx.isSome then s.refuse .busy
  else if !slotGiven slot || recipe = 0 || 999 < recipe then s.refuse .badField
  else if s.rsq.holdsSlot slot then s.refuse .wrongState
  else s.stcRequest (.openSlot slot recipe)

/-- R148, R150: the inactivity timer of an open write context starts anew. -/
def Stc.restartInactivity (t : Stc) : Stc := { t with ctx := t.ctx.map fun c => { c with timer := some inactivity } }

/-- R148: a refused STORE_WRITE with a context open restarts the inactivity timer. -/
def State.refuseStoreWrite (r : Result) (s : State) : State := (s.setStc s.stc.restartInactivity).refuse r

/-- R148: STORE_WRITE. -/
def State.takeStoreWrite (payload : List Byte) (s : State) : State :=
  match s.stc.ctx with
  | none => s.refuse .wrongState
  | some c =>
    let offset := (payload.headD 0).toNat
    let ws := wordsOf (payload.drop 1)
    if ws.isEmpty || 6 < ws.length || 125 < offset + ws.length - 1 then s.refuseStoreWrite .badField
    else (s.setStc { s.stc with ctx := some { c with timer := none } }).stcRequest (.write offset ws)

/-- R149: STORE_CLOSE. -/
def State.takeStoreClose (payload : List Byte) (s : State) : State :=
  match s.stc.ctx with
  | none => s.refuse .wrongState
  | some c =>
    (s.setStc { s.stc with ctx := some { c with timer := none } }).stcRequest (.close (payload.headD 0).toNat)

/-- R151: STORE_ERASE. -/
def State.takeStoreErase (payload : List Byte) (s : State) : State :=
  let slot := (payload.headD 0).toNat
  if !slotGiven slot then s.refuse .badField
  else if s.stc.ctx.map (·.slot) == some slot || s.rsq.holdsSlot slot then s.refuse .wrongState
  else s.stcRequest (.erase slot)

/-- R152: STORE_READ. -/
def State.takeStoreRead (payload : List Byte) (s : State) : State :=
  let slot := (payload.getD 0 0).toNat
  let offset := (payload.getD 1 0).toNat
  if !slotGiven slot || 122 < offset then s.refuse .badField else s.stcRequest (.read slot offset)

/-- R152: STORE_LIST. -/
def State.takeStoreList (s : State) : State := s.stcRequest .listSlots

/-- R150: the inactivity timer's expiry. -/
def State.storeAbandon (s : State) : State :=
  match s.stc.ctx with
  | none => s
  | some c =>
    if c.timer.isNone then s
    else
      (s.post .storeAbandoned c.slot (match c.highest with
        | some h => word (h + 1)
        | none => 0)).setStc { s.stc with ctx := none }

end Sys2Proof.Machine
end

