-- ==== Sys2Proof/Machine/Handler.lean ====
section
/-! DEFINITION. The Command Handler and the Event Queue (chapter 10, R184 to R192). -/

namespace Sys2Proof.Machine

/-! ## Answers, R184 -/

/-- R184: an answer is handed to the SLC; its outcome is then awaited. -/
def State.hand (a : Answer) (s : State) : State :=
  (s.setCmh { s.cmh with outstanding := some a }).emit [.slcAnswer a]

/-- R184: the answer of the command under way, with the code as received, or 00h for none (R185). -/
def Command.reply (c : Command) (r : Result) (data : List Byte) : Answer := ⟨c.source, c.code.getD 0, r, data⟩

/-- R184, R192: an answer produced, with the frames that follow it; handed over at once where no outcome is awaited.
The buffer is freed with the last frame handed over. -/
def State.produce (a : Answer) (more : List Answer) (s : State) : State :=
  if s.cmh.outstanding.isNone && s.cmh.answerWaiting.isNone then
    (s.setCmh { s.cmh with
      moreFrames := more, buffer := if more.isEmpty then none else s.cmh.buffer }).hand a
  else s.setCmh { s.cmh with answerWaiting := some a, moreFrames := more }

/-- R184: the owner's answer to the command under way. -/
def State.cmhAnswer (r : Result) (data : List Byte) (s : State) : State :=
  match s.cmh.buffer with
  | none => s
  | some c => s.produce (c.reply r data) []

/-- The code of RESTART. -/
def restartCode : Byte := 0x4F#8

/-- R179, R184, R188: the SLC reports the ANSWER slot empty for the last answer handed to it. -/
def State.cmhSlotEmpty (s : State) : State :=
  match s.cmh.outstanding with
  | none => s
  | some a =>
    s.setCmh { s.cmh with
      outstanding := none, restartDue := s.cmh.restartDue || (a.code == restartCode && a.result == .ok) }

/-- R184: the answer waiting may be handed over. -/
def Cmh.handoverDue (c : Cmh) : Bool := c.answerWaiting.isSome && c.outstanding.isNone

/-- R184: the waiting answer is handed over, and the buffer freed with the last frame. -/
def State.answerHandover (s : State) : State :=
  match s.cmh.answerWaiting with
  | none => s
  | some a =>
    (s.setCmh { s.cmh with
      answerWaiting := none, buffer := if s.cmh.moreFrames.isEmpty then none else s.cmh.buffer }).hand a

/-- R192: a further frame may be handed over. -/
def Cmh.frameDue (c : Cmh) : Bool := !c.moreFrames.isEmpty && c.outstanding.isNone && c.answerWaiting.isNone

/-- R192: the next frame of FETCH_EVENTS is handed over. -/
def State.nextFrame (s : State) : State :=
  match s.cmh.moreFrames with
  | [] => s
  | a :: rest =>
    (s.setCmh { s.cmh with
      moreFrames := rest, buffer := if rest.isEmpty then none else s.cmh.buffer }).hand a

/-! ## The event queue, R192 -/

/-- Table 10-8: the data of a FETCH_EVENTS frame, k of n. -/
def eventData (lost k n : Nat) (e : Event) : List Byte :=
  [byte lost, byte (16 * k + n), byte e.code.code, byte e.subject] ++ bytesOf e.value ++ wordBytes e.time

/-- R192: the data of each frame; a single frame without an entry when none was removed
(DEDUCED, log 39). -/
def fetchData (lost : Nat) (entries : List Event) : List (List Byte) :=
  if entries.isEmpty then [[byte lost, 0]]
  else entries.zipIdx.map fun p => eventData lost (p.2 + 1) entries.length p.1

/-- R192: FETCH_EVENTS. -/
def State.takeFetchEvents (s : State) : State :=
  match s.cmh.buffer with
  | none => s
  | some c =>
    let q := s.evq
    let frames := (fetchData q.lost (q.queue.take 3)).map (c.reply .ok)
    let s := s.setEvq { q with queue := q.queue.drop 3, lost := 0 }
    match frames with
    | [] => s
    | a :: more => s.produce a more

/-! ## Configuration, R186 -/

/-- R186: CONFIG_LOADS. -/
def State.takeConfigLoads (payload : List Byte) (s : State) : State :=
  match loadsOf payload with
  | none => s.refuse .badField
  | some r => (s.setCmh { s.cmh with loads := some r }).answer .ok []

/-- R186: CONFIG_DONE. -/
def State.takeConfigDone (s : State) : State :=
  if s.cmh.loads.isNone then s.refuse .badField else s.setCmh { s.cmh with doneHeld := true }

/-- R186: both conditions hold. -/
def State.configuredDue (s : State) : Bool := s.cmh.doneHeld && s.cmh.loads.isSome && s.stc.scanned && s.ilu.allSettled

/-- R186: CONFIGURED is reached. -/
def State.configure (s : State) : State :=
  match s.cmh.loads with
  | none => s
  | some r =>
    ((s.setCmh { s.cmh with configured := true, doneHeld := false }).emit
      [.dspConfigured r.rated, .clcConfigured r, .sgcConfigured r, .sduConfigured r, .rsqConfigured r, .lsuConfigured,
        .iluConfigured]).answer .ok []

/-! ## Decoding and routing, R185 and R187 -/

/-- R187: CONFIRM. A prompt that a generator wait brought about passes the command on to the SGC (R107, R113). -/
def State.takeConfirm (s : State) : State :=
  if s.sdu.atPrompt then (if s.sdu.resume.isSome then s.sgcConfirm else s.sduConfirm)
  else if s.sgc.state = .waitTank && s.sgc.source ≠ .none then s.sgcConfirm
  else s.rsqConfirm

/-- R188: RESTART. -/
def State.takeRestart (s : State) : State := s.answer .ok []

/-- Table 10-2: the command is taken by its block. -/
def State.take (code : Byte) (payload : List Byte) (s : State) : State :=
  match code.toNat with
  | 0x01 => s.takeConfigLoads payload
  | 0x02 => s.takeConfigTerm payload
  | 0x03 => s.takeConfigDone
  | 0x10 => s.takeStartManual payload
  | 0x11 => s.takeRunRecipe payload
  | 0x12 => s.takeAdjust payload
  | 0x13 => s.takePause
  | 0x14 => s.takeResume
  | 0x15 => s.takeConfirm
  | 0x16 => s.takeSkipStep
  | 0x17 => s.takeStop
  | 0x20 => s.takeStoreOpen payload
  | 0x21 => s.takeStoreWrite payload
  | 0x22 => s.takeStoreClose payload
  | 0x23 => s.takeStoreErase payload
  | 0x24 => s.takeStoreRead payload
  | 0x25 => s.takeStoreList
  | 0x30 => s.takeSetHardness payload
  | 0x31 => s.takeDescaleStart
  | 0x32 => s.takeRinseStart
  | 0x33 => s.takeDescaleAbort
  | 0x34 => s.takeReadScale
  | 0x40 => s.takeFetchEvents
  | 0x41 => s.takeClearTrip payload
  | 0x42 => s.takeReadPeers payload
  | 0x43 => s.takeReadLineCounts
  | 0x4F => s.takeRestart
  | _ => s

/-- R185: the answer of the first test that fails. -/
def Cmh.decodeRefusal (c : Cmh) (code : Option Byte) (payload : List Byte) : Option Result :=
  match code with
  | none => some .unknown
  | some k =>
    if (commandLength k).isNone then some .unknown
    else if !lengthAllowed k payload.length then some .badField
    else if c.configured then (if isConfigCommand k then some .locked else none)
    else if takenUnconfigured k then none else some .notConfigured

/-- The code of STORE_WRITE. -/
def storeWriteCode : Byte := 0x21#8

/-- R185, R148: a command refused by a test of decoding. A STORE_WRITE refused there, one of seven words among them,
restarts the inactivity timer of an open context; no other command changes anything (DEDUCED, log 46). -/
def State.refuseDecoded (code : Option Byte) (r : Result) (s : State) : State :=
  if code = some storeWriteCode then s.refuseStoreWrite r else s.refuse r

/-- R184, R185: a command enters the buffer and is decoded. -/
def State.cmhCommand (c : Command) (s : State) : State :=
  let s := s.setCmh { s.cmh with buffer := some c }
  match s.cmh.decodeRefusal c.code c.payload, c.code with
  | some r, code => s.refuseDecoded code r
  | none, none => s
  | none, some k =>
    if isConfigCommand k && !s.stc.scanned then s.setCmh { s.cmh with deferred := true }
    else s.take k c.payload

/-- R185: the deferred configuration command may be taken. -/
def State.deferredDue (s : State) : Bool := s.cmh.deferred && s.stc.scanned

/-- R185: the configuration command held for the scan is taken. -/
def State.takeDeferred (s : State) : State :=
  let s' := s.setCmh { s.cmh with deferred := false }
  match s.cmh.buffer with
  | some ⟨_, some k, payload⟩ => s'.take k payload
  | _ => s'

/-! ## The status frame, R190 -/

/-- R190: the STATUS slot is filled. -/
def State.fillStatus (s : State) : State :=
  (s.setCmh { s.cmh with statusTimer := 1000, intervalTimer := some 200, changeHeld := false }).emit
    [.slcStatus s.statusPayload]

/-- R190: a run state change. -/
def State.cmhRunState (s : State) : State :=
  if s.cmh.intervalTimer.isSome then s.setCmh { s.cmh with changeHeld := true } else s.fillStatus

/-- R190: the interval timer's expiry. -/
def State.statusInterval (s : State) : State :=
  if s.cmh.intervalTimer.isSome then
    let s' := s.setCmh { s.cmh with intervalTimer := none }
    if s.cmh.changeHeld then s'.fillStatus else s'
  else s

/-! ## Resets, R188 -/

/-- R188: every block takes its state after reset, and the straps are sampled; the memory stays as it is left (R155).
An invalid station strap silences the part at once (R170; DEDUCED, log 11). Commands that wait in the queue stay there. -/
def State.resetBy (cause : EventCode) (pins : Straps) (s : State) : State :=
  let s' := State.afterReset cause pins (s.stc.cutMem s.freeUse)
    (if s.stc.op.isSome then s.freeUse + 1 else s.freeUse) s.pending
  if pins.station = 7 then s'.enterSilenced else s'

end Sys2Proof.Machine
end

