-- ==== Sys2Proof/Machine/Time.lean ====
section
/-! DEFINITION. The passage of one millisecond (log 6): every running timer of every block moves. No expiry is taken
here; the expiries are commands. -/

namespace Sys2Proof.Machine

def Clc.tick (c : Clc) : Clc :=
  { c with
    measureTimer := c.measureTimer - 1
    controlTimer := countDown c.controlTimer
    runOn        := c.runOn.map (countUp 600000)
    ventTimer    := countDown c.ventTimer }

def Dsp.tick (d : Dsp) : Dsp := { d with slotTimer := d.slotTimer - 1 }

/-- R57: the age of an entry counts until its station is lost. -/
def Peer.tick (p : Peer) : Peer := { p with age := countUp 63500 p.age }

def Lsu.tick (l : Lsu) : Lsu :=
  { l with
    holdOff     := countDown l.holdOff
    claimPeriod := countDown l.claimPeriod
    minInterval := countDown l.minInterval
    listen      := countDown l.listen
    peers       := l.peers.map Peer.tick }

/-- R93: the fill timer stands frozen while a trip holds the pump off. -/
def Sgc.tick (g : Sgc) : Sgc :=
  { g with
    fillTimer  := if g.pumpOff.any then g.fillTimer else countDown g.fillTimer
    drainTimer := countDown g.drainTimer }

/-- R109: the soak time. -/
def Sdu.tick (d : Sdu) : Sdu := { d with soak := if d.soaking then countUp 1200000 d.soak else d.soak }

/-- R129, R134: the step elapsed, the run elapsed and the pause timer. -/
def Rsq.tick (r : Rsq) : Rsq :=
  { r with
    stepElapsed := if r.run == .running && r.phase == .active then countUp 43200000 r.stepElapsed else r.stepElapsed
    runElapsed  := if r.run.live then countUp 43200000 r.runElapsed else r.runElapsed
    pauseTimer  := if r.run == .paused then countUp 1800000 r.pauseTimer else r.pauseTimer }

def StoreOp.tick (o : StoreOp) : StoreOp := { o with left := o.left - 1 }

def WriteContext.tick (c : WriteContext) : WriteContext := { c with timer := countDown c.timer }

def Stc.tick (t : Stc) : Stc :=
  { t with
    wakeTimer := countDown t.wakeTimer
    op        := t.op.map StoreOp.tick
    ctx       := t.ctx.map WriteContext.tick }

def TermState.tick (t : TermState) : TermState := { t with timer := countDown t.timer }

def Ilu.tick (i : Ilu) : Ilu := { i with sampleTimer := i.sampleTimer - 1, terms := i.terms.map TermState.tick }

def Cmh.tick (c : Cmh) : Cmh :=
  { c with statusTimer := c.statusTimer - 1, intervalTimer := countDown c.intervalTimer }

/-- R191: the seconds counter wraps from 65535 to 0. -/
def Evq.tick (q : Evq) : Evq :=
  if q.fraction + 1 < 1000 then { q with fraction := q.fraction + 1 }
  else { q with fraction := 0, seconds := (q.seconds + 1) % 65536 }

/-- One millisecond passes. -/
def State.tick (s : State) : State :=
  { s with
    clc := s.clc.tick, dsp := s.dsp.tick, lsu := s.lsu.tick, slc := s.slc.tick, sgc := s.sgc.tick, sdu := s.sdu.tick, rsq := s.rsq.tick,
    stc := s.stc.tick, ilu := s.ilu.tick, cmh := s.cmh.tick, evq := s.evq.tick }

end Sys2Proof.Machine
end

