-- ==== Sys2Proof/Machine/Bus.lean ====
section
/-! DEFINITION. The paths between the blocks (Table 0-2): the delivery of every signal, the settling of an event, and
the steps that follow from an event by themselves (log 4, log 5). -/

namespace Sys2Proof.Machine

/-- A delivery taken by its block. -/
def handle : Signal → State → State
  | .dspDemands d => State.dspDemands d
  | .dspBoiler d => State.dspBoiler d
  | .dspLimit l => State.dspLimit l
  | .dspFan level => State.dspFan level
  | .dspLow covered _ => State.dspLow covered
  | .dspTrip p a on => State.dspTrip p a on
  | .dspConfigured rated => State.dspConfigured rated
  | .clcDispatch starved blocked => State.clcDispatch starved blocked
  | .clcRun r => State.clcRun r
  | .clcStep l => State.clcStep l
  | .clcUpdate => State.clcUpdate
  | .clcAdjust sp h f => State.clcAdjust sp h f
  | .clcTrip p a on => State.clcTrip p a on
  | .clcProbe present _ => State.clcProbe present
  | .clcVent closed _ => State.clcVent closed
  | .clcGenerator g => State.clcGenerator g
  | .clcConfigured r => State.clcConfigured r
  | .iluClimate t b sensor => State.iluClimate t b sensor
  | .iluRun r => State.iluRun r
  | .iluGenerator g => State.iluGenerator g
  | .iluDescale on => State.iluDescale on
  | .iluFan level => State.iluFan level
  | .iluHeat on => State.iluHeat on
  | .iluConfigured => State.iluConfigured
  | .sgcCooking h => State.sgcCooking h
  | .sgcGrant set => State.sgcGrant set
  | .sgcProgram r => State.sgcProgram r
  | .sgcDrainOrder => State.sgcDrainOrder
  | .sgcTank present settled => State.sgcTank present settled
  | .sgcLow covered settled => State.sgcLow covered settled
  | .sgcHigh covered settled => State.sgcHigh covered settled
  | .sgcBoiler t => State.sgcBoiler t
  | .sgcTrip p a on => State.sgcTrip p a on
  | .sgcConfigured r => State.sgcConfigured r
  | .sgcEntry => State.sgcEntry
  | .sduRefill => State.sduRefill
  | .sduFillEnded => State.sduFillEnded
  | .sduDrainEnded => State.sduDrainEnded
  | .sduWait entered => State.sduWait entered
  | .sduGenerator g => State.sduGenerator g
  | .sduBoiler t => State.sduBoiler t
  | .sduTank present _ => State.sduTank present
  | .sduRun r => State.sduRun r
  | .sduConfigured r => State.sduConfigured r
  | .sduScan v source => State.sduScan v source
  | .rsqPreheat on => State.rsqPreheat on
  | .rsqCore c => State.rsqCore c
  | .rsqProbe present _ => State.rsqProbe present
  | .rsqTrip p a on => State.rsqTrip p a on
  | .rsqTank waiting => State.rsqTank waiting
  | .rsqRunOnEnd => State.rsqRunOnEnd
  | .rsqLocks locked rinse => State.rsqLocks locked rinse
  | .rsqDescale on => State.rsqDescale on
  | .rsqConfigured r => State.rsqConfigured r
  | .rsqResumed => State.rsqResumed
  | .rsqBegin step => State.rsqBegin step
  | .rsqBegun => State.rsqBegun
  | .rsqEntry => State.rsqEntry
  | .lsuElementWant w => State.lsuElementWant w
  | .lsuBoilerWant w => State.lsuBoilerWant w
  | .lsuFloorClass floor cls => State.lsuFloorClass floor cls
  | .lsuConfigured => State.lsuConfigured
  | .lsuClaim source floor want cls => State.lsuClaim source floor want cls
  | .lsuSent c => State.lsuSent c
  | .lsuAbandoned => State.lsuAbandoned
  | .lsuLineOk => State.lsuLineOk
  | .lsuLineFault => State.lsuLineFault
  | .lsuSilenced => State.lsuSilenced
  | .slcClaim c => State.slcClaim c
  | .slcAnswer a => State.slcAnswer a
  | .slcStatus payload => State.slcStatus payload
  | .slcCheckError => State.slcCheckError
  | .stcRequest r => State.stcRequest r
  | .cmhCommand c => State.cmhCommand c
  | .cmhAnswer r data => State.cmhAnswer r data
  | .cmhSlotEmpty => State.cmhSlotEmpty
  | .cmhRunState => State.cmhRunState

/-- The deliveries of an event are taken one after another, until none is left (DESIGN CHOICE, log 8). -/
def State.settle : Nat → State → State
  | 0, s => s
  | n + 1, s =>
    match s.bus with
    | [] => s
    | sig :: rest => State.settle n (handle sig { s with bus := rest })

/-- More deliveries than any event makes (log 8). -/
def settleFuel : Nat := 4096

/-! ## Steps that follow by themselves (DEDUCED, log 4) -/

/-- The rows of the table that follow from the state an event leaves. -/
inductive FollowUp where
  | restartTakesEffect
  | startReadComplete
  | stepReadComplete
  | storeRequestServed
  | deferredConfigCommand
  | configuredReached
  | answerHandover
  | fetchEventsNextFrame
deriving DecidableEq, Repr

/-- R121, R152: a start read has been served. -/
def Stc.startRead (t : Stc) : Option (List Word) :=
  match t.readDone with
  | some (.start ws) => some ws
  | _ => none

/-- R124, R152: a step read has been served. -/
def Stc.stepRead (t : Stc) : Option (List Word) :=
  match t.readDone with
  | some (.step ws) => some ws
  | _ => none

/-- Whether a follow-up step is called for. -/
def due : FollowUp → State → Bool
  | .restartTakesEffect, s => s.cmh.restartDue
  | .startReadComplete, s => s.stc.startRead.isSome
  | .stepReadComplete, s => s.stc.stepRead.isSome
  | .storeRequestServed, s => s.stc.serviceDue
  | .deferredConfigCommand, s => s.deferredDue
  | .configuredReached, s => s.configuredDue
  | .answerHandover, s => s.cmh.handoverDue
  | .fetchEventsNextFrame, s => s.cmh.frameDue

/-- What a follow-up step does. A restart samples the strap levels as they were last given (DESIGN CHOICE, log 34). -/
def perform : FollowUp → State → State
  | .restartTakesEffect, s => s.resetBy .restarted s.pins
  | .startReadComplete, s =>
    match s.stc.startRead with
    | some ws => (s.setStc { s.stc with readDone := none }).rsqStartRead ws
    | none => s
  | .stepReadComplete, s =>
    match s.stc.stepRead with
    | some ws => (s.setStc { s.stc with readDone := none }).rsqStepRead ws
    | none => s
  | .storeRequestServed, s => s.serveNext
  | .deferredConfigCommand, s => s.takeDeferred
  | .configuredReached, s => s.configure
  | .answerHandover, s => s.answerHandover
  | .fetchEventsNextFrame, s => s.nextFrame

/-- The follow-up steps, in the order in which they are looked for. -/
def FollowUp.all : List FollowUp :=
  [.restartTakesEffect, .startReadComplete, .stepReadComplete, .storeRequestServed, .deferredConfigCommand,
    .configuredReached, .answerHandover, .fetchEventsNextFrame]

/-- One follow-up step, where it is called for. -/
def State.followUp (k : FollowUp) (s : State) : State :=
  if due k s then (perform k s).settle settleFuel else s

/-- The event in progress is brought to its end: follow-up steps are taken until none is called for. -/
def State.complete : Nat → State → State
  | 0, s => s
  | n + 1, s =>
    match FollowUp.all.find? (fun k => due k s) with
    | none => s
    | some k => State.complete n (s.followUp k)

/-- More follow-up steps than any event leaves (log 4). -/
def completeFuel : Nat := 64

/-- An event: what came before is complete, the event is taken, and its deliveries settle. One that the state does not
allow changes nothing (DEDUCED, log 7). -/
def State.event (f : State → State) (s : State) : State := (f (s.complete completeFuel)).settle settleFuel

/-- Nothing is commanded: the event in progress is brought to its end, and a millisecond passes (log 6). -/
def State.idle (s : State) : State := (s.complete completeFuel).tick

/-- R188, R47, R170: a restart that is due takes effect, with the strap levels sampled again. -/
def State.restart (pins : Straps) (s : State) : State :=
  if due .restartTakesEffect s then ({ s with pins := pins }).followUp .restartTakesEffect else s

/-- R184: a COMMAND frame from a station, addressed to the own number. No other station acknowledges it (R171). -/
def State.panel (source : Fin 7) (code : Option Byte) (payload : List Byte) (s : State) : State :=
  s.event fun s =>
    s.receive ⟨.command, source.val, s.slc.own, match code with
      | some c => c :: payload
      | none => []⟩ .recessive

end Sys2Proof.Machine
end

