-- ==== Sys2Proof/Machine/HandlerSteps.lean ====
section
/-! DEFINITION. Commands of resets, configuration, answers and the status timers. -/

namespace Sys2Proof.Machine

/-- R188: POWER_ON_RESET, with the strap levels. A reset does not wait for the event in progress (DESIGN CHOICE,
log 34). -/
def execPowerOnReset (station budget : Fin 8) (s : State) : Host.Outcome State Fault Refusal :=
  .next ((s.resetBy .powerOn ⟨station, budget⟩).settle settleFuel)

/-- R186: CONFIGURED_REACHED. -/
def execConfiguredReached (s : State) : Host.Outcome State Fault Refusal :=
  .next (s.followUp .configuredReached)

/-- R185: DEFERRED_CONFIG_COMMAND. -/
def execDeferredConfigCommand (s : State) : Host.Outcome State Fault Refusal :=
  .next (s.followUp .deferredConfigCommand)

/-- R192: FETCH_EVENTS_NEXT_FRAME. -/
def execFetchEventsNextFrame (s : State) : Host.Outcome State Fault Refusal :=
  .next (s.followUp .fetchEventsNextFrame)

/-- R188: RESTART_TAKES_EFFECT, with the strap levels, which are sampled again. -/
def execRestartTakesEffect (station budget : Fin 8) (s : State) : Host.Outcome State Fault Refusal :=
  .next (s.restart ⟨station, budget⟩)

/-- R184: ANSWER_HANDOVER. -/
def execAnswerHandover (s : State) : Host.Outcome State Fault Refusal :=
  .next (s.followUp .answerHandover)

/-- R190: STATUS_TIMER_EXPIRY. -/
def execStatusTimerExpiry (s : State) : Host.Outcome State Fault Refusal :=
  .next (s.event State.fillStatus)

/-- R190: STATUS_INTERVAL_EXPIRY. -/
def execStatusIntervalExpiry (s : State) : Host.Outcome State Fault Refusal :=
  .next (s.event State.statusInterval)

end Sys2Proof.Machine
end

