-- ==== Sys2Proof/Machine/HeatSteps.lean ====
section
/-! DEFINITION. Commands of heating: measurement, control and run-on timers, vent drives, slot timer. -/

namespace Sys2Proof.Machine

/-- R1 to R5: MEASUREMENT_EXPIRY. -/
def execMeasurementExpiry (cavity core boiler : Int) (s : State) : Host.Outcome State Fault Refusal :=
  .next (s.event (State.clcMeasure cavity core boiler))

/-- R9: CONTROL_TIMER_EXPIRY. -/
def execControlTimerExpiry (s : State) : Host.Outcome State Fault Refusal :=
  .next (s.event State.clcControlExpiry)

/-- R19: RUN_ON_TIMER_EXPIRY. -/
def execRunOnTimerExpiry (s : State) : Host.Outcome State Fault Refusal :=
  .next (s.event State.clcRunOnExpiry)

/-- R21: OPEN_DRIVE_EXPIRY. -/
def execOpenDriveExpiry (s : State) : Host.Outcome State Fault Refusal :=
  .next (s.event State.clcOpenExpiry)

/-- R22: CLOSE_TRAVEL_TIMEOUT. -/
def execCloseTravelTimeout (s : State) : Host.Outcome State Fault Refusal :=
  .next (s.event State.clcCloseExpiry)

/-- R29 to R37: SLOT_EXPIRY. -/
def execSlotExpiry (s : State) : Host.Outcome State Fault Refusal :=
  .next (s.event State.dspSlotExpiry)

end Sys2Proof.Machine
end

