-- ==== Sys2Proof/Machine/InputSteps.lean ====
section
/-! DEFINITION. Commands of inputs and interlocks: samples and persistence timers. -/

namespace Sys2Proof.Machine

/-- R156 to R158: SAMPLE_EXPIRY. -/
def execSampleExpiry (pins : Inputs Bool) (s : State) : Host.Outcome State Fault Refusal :=
  .next (s.event (State.iluSample pins))

/-- R163: PERSISTENCE_EXPIRY. -/
def execPersistenceExpiry (place : Fin 8) (s : State) : Host.Outcome State Fault Refusal :=
  .next (s.event (State.iluPersistence place))

end Sys2Proof.Machine
end

