-- ==== Sys2Proof/Machine/LineSteps.lean ====
section
/-! DEFINITION. Commands of the share line: receptions, sendings and line states. -/

namespace Sys2Proof.Machine

/-- R173: RECEPTION_ERROR. -/
def execReceptionError (cells : List Level) (s : State) : Host.Outcome State Fault Refusal :=
  .next (s.event (State.slcReceptionError cells))

/-- R174: FRAME_DISCARDED, decided by Table 9-3. -/
def execFrameDiscarded (bytes : List Byte) (ack : Level) (s : State) : Host.Outcome State Fault Refusal :=
  .next (s.event (State.slcFrame bytes ack))

/-- R176: OWN_SOURCE_FRAME_RECEIVED. -/
def execOwnSourceFrameReceived (kind : FrameKind) (dest : Fin 8) (payload : List Byte) (ack : Level) (s : State) : Host.Outcome State Fault Refusal :=
  .next (s.event fun s => s.receive ⟨kind, s.slc.own, dest.val, payload⟩ ack)

/-- R172, R179, R180: TRANSMIT_START. -/
def execTransmitStart (s : State) : Host.Outcome State Fault Refusal :=
  .next (s.event State.slcStart)

/-- R175: ARBITRATION_LOSS. -/
def execArbitrationLoss (bit : Fin 5) (s : State) : Host.Outcome State Fault Refusal :=
  .next (s.event (State.slcLoss bit))

/-- R176: CONFLICT_WHILE_SENDING. -/
def execConflictWhileSending (cell : Nat) (s : State) : Host.Outcome State Fault Refusal :=
  .next (s.event (State.slcMismatch cell))

/-- R178: ACKNOWLEDGE_CELL. -/
def execAcknowledgeCell (read : Level) (s : State) : Host.Outcome State Fault Refusal :=
  .next (s.event (State.slcAcknowledge read))

/-- R181: LINE_FAULT. -/
def execLineFault (s : State) : Host.Outcome State Fault Refusal :=
  .next (s.event State.slcLineFault)

/-- R181: LINE_RESTORED. -/
def execLineRestored (s : State) : Host.Outcome State Fault Refusal :=
  .next (s.event State.slcLineRestored)

/-- R182: FIRST_IDLE_GAP. -/
def execFirstIdleGap (s : State) : Host.Outcome State Fault Refusal :=
  .next (s.event State.slcFirstGap)

end Sys2Proof.Machine
end

