-- ==== Sys2Proof/Machine/PanelSteps.lean ====
section
/-! DEFINITION. Panel commands: COMMAND frames addressed to the part (R184, R185), taken by the blocks of Table 10-2. -/

namespace Sys2Proof.Machine

/-- R185: UNKNOWN_COMMAND. -/
def execUnknownCommand (source : Fin 7) (code : Option Byte) (payload : List Byte) (s : State) : Host.Outcome State Fault Refusal :=
  .next (s.panel source code payload)

/-- R186: CONFIG_LOADS. -/
def execConfigLoads (source : Fin 7) (payload : List Byte) (s : State) : Host.Outcome State Fault Refusal :=
  .next (s.panel source (some 0x01) payload)

/-- R168: CONFIG_TERM. -/
def execConfigTerm (source : Fin 7) (payload : List Byte) (s : State) : Host.Outcome State Fault Refusal :=
  .next (s.panel source (some 0x02) payload)

/-- R186: CONFIG_DONE. -/
def execConfigDone (source : Fin 7) (payload : List Byte) (s : State) : Host.Outcome State Fault Refusal :=
  .next (s.panel source (some 0x03) payload)

/-- R122: START_MANUAL. -/
def execStartManual (source : Fin 7) (payload : List Byte) (s : State) : Host.Outcome State Fault Refusal :=
  .next (s.panel source (some 0x10) payload)

/-- R121: RUN_RECIPE. -/
def execRunRecipe (source : Fin 7) (payload : List Byte) (s : State) : Host.Outcome State Fault Refusal :=
  .next (s.panel source (some 0x11) payload)

/-- R138: ADJUST. -/
def execAdjust (source : Fin 7) (payload : List Byte) (s : State) : Host.Outcome State Fault Refusal :=
  .next (s.panel source (some 0x12) payload)

/-- R135: PAUSE. -/
def execPause (source : Fin 7) (payload : List Byte) (s : State) : Host.Outcome State Fault Refusal :=
  .next (s.panel source (some 0x13) payload)

/-- R135: RESUME. -/
def execResume (source : Fin 7) (payload : List Byte) (s : State) : Host.Outcome State Fault Refusal :=
  .next (s.panel source (some 0x14) payload)

/-- R187: CONFIRM. -/
def execConfirm (source : Fin 7) (payload : List Byte) (s : State) : Host.Outcome State Fault Refusal :=
  .next (s.panel source (some 0x15) payload)

/-- R130: SKIP_STEP. -/
def execSkipStep (source : Fin 7) (payload : List Byte) (s : State) : Host.Outcome State Fault Refusal :=
  .next (s.panel source (some 0x16) payload)

/-- R136: STOP. -/
def execStop (source : Fin 7) (payload : List Byte) (s : State) : Host.Outcome State Fault Refusal :=
  .next (s.panel source (some 0x17) payload)

/-- R147: STORE_OPEN. -/
def execStoreOpen (source : Fin 7) (payload : List Byte) (s : State) : Host.Outcome State Fault Refusal :=
  .next (s.panel source (some 0x20) payload)

/-- R148: STORE_WRITE. -/
def execStoreWrite (source : Fin 7) (payload : List Byte) (s : State) : Host.Outcome State Fault Refusal :=
  .next (s.panel source (some 0x21) payload)

/-- R149: STORE_CLOSE. -/
def execStoreClose (source : Fin 7) (payload : List Byte) (s : State) : Host.Outcome State Fault Refusal :=
  .next (s.panel source (some 0x22) payload)

/-- R151: STORE_ERASE. -/
def execStoreErase (source : Fin 7) (payload : List Byte) (s : State) : Host.Outcome State Fault Refusal :=
  .next (s.panel source (some 0x23) payload)

/-- R152: STORE_READ. -/
def execStoreRead (source : Fin 7) (payload : List Byte) (s : State) : Host.Outcome State Fault Refusal :=
  .next (s.panel source (some 0x24) payload)

/-- R152: STORE_LIST. -/
def execStoreList (source : Fin 7) (payload : List Byte) (s : State) : Host.Outcome State Fault Refusal :=
  .next (s.panel source (some 0x25) payload)

/-- R99: SET_HARDNESS. -/
def execSetHardness (source : Fin 7) (payload : List Byte) (s : State) : Host.Outcome State Fault Refusal :=
  .next (s.panel source (some 0x30) payload)

/-- R105: DESCALE_START. -/
def execDescaleStart (source : Fin 7) (payload : List Byte) (s : State) : Host.Outcome State Fault Refusal :=
  .next (s.panel source (some 0x31) payload)

/-- R106: RINSE_START. -/
def execRinseStart (source : Fin 7) (payload : List Byte) (s : State) : Host.Outcome State Fault Refusal :=
  .next (s.panel source (some 0x32) payload)

/-- R115: DESCALE_ABORT. -/
def execDescaleAbort (source : Fin 7) (payload : List Byte) (s : State) : Host.Outcome State Fault Refusal :=
  .next (s.panel source (some 0x33) payload)

/-- R102: READ_SCALE. -/
def execReadScale (source : Fin 7) (payload : List Byte) (s : State) : Host.Outcome State Fault Refusal :=
  .next (s.panel source (some 0x34) payload)

/-- R192: FETCH_EVENTS. -/
def execFetchEvents (source : Fin 7) (payload : List Byte) (s : State) : Host.Outcome State Fault Refusal :=
  .next (s.panel source (some 0x40) payload)

/-- R165: CLEAR_TRIP. -/
def execClearTrip (source : Fin 7) (payload : List Byte) (s : State) : Host.Outcome State Fault Refusal :=
  .next (s.panel source (some 0x41) payload)

/-- R72: READ_PEERS. -/
def execReadPeers (source : Fin 7) (payload : List Byte) (s : State) : Host.Outcome State Fault Refusal :=
  .next (s.panel source (some 0x42) payload)

/-- R183: READ_LINE_COUNTS. -/
def execReadLineCounts (source : Fin 7) (payload : List Byte) (s : State) : Host.Outcome State Fault Refusal :=
  .next (s.panel source (some 0x43) payload)

/-- R188: RESTART. -/
def execRestart (source : Fin 7) (payload : List Byte) (s : State) : Host.Outcome State Fault Refusal :=
  .next (s.panel source (some 0x4F) payload)

end Sys2Proof.Machine
end

