-- ==== Sys2Proof/Machine/RecipeSteps.lean ====
section
/-! DEFINITION. Commands of recipes: the completions of reads and the times of a run. -/

namespace Sys2Proof.Machine

/-- R121: START_READ_COMPLETE. -/
def execStartReadComplete (s : State) : Host.Outcome State Fault Refusal :=
  .next (s.followUp .startReadComplete)

/-- R124: STEP_READ_COMPLETE. -/
def execStepReadComplete (s : State) : Host.Outcome State Fault Refusal :=
  .next (s.followUp .stepReadComplete)

/-- R129: STEP_TIME_END. -/
def execStepTimeEnd (s : State) : Host.Outcome State Fault Refusal :=
  .next (s.event State.rsqStepTimeEnd)

/-- R134: PAUSE_TIMER_EXPIRY. -/
def execPauseTimerExpiry (s : State) : Host.Outcome State Fault Refusal :=
  .next (s.event State.rsqPauseExpiry)

/-- R134: RUN_TIME_CAP. -/
def execRunTimeCap (s : State) : Host.Outcome State Fault Refusal :=
  .next (s.event State.rsqRunCap)

end Sys2Proof.Machine
end

