-- ==== Sys2Proof/Machine/ShareSteps.lean ====
section
/-! DEFINITION. Commands of sharing the circuit: timers of the LSU, received claims, silent and lost peers. -/

namespace Sys2Proof.Machine

/-- R52: LISTEN_WINDOW_EXPIRY. -/
def execListenWindowExpiry (s : State) : Host.Outcome State Fault Refusal :=
  .next (s.event State.lsuListenExpiry)

/-- R53: CLAIM_PERIOD_EXPIRY. -/
def execClaimPeriodExpiry (s : State) : Host.Outcome State Fault Refusal :=
  .next (s.event State.lsuPeriodExpiry)

/-- R54: MINIMUM_INTERVAL_EXPIRY. -/
def execMinimumIntervalExpiry (s : State) : Host.Outcome State Fault Refusal :=
  .next (s.event State.lsuIntervalExpiry)

/-- R64: RAISE_HOLD_OFF_EXPIRY. -/
def execRaiseHoldOffExpiry (s : State) : Host.Outcome State Fault Refusal :=
  .next (s.event State.lsuHoldOffExpiry)

/-- R56, R174: CLAIM_RECEIVED, a CLAIM frame to all stations read whole. -/
def execClaimReceived (source : Fin 7) (floor want : Word) (cls : Byte) (ack : Level) (s : State) : Host.Outcome State Fault Refusal :=
  .next (s.event (State.receive ⟨.claim, source.val, 7, bytesOf floor ++ bytesOf want ++ [cls]⟩ ack))

/-- R57: PEER_SILENT. -/
def execPeerSilent (station : Fin 7) (s : State) : Host.Outcome State Fault Refusal :=
  .next (s.event (State.lsuPeerSilent station.val))

/-- R57: PEER_LOST. -/
def execPeerLost (station : Fin 7) (s : State) : Host.Outcome State Fault Refusal :=
  .next (s.event (State.lsuPeerLost station.val))

end Sys2Proof.Machine
end

