-- ==== Sys2Proof/Machine/StoreSteps.lean ====
section
/-! DEFINITION. Commands of the store: the start-up scan, the memory operations, the inactivity timer. -/

namespace Sys2Proof.Machine

/-- R146: WAKE_TIMER_EXPIRY. -/
def execWakeTimerExpiry (s : State) : Host.Outcome State Fault Refusal :=
  .next (s.event State.stcScan)

/-- R141, R142: STORE_OPERATION_COMPLETE. -/
def execStoreOperationComplete (kept : List (Nat × Word)) (s : State) : Host.Outcome State Fault Refusal :=
  .next (s.event (State.storeOperationComplete kept))

/-- R142: STORE_REQUEST_SERVED. -/
def execStoreRequestServed (s : State) : Host.Outcome State Fault Refusal :=
  .next (s.followUp .storeRequestServed)

/-- R150: STORE_ABANDONED. -/
def execStoreAbandoned (s : State) : Host.Outcome State Fault Refusal :=
  .next (s.event State.storeAbandon)

end Sys2Proof.Machine
end

