-- ==== Sys2Proof/Machine/WaterSteps.lean ====
section
/-! DEFINITION. Commands of water: the timers of the generator and of the soak. -/

namespace Sys2Proof.Machine

/-- R79: FILL_TIMEOUT. -/
def execFillTimeout (s : State) : Host.Outcome State Fault Refusal :=
  .next (s.event State.sgcFillTimeout)

/-- R91: DRAIN_TIMER_EXPIRY. -/
def execDrainTimerExpiry (s : State) : Host.Outcome State Fault Refusal :=
  .next (s.event State.sgcDrainExpiry)

/-- R109: SOAK_COMPLETE. -/
def execSoakComplete (s : State) : Host.Outcome State Fault Refusal :=
  .next (s.event State.sduSoakComplete)

end Sys2Proof.Machine
end

