-- ==== Sys2Proof/Machine/Dispatch.lean ====
section
/-! DEFINITION. The dispatch: one arm per command, each a direct call of its meaning. -/

namespace Sys2Proof.Machine

def exec (i : Instr) (s : State) : Host.Outcome State Fault Refusal :=
  match i with
  | .powerOnReset station budget => Sys2Proof.Machine.execPowerOnReset station budget s
  | .measurementExpiry cavity core boiler => Sys2Proof.Machine.execMeasurementExpiry cavity core boiler s
  | .controlTimerExpiry => Sys2Proof.Machine.execControlTimerExpiry s
  | .runOnTimerExpiry => Sys2Proof.Machine.execRunOnTimerExpiry s
  | .openDriveExpiry => Sys2Proof.Machine.execOpenDriveExpiry s
  | .closeTravelTimeout => Sys2Proof.Machine.execCloseTravelTimeout s
  | .slotExpiry => Sys2Proof.Machine.execSlotExpiry s
  | .listenWindowExpiry => Sys2Proof.Machine.execListenWindowExpiry s
  | .claimPeriodExpiry => Sys2Proof.Machine.execClaimPeriodExpiry s
  | .minimumIntervalExpiry => Sys2Proof.Machine.execMinimumIntervalExpiry s
  | .raiseHoldOffExpiry => Sys2Proof.Machine.execRaiseHoldOffExpiry s
  | .claimReceived source floor want cls ack => Sys2Proof.Machine.execClaimReceived source floor want cls ack s
  | .peerSilent station => Sys2Proof.Machine.execPeerSilent station s
  | .peerLost station => Sys2Proof.Machine.execPeerLost station s
  | .fillTimeout => Sys2Proof.Machine.execFillTimeout s
  | .drainTimerExpiry => Sys2Proof.Machine.execDrainTimerExpiry s
  | .soakComplete => Sys2Proof.Machine.execSoakComplete s
  | .startReadComplete => Sys2Proof.Machine.execStartReadComplete s
  | .stepReadComplete => Sys2Proof.Machine.execStepReadComplete s
  | .stepTimeEnd => Sys2Proof.Machine.execStepTimeEnd s
  | .pauseTimerExpiry => Sys2Proof.Machine.execPauseTimerExpiry s
  | .runTimeCap => Sys2Proof.Machine.execRunTimeCap s
  | .wakeTimerExpiry => Sys2Proof.Machine.execWakeTimerExpiry s
  | .storeOperationComplete kept => Sys2Proof.Machine.execStoreOperationComplete kept s
  | .storeRequestServed => Sys2Proof.Machine.execStoreRequestServed s
  | .storeAbandoned => Sys2Proof.Machine.execStoreAbandoned s
  | .sampleExpiry pins => Sys2Proof.Machine.execSampleExpiry pins s
  | .persistenceExpiry place => Sys2Proof.Machine.execPersistenceExpiry place s
  | .receptionError cells => Sys2Proof.Machine.execReceptionError cells s
  | .frameDiscarded bytes ack => Sys2Proof.Machine.execFrameDiscarded bytes ack s
  | .ownSourceFrameReceived kind dest payload ack => Sys2Proof.Machine.execOwnSourceFrameReceived kind dest payload ack s
  | .transmitStart => Sys2Proof.Machine.execTransmitStart s
  | .arbitrationLoss bit => Sys2Proof.Machine.execArbitrationLoss bit s
  | .conflictWhileSending cell => Sys2Proof.Machine.execConflictWhileSending cell s
  | .acknowledgeCell read => Sys2Proof.Machine.execAcknowledgeCell read s
  | .lineFault => Sys2Proof.Machine.execLineFault s
  | .lineRestored => Sys2Proof.Machine.execLineRestored s
  | .firstIdleGap => Sys2Proof.Machine.execFirstIdleGap s
  | .unknownCommand source code payload => Sys2Proof.Machine.execUnknownCommand source code payload s
  | .configLoads source payload => Sys2Proof.Machine.execConfigLoads source payload s
  | .configTerm source payload => Sys2Proof.Machine.execConfigTerm source payload s
  | .configDone source payload => Sys2Proof.Machine.execConfigDone source payload s
  | .configuredReached => Sys2Proof.Machine.execConfiguredReached s
  | .deferredConfigCommand => Sys2Proof.Machine.execDeferredConfigCommand s
  | .startManual source payload => Sys2Proof.Machine.execStartManual source payload s
  | .runRecipe source payload => Sys2Proof.Machine.execRunRecipe source payload s
  | .adjust source payload => Sys2Proof.Machine.execAdjust source payload s
  | .pause source payload => Sys2Proof.Machine.execPause source payload s
  | .resume source payload => Sys2Proof.Machine.execResume source payload s
  | .confirm source payload => Sys2Proof.Machine.execConfirm source payload s
  | .skipStep source payload => Sys2Proof.Machine.execSkipStep source payload s
  | .stop source payload => Sys2Proof.Machine.execStop source payload s
  | .storeOpen source payload => Sys2Proof.Machine.execStoreOpen source payload s
  | .storeWrite source payload => Sys2Proof.Machine.execStoreWrite source payload s
  | .storeClose source payload => Sys2Proof.Machine.execStoreClose source payload s
  | .storeErase source payload => Sys2Proof.Machine.execStoreErase source payload s
  | .storeRead source payload => Sys2Proof.Machine.execStoreRead source payload s
  | .storeList source payload => Sys2Proof.Machine.execStoreList source payload s
  | .setHardness source payload => Sys2Proof.Machine.execSetHardness source payload s
  | .descaleStart source payload => Sys2Proof.Machine.execDescaleStart source payload s
  | .rinseStart source payload => Sys2Proof.Machine.execRinseStart source payload s
  | .descaleAbort source payload => Sys2Proof.Machine.execDescaleAbort source payload s
  | .readScale source payload => Sys2Proof.Machine.execReadScale source payload s
  | .fetchEvents source payload => Sys2Proof.Machine.execFetchEvents source payload s
  | .fetchEventsNextFrame => Sys2Proof.Machine.execFetchEventsNextFrame s
  | .clearTrip source payload => Sys2Proof.Machine.execClearTrip source payload s
  | .readPeers source payload => Sys2Proof.Machine.execReadPeers source payload s
  | .readLineCounts source payload => Sys2Proof.Machine.execReadLineCounts source payload s
  | .restart source payload => Sys2Proof.Machine.execRestart source payload s
  | .restartTakesEffect station budget => Sys2Proof.Machine.execRestartTakesEffect station budget s
  | .answerHandover => Sys2Proof.Machine.execAnswerHandover s
  | .statusTimerExpiry => Sys2Proof.Machine.execStatusTimerExpiry s
  | .statusIntervalExpiry => Sys2Proof.Machine.execStatusIntervalExpiry s

end Sys2Proof.Machine
end

