-- ==== Sys2Proof/Safety.lean ====
section
/-! DEFINITION. Quiet states, states that listen to a panel command, and the invariants of the part, in the terms that
claims use. -/

namespace Sys2Proof.Machine

/-! ## Between events -/

/-- Between events: no delivery in transit, and no step that follows by itself (log 4). -/
def State.quiet (s : State) : Bool := s.bus.isEmpty && FollowUp.all.all fun k => !due k s

/-- R170 to R173, R181, R182: what holds of the line at all times. A run of 17 never stands in SYNCING or LINE_OK, nor an
idle count of 12 in SYNCING or LINE_FAULT, since each is acted on at its cell; one of the two counts is 0. Outside LINE_OK
and SILENCED the line is ignored. While the line is waited on with no own frame in flight, the last cells make no longer
run than an acknowledge cell; an own frame in flight is in LINE_OK, and the run is that of its cells so far. -/
def Slc.lineSound (l : Slc) : Bool :=
  (!(l.line == .syncing || l.line == .lineOk) || decide (l.dominantRun < 17)) &&
    (!(l.line == .syncing || l.line == .lineFault) || decide (l.idleCount < 12)) &&
    (l.idleCount == 0 || l.dominantRun == 0) && (l.reads || l.rx == .ignoring) &&
    match l.inFlight with
    | none => l.rx != .waiting || decide (l.dominantRun ≤ 1)
    | some f => l.line == .lineOk && l.rx == .waiting && f.bytes == (f.frame.toFrame l.own).bytes &&
        decide (f.cell < f.cells.length) && l.dominantRun == (f.cells.take (f.cell + 1)).foldl runCell 0

/-- The part hears a COMMAND frame from `source` and is free to take and to answer it (R173, R174, R184): the line is
LINE_OK with no frame on it and is not being ignored, the command buffer is free, and no answer is on its way. -/
def State.listens (s : State) (source : Fin 7) : Bool :=
  s.quiet && s.slc.line == .lineOk && s.slc.inFlight.isNone && s.slc.rx == .waiting && s.slc.lineSound && s.slc.answerSlot.isNone &&
    s.cmh.buffer.isNone && s.cmh.answerWaiting.isNone && s.cmh.outstanding.isNone && decide (s.slc.own < 7) &&
    decide (source.val ≠ s.slc.own)

/-- The COMMAND frame that carries a command to the part (section 10.6.1). -/
def Slc.commandFrame (l : Slc) (source : Fin 7) (code : Option Byte) (payload : List Byte) : Frame :=
  ⟨.command, source.val, l.own, code.toList ++ payload⟩

/-- R174, R184: the frame is read and acknowledged, and the command stands in the buffer. -/
def State.taken (s : State) (source : Fin 7) (code : Option Byte) (payload : List Byte) : State :=
  { s with
    slc := s.slc.read (s.slc.commandFrame source code payload) .dominant
    cmh := { s.cmh with buffer := some ⟨source, code, payload⟩ } }

/-- R184: the answer stands in the ANSWER slot, its outcome is awaited, and the buffer is free. -/
def State.answered (s : State) (a : Answer) : State :=
  { s with
    slc := { s.slc with answerSlot := some a }
    cmh := { s.cmh with buffer := none, outstanding := some a } }

/-- R142: a request to the store is served at its arrival. -/
def Stc.free (t : Stc) : Bool := t.scanned && t.op.isNone && t.requests.isEmpty

/-! ## Invariants of the blocks -/

/-- R191: the event queue holds at most 16 entries and the lost count never exceeds 255. -/
def Evq.bounded (q : Evq) : Bool := decide (q.queue.length ≤ 16) && decide (q.lost ≤ 255)

/-- Table 2-1, R30, R31, R35, R42: a blocked load is off; the accumulator stays in -1000 to 2000, and from 0 up while
the load is energised, but for the second slot of its minimum run; the counts stay in their ranges. -/
def DspLoad.inRange (l : DspLoad) : Bool :=
  (!l.blocked || !l.on) && decide (-1000 ≤ l.acc) && decide (l.acc ≤ 2000) &&
    (!l.on || l.runCount == 1 || decide (0 ≤ l.acc)) && decide (l.runCount ≤ 2) && decide (l.starveCount ≤ 8)

def Dsp.inRange (d : Dsp) : Bool :=
  d.loads.top.inRange && d.loads.bottom.inRange && d.loads.ringA.inRange && d.loads.ringB.inRange &&
    d.loads.grill.inRange && d.loads.boiler.inRange

/-- R28, R34, R38: the energised loads fit in the headroom. -/
def Dsp.withinHeadroom (d : Dsp) : Bool := decide (d.energisedSum ≤ d.headroom)

/-- R40 to R42: the blocked flag of a load stands as the conditions held by the DSP give it. -/
def Dsp.blockingFollows (d : Dsp) : Bool := Load.all.all fun l => (d.loads.get l).blocked == d.isBlocked l

/-- What holds at the dispatcher at all times. -/
def Dsp.sound (d : Dsp) : Bool := d.inRange && d.withinHeadroom && d.blockingFollows

/-- R123: the running step index stays below the step count. -/
def Rsq.indexed (r : Rsq) : Bool := decide (r.index < r.stepCount)

/-- R56: a peer entry of another station than the own, with fields in order and an age in its range. -/
def Peer.sound (own : Nat) (p : Peer) : Bool :=
  decide (p.station < 7) && decide (p.station ≠ own) && claimFieldsValid p.floor p.want p.cls && decide (p.age ≤ 63500)

/-- R56: a peer table in station order, one entry per station. -/
def peersOrdered : List Peer → Bool
  | [] => true
  | p :: rest =>
    (match rest with
      | [] => true
      | q :: _ => decide (p.station < q.station)) && peersOrdered rest

/-- R56: every claim on its way to the LSU is another station's. -/
def State.claimsForeign (s : State) : Bool :=
  s.bus.all fun sig => match sig with
    | .lsuClaim source _ _ _ => decide (s.slc.own < 7) && decide (source.val < 7) && decide (source.val ≠ s.slc.own)
    | _ => true

/-- R47, R56, R58, R170: the LSU holds the own number of the SLC, an invalid number goes with SILENCED; the peer table
is in order and S_peak covers it. -/
def State.peersSound (s : State) : Bool :=
  decide (s.lsu.own = s.slc.own) && decide (s.slc.own ≤ 7) && (decide (s.slc.own < 7) || s.slc.line == .silenced) &&
    (decide (s.slc.own < 7) || s.lsu.peers.isEmpty) && s.claimsForeign && s.lsu.peers.all (Peer.sound s.slc.own) &&
    peersOrdered s.lsu.peers && decide (2 ≤ s.lsu.peak) && decide (1 + s.lsu.peers.length ≤ s.lsu.peak) &&
    decide (s.lsu.peak ≤ 7)

/-- R65, R66: the limit at the dispatcher, once the limits on their way are taken, is the LSU's, which is what its mode
makes it, and at most the budget. -/
def State.limitSound (s : State) : Bool :=
  decide (s.lsu.refresh = s.lsu) && decide (s.lsu.limit ≤ s.lsu.budget) &&
    decide (s.bus.foldl (fun l sig => match sig with
      | .dspLimit x => x
      | _ => l) s.dsp.limit = s.lsu.limit)

/-- A claim asks for its floor at least. -/
def Claim.ordered (c : Claim) : Bool := decide (c.floor ≤ c.want)

/-- R48, R50, R62, R63, R65: every claim held, waiting, in flight or on its way between the blocks is in order; a pending
claim is the last one sent; in SHARING the cleared claim asks for no more than the last one sent. -/
def State.claimsSound (s : State) : Bool :=
  s.lsu.dc.ordered && s.lsu.cc.ordered && (s.lsu.pc.isNone || s.lsu.pc == s.lsu.lc) &&
    (match s.lsu.lc with
      | none => s.lsu.mode != .sharing
      | some c => c.ordered && (s.lsu.mode != .sharing || decide (s.lsu.cc.want ≤ c.want))) &&
    (match s.slc.claimSlot with
      | none => true
      | some c => c.ordered) &&
    (match s.slc.inFlight with
      | some ⟨.claim c, _, _⟩ => c.ordered
      | _ => true) &&
    s.bus.all fun sig => match sig with
      | .slcClaim c => c.ordered
      | .lsuSent c => c.ordered
      | _ => true

/-- Tables 1-2, 4-4, 6-5 and R16 to R18, R48, R84, R85, R133: every value that follows from others in its block stands
as its rule gives it. -/
def State.fresh (s : State) : Bool :=
  decide (s.clc.refresh = s.clc) && decide (s.lsu.refresh = s.lsu) && decide (s.lsu.dc = s.lsu.demandClaim) &&
    decide (s.sgc.refresh = s.sgc) && decide (s.rsq.cooking = s.rsq.cookingNow)

/-- R40, R166: whether a place is in the trip block set of a load, once the trips on their way are taken. -/
def State.tripBlocks (s : State) (p : Place) (l : Load) : Bool :=
  s.bus.foldl (fun held sig => match sig with
    | .dspTrip q actions active => if q = p then active && (held || Actions.load actions l) else held
    | _ => held) ((s.dsp.loads.get l).tripBlock.get p)

/-- R40, R166, Table 8-6: a built-in trip blocks the loads its action set names exactly while it is active. -/
def State.tripsDelivered (s : State) : Bool :=
  [Place.door, Place.cutout, Place.sensor, Place.dry].all fun p => Load.all.all fun l =>
    s.tripBlocks p l == ((s.ilu.terms.get p).active && Actions.load (s.ilu.actions p) l)

/-- R162 to R164, Table 8-6: the terms of DOOR and CUTOUT are evaluated once their inputs have settled, those of SENSOR
and DRY always; DOOR, a LEVEL trip without persistence, is active exactly while its term is true; a LATCHED built-in trip
is active whenever its term is true. -/
def Ilu.builtInSound (i : Ilu) : Bool :=
  (i.terms.p0.output.isSome == i.inputs.door.settled) && (i.terms.p1.output.isSome == i.inputs.cutout.settled) &&
    i.terms.p2.output.isSome && i.terms.p3.output.isSome && (i.terms.p0.active == (i.terms.p0.output == some true)) &&
    (i.terms.p1.active || i.terms.p1.output != some true) && (i.terms.p2.active || i.terms.p2.output != some true) &&
    (i.terms.p3.active || i.terms.p3.output != some true)

/-! ## Trips after a change of the sources -/

/-- R162 to R164, R166: what the new value of the term at a place does to its output, its persistence timer and its
trip, from the state `s` before to the state `t` after, with the term's persistence in tenths of a second, its mode and
its action set. -/
def State.tripFollows (s t : State) (p : Place) (value : Bool) (persistence : Nat) (latched : Bool) (actions : Word) :
    Prop :=
  let old := s.ilu.terms.get p
  let new := t.ilu.terms.get p
  let delivered := fun active => Signal.dspTrip p actions active ∈ t.bus ∧ Signal.sgcTrip p actions active ∈ t.bus ∧
    Signal.clcTrip p actions active ∈ t.bus ∧ Signal.rsqTrip p actions active ∈ t.bus;
  (old.output = none → new = old) ∧
  ∀ was, old.output = some was →
    new.output = some value ∧
    (value = was → new.active = old.active ∧ new.timer = old.timer) ∧
    (was = false → value = true →
      (old.active = true → new.active = true ∧ new.timer = old.timer) ∧
      (old.active = false → persistence = 0 → new.active = true ∧ new.timer = none ∧ delivered true) ∧
      (old.active = false → persistence ≠ 0 → new.active = false ∧ new.timer = some (100 * persistence))) ∧
    (was = true → value = false →
      new.timer = none ∧ (latched = true ∨ old.active = false → new.active = old.active) ∧
      (latched = false → old.active = true → new.active = false ∧ delivered false))

/-- R160, R161, R168: every configurable term that is evaluated has the output its function gives for the sources that
stand in `t`, with its operand and output inversions, a LATCH function by its latch; its trip follows. -/
def State.termsFollow (s t : State) : Prop :=
  ∀ (p : Place) (x : Term), s.ilu.held p = some x →
    let a := t.ilu.source x.a.source != x.a.invert
    let b := t.ilu.source x.b.source != x.b.invert
    let c := t.ilu.source x.c.source != x.c.invert
    let was := (s.ilu.terms.get p).latch
    let latch := if a = true ∧ c = true then true else if b = true then false else was
    let value := match x.fn with
      | .and => a && b && c
      | .or => a || b || c
      | .xor => a ^^ b ^^ c
      | .latch => latch;
    s.tripFollows t p (value != x.outInvert) x.persistence x.latched x.actions ∧
      ((s.ilu.terms.get p).output ≠ none → (t.ilu.terms.get p).latch = if x.fn = .latch then latch else was)

end Sys2Proof.Machine
end

