-- ==== Sys2Proof/WellFormed.lean ====
section
/-! DEFINITION. Well-formed commands: what the table's row can be, whatever state the part is in. -/

namespace Sys2Proof

/-- R171: a frame carries at most 16 payload bytes, and a COMMAND's first is its code. -/
def payloadFits (payload : List Byte) : Bool := payload.length ≤ 15

/-- The words of a sector that kept bits, in rising order (log 16). -/
def keptWellFormed : List (Nat × Word) → Bool
  | [] => true
  | (o, _) :: rest =>
    decide (o < 128) && (match rest with
      | [] => true
      | (p, _) :: _ => decide (o < p)) && keptWellFormed rest

/-- R171, R174: bytes of a frame read whole with a matching check byte. -/
def frameWellFormed : List Byte → Bool
  | header :: length :: rest =>
    length.toNat ≤ 16 && rest.length == length.toNat + 1 &&
      rest.getLast? == some (Machine.checkByte (header :: length :: rest.dropLast))
  | _ => false

/-- Whether a term is a command that its row can be. -/
def Instr.wellFormed : Instr → Bool
  | .powerOnReset _ _ => true
  | .measurementExpiry _ _ _ => true
  | .controlTimerExpiry => true
  | .runOnTimerExpiry => true
  | .openDriveExpiry => true
  | .closeTravelTimeout => true
  | .slotExpiry => true
  | .listenWindowExpiry => true
  | .claimPeriodExpiry => true
  | .minimumIntervalExpiry => true
  | .raiseHoldOffExpiry => true
  | .claimReceived _ _ _ _ _ => true
  | .peerSilent _ => true
  | .peerLost _ => true
  | .fillTimeout => true
  | .drainTimerExpiry => true
  | .soakComplete => true
  | .startReadComplete => true
  | .stepReadComplete => true
  | .stepTimeEnd => true
  | .pauseTimerExpiry => true
  | .runTimeCap => true
  | .wakeTimerExpiry => true
  | .storeOperationComplete kept => keptWellFormed kept
  | .storeRequestServed => true
  | .storeAbandoned => true
  | .sampleExpiry _ => true
  | .persistenceExpiry _ => true
  | .receptionError cells => cells.head? == some .dominant && cells.length ≤ 226
  | .frameDiscarded bytes _ => frameWellFormed bytes
  | .ownSourceFrameReceived _ _ payload _ => payload.length ≤ 16
  | .transmitStart => true
  | .arbitrationLoss _ => true
  | .conflictWhileSending cell => 6 ≤ cell && cell < 190
  | .acknowledgeCell _ => true
  | .lineFault => true
  | .lineRestored => true
  | .firstIdleGap => true
  | .unknownCommand _ none payload => payload.isEmpty
  | .unknownCommand _ (some code) payload => (Machine.commandLength code).isNone && payloadFits payload
  | .configLoads _ payload => payloadFits payload
  | .configTerm _ payload => payloadFits payload
  | .configDone _ payload => payloadFits payload
  | .configuredReached => true
  | .deferredConfigCommand => true
  | .startManual _ payload => payloadFits payload
  | .runRecipe _ payload => payloadFits payload
  | .adjust _ payload => payloadFits payload
  | .pause _ payload => payloadFits payload
  | .resume _ payload => payloadFits payload
  | .confirm _ payload => payloadFits payload
  | .skipStep _ payload => payloadFits payload
  | .stop _ payload => payloadFits payload
  | .storeOpen _ payload => payloadFits payload
  | .storeWrite _ payload => payloadFits payload
  | .storeClose _ payload => payloadFits payload
  | .storeErase _ payload => payloadFits payload
  | .storeRead _ payload => payloadFits payload
  | .storeList _ payload => payloadFits payload
  | .setHardness _ payload => payloadFits payload
  | .descaleStart _ payload => payloadFits payload
  | .rinseStart _ payload => payloadFits payload
  | .descaleAbort _ payload => payloadFits payload
  | .readScale _ payload => payloadFits payload
  | .fetchEvents _ payload => payloadFits payload
  | .fetchEventsNextFrame => true
  | .clearTrip _ payload => payloadFits payload
  | .readPeers _ payload => payloadFits payload
  | .readLineCounts _ payload => payloadFits payload
  | .restart _ payload => payloadFits payload
  | .restartTakesEffect _ _ => true
  | .answerHandover => true
  | .statusTimerExpiry => true
  | .statusIntervalExpiry => true

end Sys2Proof
end

