-- ==== Sys2Proof/Certificates/Slice0/Obligations.lean ====
section
/-! DEFINITION. The statements for the provers. A statement about what a command does gives the state `u` that its own
doings leave, with the deliveries it makes on `u.bus`, and the state after it as `u.settle`, in which those deliveries
have been taken (log 8); where there are none, it gives the state after it outright. A command that a frame carries
brings all cells of that frame to its acknowledge cell, in `taken` and in `Slc.read` (log 9). -/

open Sys2Proof Sys2Proof.Machine

/-! ## The machine as a whole -/

/-- The step takes the command at the front of the queue, with the queue's rest (log 30). -/
def Obligations.StepTakesFrontCommand : Prop :=
  ∀ (c : Instr) (rest : List Instr) (s : State), s.pending = c :: rest → step s = exec c { s with pending := rest }

/-- R188 and Tables 1-8, 2-6, 3-11, 4-7, 5-7, 6-9, 7-10, 8-8, 9-5: what power-on reset leaves, for a valid station
strap. That the commands waiting in the queue are kept is the model's choice (log 34). -/
def Obligations.PowerOnResetLeavesResetState : Prop :=
  ∀ (station budget : Fin 8) (s : State), station ≠ 7 →
    ∃ t, exec (.powerOnReset station budget) s = .next t ∧ t.bus = [] ∧ t.pending = s.pending ∧
      (t.slc.own = station.val ∧ t.slc.line = .syncing ∧ t.slc.idleCount = 0 ∧ t.slc.dominantRun = 0 ∧
        t.slc.claimSlot = none ∧ t.slc.answerSlot = none ∧ t.slc.statusSlot = none ∧ t.slc.inFlight = none ∧
        t.slc.consecutive = 0 ∧ t.slc.checkErrors = 0 ∧ t.slc.truncated = 0 ∧ t.slc.arbitrationLosses = 0 ∧
        t.slc.undelivered = 0 ∧ t.slc.conflicts = 0 ∧ t.pins = ⟨station, budget⟩ ∧ t.outputs.share = .recessive) ∧
      (t.lsu.own = station.val ∧ t.lsu.budget = [100, 115, 138, 161, 184, 230, 276, 368].getD budget.val 0 ∧
        t.lsu.mode = .waiting ∧ t.lsu.silenced = false ∧ t.lsu.dc = ⟨3, 3, 3⟩ ∧ t.lsu.cc = ⟨3, 3, 3⟩ ∧
        t.lsu.lc = none ∧ t.lsu.pc = none ∧ t.lsu.peers = [] ∧ t.lsu.peak = 2 ∧ t.lsu.allowance = 3 ∧ t.lsu.limit = 0) ∧
      (∀ l, let x := t.dsp.loads.get l
        x.rated = 0 ∧ x.demand = 0 ∧ x.acc = 0 ∧ x.on = false ∧ x.runCount = 2 ∧ x.blocked = true ∧
          x.starveCount = 0 ∧ x.starved = false) ∧
      (t.dsp.slotTimer = 500 ∧ t.dsp.limit = 0 ∧ t.dsp.configured = false) ∧
      (t.clc.measureTimer = 250 ∧ t.clc.window = [] ∧ t.clc.temp = 0 ∧ t.clc.core = none ∧ t.clc.boiler = 0 ∧
        t.clc.setpoint = none ∧ t.clc.mode = none ∧ t.clc.integral = 0 ∧ t.clc.controlTimer = none ∧
        t.clc.runOn = none ∧ t.clc.fanLevel = 0 ∧ t.clc.vent = .opening ∧ t.clc.ventTimer = some 6000) ∧
      (t.sgc.state = .empty ∧ t.sgc.fitted = false ∧ t.sgc.source = .none ∧ t.sgc.fillTimer = none ∧
        t.sgc.drainTimer = none ∧ t.sgc.checkTaken = false ∧ t.sgc.demand = 0 ∧ t.sgc.want = 0) ∧
      (t.sdu.scale = 0 ∧ t.sdu.hardness = 4 ∧ t.sdu.rinse = false ∧ t.sdu.count = 0 ∧ t.sdu.valueSource = .pending ∧
        t.sdu.program = .none ∧ t.sdu.pstate = .idle) ∧
      (t.rsq.run = .idle ∧ t.rsq.source = .none ∧ t.rsq.stepCount = 1 ∧ t.rsq.index = 0 ∧ t.rsq.live = none ∧
        t.rsq.phase = .none ∧ t.rsq.reasons.any = false ∧ t.rsq.grant = false) ∧
      (t.stc.scanned = false ∧ t.stc.wakeTimer = some 10 ∧ t.stc.op = none ∧ t.stc.requests = [] ∧
        t.stc.table = List.replicate 24 .incomplete ∧ t.stc.ctx = none ∧ (s.stc.op = none → t.stc.mem = s.stc.mem)) ∧
      (t.ilu.sampleTimer = 5 ∧ t.ilu.allSettled = false ∧ t.ilu.t0 = none ∧ t.ilu.t1 = none ∧ t.ilu.t2 = none ∧
        t.ilu.t3 = none ∧ ∀ p, (t.ilu.terms.get p).active = false) ∧
      (t.cmh.configured = false ∧ t.cmh.loads = none ∧ t.cmh.buffer = none ∧ t.cmh.answerWaiting = none ∧
        t.cmh.statusTimer = 1000 ∧ t.cmh.intervalTimer = none ∧ t.cmh.changeHeld = false) ∧
      (t.evq.queue = [⟨.powerOn, 0, 0, 0⟩] ∧ t.evq.lost = 0 ∧ t.evq.seconds = 0)

/-- R47, R170, R188: a restart that takes effect samples the straps again and leaves what power-on reset leaves, but for
the first event posted. With station code 7 the part is silenced; that the LSU then isolates, with its event, is the
model's reading (log 11). The restart keeps the commands that wait, by the model's choice (log 34). -/
def Obligations.RestartIsPowerOnResetButForItsEvent : Prop :=
  (∀ (station budget : Fin 8) (s : State), s.cmh.restartDue = true → station ≠ 7 →
    ∃ t u, exec (.restartTakesEffect station budget) s = .next t ∧ exec (.powerOnReset station budget) s = .next u ∧
      u.evq.queue = [⟨.powerOn, 0, 0, 0⟩] ∧ t.slc.own = station.val ∧
      t.lsu.budget = [100, 115, 138, 161, 184, 230, 276, 368].getD budget.val 0 ∧
      t = { u with evq := { u.evq with queue := [⟨.restarted, 0, 0, 0⟩] } }) ∧
  ∀ (budget : Fin 8) (s : State), s.cmh.restartDue = true →
    ∃ t u, exec (.restartTakesEffect 7 budget) s = .next t ∧ exec (.powerOnReset 7 budget) s = .next u ∧
      t.slc.own = 7 ∧ t.slc.line = .silenced ∧
      t = { u with evq := { u.evq with
        queue := [⟨.restarted, 0, 0, 0⟩, ⟨.stationConflict, 7, 0, 0⟩, ⟨.isolatedEntered, 1, 3, 0⟩] } }

/-- R170, R177, R67: an invalid station strap silences the part at reset; that the LSU then isolates, with its event,
is the model's reading (log 11). -/
def Obligations.InvalidStrapSilencesAtReset : Prop :=
  ∀ (budget : Fin 8) (s : State), ∃ t, exec (.powerOnReset 7 budget) s = .next t ∧ t.slc.own = 7 ∧
    t.slc.line = .silenced ∧ t.slc.claimSlot = none ∧ t.slc.answerSlot = none ∧ t.slc.statusSlot = none ∧
    t.slc.inFlight = none ∧ t.lsu.mode = .isolated ∧ t.lsu.silenced = true ∧ t.lsu.limit = 3 ∧ t.dsp.limit = 3 ∧
    t.evq.queue = [⟨.powerOn, 0, 0, 0⟩, ⟨.stationConflict, 7, 0, 0⟩, ⟨.isolatedEntered, 1, 3, 0⟩]

/-- R141: every step keeps the nonvolatile memory in its canonical form, all addresses within the 25 sectors. -/
def Obligations.MemoryStaysCanonical : Prop :=
  ∀ s t : State, Mem.wf s.stc.mem = true → step s = .next t → Mem.wf t.stc.mem = true

/-- R191: "The event queue holds at most 16 entries in posting order, and the lost count never exceeds 255." -/
def Obligations.EventQueueStaysBounded : Prop :=
  ∀ s t : State, s.evq.bounded = true → step s = .next t → t.evq.bounded = true

/-- R28, R30, R31, R34, R35, R38, R40 to R42: every accumulator stays in -1000 to 2000, a blocked load is off, the
blocked flags follow their conditions, and the energised loads stay within the heating headroom. -/
def Obligations.DispatcherStaysSound : Prop :=
  ∀ s t : State, s.dsp.sound = true → step s = .next t → t.dsp.sound = true

/-- R65: "The applied limit never exceeds the circuit budget. Outside isolated operation it never exceeds the want of
the last claim the part has sent on the line, and it is zero before the first claim." The limit is formed by the mode,
and the headroom at the dispatcher from the limit delivered (R28, R66). -/
def Obligations.AppliedLimitKeepsToClaims : Prop :=
  ∀ s t : State, s.limitSound = true → s.claimsSound = true → step s = .next t →
    t.limitSound = true ∧ t.claimsSound = true ∧ t.lsu.limit ≤ t.lsu.budget ∧
      (t.lsu.mode = .waiting ∨ t.lsu.mode = .listening → t.lsu.limit = 0) ∧
      (t.lsu.mode = .sharing →
        t.lsu.limit = t.lsu.allowance ∧ t.lsu.allowance ≤ t.lsu.cc.want ∧
          ∃ sent, t.lsu.lc = some sent ∧ t.lsu.cc.want ≤ sent.want ∧ t.lsu.limit ≤ sent.want) ∧
      (t.lsu.mode = .isolated ∨ t.lsu.mode = .recovering →
        t.lsu.limit = min t.lsu.dc.want (t.lsu.budget / t.lsu.peak)) ∧
      (t.bus = [] → t.dsp.limit = t.lsu.limit ∧ t.dsp.headroom = t.lsu.limit - 3)

/-- R47, R56, R57, R58: the peer table holds at most one entry per station, none of the own, in station order, and
S_peak stays from 2 to 7 and covers it. -/
def Obligations.PeerTableStaysSound : Prop :=
  ∀ s t : State, s.peersSound = true → step s = .next t → t.peersSound = true ∧ t.lsu.peers.length ≤ 6

/-- R16, R17, R18, R48, R59, R61, R65, R84, R85, R133: the fan level, the preheat condition, the heat-limited
indication, the demand claim, the allowance, the applied limit, the BOILER demand, the boiler want and the cooking
request stand as their rules give them after every step. That preheat is false while the cavity temperature is
unavailable is the model's reading (log 18). -/
def Obligations.DerivedValuesStayFresh : Prop :=
  ∀ s t : State, s.fresh = true → step s = .next t → t.fresh = true

/-- R40, R166: "While a trip is active, every load named in its action set is off", for the built-in trips. -/
def Obligations.BuiltInTripsHoldLoadsOff : Prop :=
  ∀ s t : State, s.tripsDelivered = true → s.dsp.sound = true → step s = .next t →
    t.tripsDelivered = true ∧
      (t.bus = [] → ∀ p : Place, p.val < 4 → (t.ilu.terms.get p).active = true →
        ∀ l, Actions.load (t.ilu.actions p) l = true → (t.dsp.loads.get l).on = false)

/-- R162 to R164, R167: the terms of DOOR and CUTOUT are evaluated exactly once their inputs have settled; the DOOR trip
is active exactly while its term is true, and CUTOUT, SENSOR and DRY whenever theirs is. That SENSOR and DRY count as
evaluated from reset is the model's reading (log 19). -/
def Obligations.BuiltInTripsFollowTerms : Prop :=
  ∀ s t : State, s.ilu.builtInSound = true → step s = .next t → t.ilu.builtInSound = true

/-- R123: "the running step index always stays below the step count of the running recipe". -/
def Obligations.StepIndexStaysBelowCount : Prop :=
  ∀ s t : State, s.rsq.indexed = true → step s = .next t → t.rsq.indexed = true

/-- The invariants hold right after reset (Tables 1-8, 2-6, 3-11, 4-7, 6-9, 8-8, 9-5). The strap levels and the erased
memory of `State.reset` are the model's choice (log 1, log 2). -/
def Obligations.ResetStateMeetsInvariants : Prop :=
  Mem.wf State.reset.stc.mem = true ∧ State.reset.evq.bounded = true ∧ State.reset.dsp.sound = true ∧
    State.reset.limitSound = true ∧ State.reset.claimsSound = true ∧ State.reset.peersSound = true ∧ State.reset.fresh = true ∧
    State.reset.tripsDelivered = true ∧ State.reset.ilu.builtInSound = true ∧ State.reset.rsq.indexed = true ∧
    State.reset.slc.lineSound = true

/-- R34: "At each slot expiry at most one heating load is switched from off to on, and no load is switched on at any
other event." -/
def Obligations.LoadsSwitchOnOnlyAtSlotExpiry : Prop :=
  ∀ (i : Instr) (s t : State), exec i s = .next t →
    (i ≠ .slotExpiry → ∀ l, (s.dsp.loads.get l).on = false → (t.dsp.loads.get l).on = false) ∧
      (s.quiet = true → i = .slotExpiry →
        ∀ l l', (s.dsp.loads.get l).on = false → (t.dsp.loads.get l).on = true →
          (s.dsp.loads.get l').on = false → (t.dsp.loads.get l').on = true → l = l')

/-- R141, R155: between events, no command but the end of a memory operation or a reset changes a word of the
memory. -/
def Obligations.OnlyStoreOperationsChangeMemory : Prop :=
  ∀ (i : Instr) (s t : State), s.quiet = true → (∀ kept, i ≠ .storeOperationComplete kept) →
    (∀ station budget, i ≠ .powerOnReset station budget) → exec i s = .next t →
      t.stc.mem = s.stc.mem

/-- R47, R58, R67, R146, R170, R177, R186: until the next reset the station number, the budget, the CONFIGURED state, the
SILENCED state and the silenced flag are kept, the start-up scan stays done, and S_peak does not fall. That the strap
levels given last are kept too is the model's choice (log 34). -/
def Obligations.SettledMattersKeptUntilReset : Prop :=
  ∀ (i : Instr) (s t : State), s.quiet = true → (∀ station budget, i ≠ .powerOnReset station budget) →
    exec i s = .next t →
      t.slc.own = s.slc.own ∧ t.lsu.own = s.lsu.own ∧ t.lsu.budget = s.lsu.budget ∧ t.pins = s.pins ∧
        (s.cmh.configured = true → t.cmh.configured = true) ∧ (s.slc.line = .silenced → t.slc.line = .silenced) ∧
        (s.lsu.silenced = true → t.lsu.silenced = true) ∧ (s.stc.scanned = true → t.stc.scanned = true) ∧
        s.lsu.peak ≤ t.lsu.peak

/-- R164: a LATCHED built-in trip becomes inactive only through CLEAR_TRIP, or a reset. FRAME_DISCARDED is left out: its
bytes may be a CLEAR_TRIP frame, which Table 9-3 then accepts (log 7). -/
def Obligations.LatchedTripsStayUntilCleared : Prop :=
  ∀ (i : Instr) (s t : State) (p : Place), s.quiet = true → p = 1 ∨ p = 2 ∨ p = 3 →
    (∀ station budget, i ≠ .powerOnReset station budget) → (∀ source payload, i ≠ .clearTrip source payload) →
    (∀ bytes ack, i ≠ .frameDiscarded bytes ack) → i.wellFormed = true →
    exec i s = .next t → (s.ilu.terms.get p).active = true → (t.ilu.terms.get p).active = true

/-- R59, R60: "Allowances computed this way for every claimant in one view sum to at most B", for claims whose floor is
at most their want. -/
def Obligations.SharesSumWithinBudget : Prop :=
  ∀ (budget : Nat) (view : List Claim), (∀ c ∈ view, c.floor ≤ c.want) →
    ((List.range view.length).map fun i =>
      match view[i]? with
      | some c => shareOf budget c (view.eraseIdx i)
      | none => 0).sum ≤ budget

/-! ## Climate and dispatcher -/

/-- R1 to R5: the readings at a measurement expiry, what they change, and what is delivered; the readings stand when
the deliveries have been taken. -/
def Obligations.MeasurementTakesReadings : Prop :=
  ∀ (cavity core boiler : Int) (s : State), s.quiet = true →
    ∃ u : State, exec (.measurementExpiry cavity core boiler) s = .next (u.settle settleFuel) ∧
      u = { s with clc := u.clc, bus := u.bus } ∧
      u.clc.measureTimer = 250 ∧ u.clc.boiler = clampInt 0 2000 boiler ∧
      (-400 ≤ cavity ∧ cavity ≤ 4000 →
        u.clc.badCount = 0 ∧ u.clc.sensorFailed = false ∧
          (s.clc.window = [] → u.clc.window = [cavity, cavity, cavity, cavity] ∧ u.clc.temp = cavity) ∧
          ∀ a b c d, s.clc.window = [a, b, c, d] →
            u.clc.window = [b, c, d, cavity] ∧ u.clc.temp = (b + c + d + cavity).tdiv 4) ∧
      (cavity < -400 ∨ 4000 < cavity →
        u.clc.window = s.clc.window ∧ u.clc.temp = s.clc.temp ∧
          (s.clc.badCount < 2 → u.clc.badCount = s.clc.badCount + 1 ∧ u.clc.sensorFailed = s.clc.sensorFailed) ∧
          (2 ≤ s.clc.badCount → u.clc.badCount = 3 ∧ u.clc.sensorFailed = true)) ∧
      (s.clc.configured = true ∧ s.clc.probeFitted = true ∧ s.clc.probeIn = true →
        u.clc.core = some (clampInt 0 1200 core)) ∧
      (s.clc.configured = false ∨ s.clc.probeFitted = false ∨ s.clc.probeIn = false → u.clc.core = none) ∧
      (u.clc.temp ≠ s.clc.temp ∨ u.clc.boiler ≠ s.clc.boiler ∨ u.clc.sensorFailed ≠ s.clc.sensorFailed →
        Signal.iluClimate u.clc.temp u.clc.boiler u.clc.sensorFailed ∈ u.bus) ∧
      (u.clc.boiler ≠ s.clc.boiler → Signal.sgcBoiler u.clc.boiler ∈ u.bus ∧ Signal.sduBoiler u.clc.boiler ∈ u.bus) ∧
      (u.clc.core ≠ s.clc.core → Signal.rsqCore u.clc.core ∈ u.bus) ∧
      (s.clc.runOn.isSome = true ∧ u.clc.window ≠ [] ∧ u.clc.temp ≤ 800 → u.clc.runOn = none ∧ Signal.rsqRunOnEnd ∈ u.bus) ∧
      (s.clc.runOn = none ∨ u.clc.window = [] ∨ 800 < u.clc.temp → u.clc.runOn = s.clc.runOn) ∧
      (u.settle settleFuel).clc.temp = u.clc.temp ∧ (u.settle settleFuel).clc.boiler = u.clc.boiler ∧
      (u.settle settleFuel).clc.sensorFailed = u.clc.sensorFailed

/-- R9 to R13: the PI update at the control timer's expiry. -/
def Obligations.ControlTimerTakesPiUpdate : Prop :=
  ∀ (s : State) (m : Mode) (sp : Int), s.quiet = true → s.clc.controlTimer.isSome = true → s.clc.mode = some m →
    s.clc.setpoint = some sp → s.clc.run = .running → s.clc.window ≠ [] →
    ∃ u : State, exec .controlTimerExpiry s = .next (u.settle settleFuel) ∧
      u = { s with clc := u.clc, bus := u.bus } ∧
      u.clc.controlTimer = some 2000 ∧
      (let e := clampInt (-1000) 1000 (sp - s.clc.temp);
        (200 < e → u.clc.lastEffort = 1000 ∧ u.clc.integral = s.clc.integral) ∧
        (e < -100 → u.clc.lastEffort = 0 ∧ u.clc.integral = s.clc.integral) ∧
        (-100 ≤ e ∧ e ≤ 200 →
          let i := s.clc.integral + (e * m.row.ki).tdiv 256
          let held := s.clc.integral < i ∧
            (s.clc.lastEffort = 1000 ∨
              ∃ l, l ≠ .boiler ∧ m.row.weights.get l ≠ 0 ∧ (s.clc.starved.get l = true ∨ s.clc.blocked.get l = true));
          (held → u.clc.integral = clampInt 0 1000 s.clc.integral) ∧ (¬held → u.clc.integral = clampInt 0 1000 i) ∧
            u.clc.lastEffort = clampInt 0 1000 ((e * m.row.kp).tdiv 64 + u.clc.integral))) ∧
      (∀ l, u.clc.demands.get l = u.clc.lastEffort.toNat * m.row.weights.get l / 100) ∧
      u.clc.want = (([.top, .bottom, .ringA, .ringB, .grill] : List Load).map fun l =>
        (s.clc.rated.get l * u.clc.demands.get l + 999) / 1000).sum ∧
      Signal.dspDemands u.clc.demands ∈ u.bus ∧ (u.clc.want ≠ s.clc.want → Signal.lsuElementWant u.clc.want ∈ u.bus)

/-- R19, R137: the run-on timer's expiry stops the run-on and takes the fan of a FINISHING run to 0; its report makes a
FINISHING run IDLE. -/
def Obligations.RunOnEndsAtItsTimer : Prop :=
  (∀ s : State, s.quiet = true → s.clc.runOn.isSome = true →
    ∃ u : State, exec .runOnTimerExpiry s = .next (u.settle settleFuel) ∧
      u = { s with clc := u.clc, bus := u.bus } ∧ u.clc.runOn = none ∧
      (s.clc.run = .finishing → u.clc.fanLevel = 0) ∧
      (u.clc.fanLevel ≠ s.clc.fanLevel → Signal.dspFan u.clc.fanLevel ∈ u.bus ∧ Signal.iluFan u.clc.fanLevel ∈ u.bus) ∧
      Signal.rsqRunOnEnd ∈ u.bus) ∧
  ∀ s : State, s.rsq.run = .finishing →
    let r := (handle .rsqRunOnEnd s).rsq
    r.run = .idle ∧ r.source = .none ∧ r.recipe = 0 ∧ r.stepCount = 1 ∧ r.index = 0 ∧ r.live = none ∧
      Signal.lsuFloorClass 0 3 ∈ (handle .rsqRunOnEnd s).bus

/-- R21: an open command, in any vent state, starts a 6 s open drive; its expiry leaves the vent OPEN and changes
nothing else; VENT_CLOSED is not watched meanwhile. -/
def Obligations.OpenDriveRunsAndEnds : Prop :=
  (∀ c : Clc, c.configured = false ∨ c.ventFitted = true →
    c.openVent = { c with vent := .opening, ventTimer := some 6000 }) ∧
  (∀ s : State, s.quiet = true → s.fresh = true → s.clc.vent = .opening → s.clc.ventTimer.isSome = true →
    exec .openDriveExpiry s = .next { s with clc := { s.clc with vent := .opened, ventTimer := none } }) ∧
  ∀ (s : State) (closed settled : Bool), s.clc.vent = .opening →
    (handle (.clcVent closed settled) s).clc.vent = .opening ∧
      (handle (.clcVent closed settled) s).clc.ventTimer = s.clc.ventTimer

/-- R22: the close drive's expiry leaves the vent OPEN, posts VENT_FAULT with subject 0, and changes nothing else. The
event's value 0 is the model's choice (log 41). -/
def Obligations.CloseTravelTimeoutOpensVent : Prop :=
  ∀ s : State, s.quiet = true → s.fresh = true → s.clc.vent = .closing → s.clc.ventTimer.isSome = true →
    exec .closeTravelTimeout s = .next
      { s with
        clc := { s.clc with vent := .opened, ventTimer := none }
        evq := s.evq.append .ventFault 0 0 }

/-- R29 to R37: a slot expiry. `a` and `r` are a load's accumulator and run count after step 1; `still` says that it is
energised after step 2, and `used` is their energised sum then. At step 3 the first candidate in the order of R33 that
fits is switched on, and no other load. LOAD_STARVED of several loads is posted in index order, by the model's choice
(log 42). -/
def Obligations.SlotExpiryTakesFiveSteps : Prop :=
  ∀ s : State, s.quiet = true →
    let load := fun l => s.dsp.loads.get l
    let a := fun l => if (load l).rated ≠ 0 ∧ (load l).blocked = false then min 2000 ((load l).acc + (load l).demand)
      else (load l).acc
    let r := fun l => min 2 ((load l).runCount + 1)
    let still := fun l => (load l).on = true ∧ (r l = 1 ∨ 1000 ≤ a l)
    let used := (Load.all.map fun l => if still l then (load l).rated else 0).sum
    let fits := fun l => (load l).rated ≠ 0 ∧ (load l).blocked = false ∧ (load l).on = false ∧ 1000 ≤ a l ∧ r l = 2 ∧
      used + (load l).rated ≤ s.dsp.limit - 3
    let first := fun l => fits l ∧ ∀ l', l' ≠ l → fits l' → a l' < a l ∨ (a l' = a l ∧ l.index < l'.index);
    ∃ u : State, exec .slotExpiry s = .next (u.settle settleFuel) ∧
      u = { s with dsp := u.dsp, evq := u.evq, bus := u.bus } ∧ u.dsp.slotTimer = 500 ∧
      u.dsp.limit = s.dsp.limit ∧ u.dsp.configured = s.dsp.configured ∧ u.dsp.fan = s.dsp.fan ∧
      u.dsp.low = s.dsp.low ∧ u.dsp.dry = s.dsp.dry ∧
      (∀ l,
        let x := s.dsp.loads.get l
        let y := u.dsp.loads.get l
        y.rated = x.rated ∧ y.demand = x.demand ∧ y.tripBlock = x.tripBlock ∧ y.blocked = x.blocked ∧
        (still l → y.on = true ∧ y.acc = a l - 1000 ∧ y.runCount = r l) ∧
        (x.on = true → ¬still l → y.on = false ∧ y.acc = a l ∧ y.runCount = 0) ∧
        (x.on = false → first l → y.on = true ∧ y.acc = a l - 1000 ∧ y.runCount = 0) ∧
        (x.on = false → ¬first l → y.on = false ∧ y.acc = a l ∧ y.runCount = r l) ∧
        (let waits := x.rated ≠ 0 ∧ x.blocked = false ∧ y.on = false ∧ 0 < x.demand ∧ y.acc = 2000;
          (waits → y.starveCount = min 8 (x.starveCount + 1)) ∧ (¬waits → y.starveCount = 0)) ∧
        (y.starved = true ↔ (x.starved = true ∧ ¬(x.on = false ∧ y.on = true)) ∨ y.starveCount = 8)) ∧
      u.evq = (Load.all.filter fun l => (u.dsp.loads.get l).starved && !(s.dsp.loads.get l).starved).foldl
        (fun q l => q.append .loadStarved l.index (word (s.dsp.limit - 3))) s.evq ∧
      (u.dsp.starved ≠ s.dsp.starved → Signal.clcDispatch u.dsp.starved u.dsp.blocked ∈ u.bus) ∧
      (u.dsp.heatOn ≠ s.dsp.heatOn → Signal.iluHeat u.dsp.heatOn ∈ u.bus)

/-- R33, R34: step 3 switches on the first candidate that fits, in descending order of accumulator and then in index
order, and none where none fits. R38, R39: a fall of the applied limit sheds loads in ascending order until the energised
sum fits the new headroom, and no longer; each shed load is off, keeps its accumulator and starts its off-run, and one
LOAD_SHED counts them. -/
def Obligations.LoadsSwitchAndShedInOrder : Prop :=
  (∀ d : Dsp,
    (∀ l, (d.loads.get l).candidate = true → d.energisedSum + (d.loads.get l).rated ≤ d.headroom →
      (∀ l', (d.loads.get l').candidate = true → d.energisedSum + (d.loads.get l').rated ≤ d.headroom →
        (d.loads.get l').acc < (d.loads.get l).acc ∨
          ((d.loads.get l').acc = (d.loads.get l).acc ∧ l.index ≤ l'.index)) →
      d.switchOn = d.setLoad l (d.loads.get l).switchOn) ∧
    ((∀ l, (d.loads.get l).candidate = true → d.headroom < d.energisedSum + (d.loads.get l).rated) → d.switchOn = d)) ∧
  ∀ (s : State) (limit : Nat),
    let t := handle (.dspLimit limit) s
    t.dsp.limit = limit ∧ t.dsp.energisedSum ≤ limit - 3 ∧
      (∀ l, ((t.dsp.loads.get l) = (s.dsp.loads.get l)) ∨
        ((s.dsp.loads.get l).on = true ∧
          t.dsp.loads.get l = { s.dsp.loads.get l with on := false, runCount := 0 })) ∧
      (∀ l l', (s.dsp.loads.get l).on = true → (t.dsp.loads.get l).on = true → (s.dsp.loads.get l').on = true →
        (t.dsp.loads.get l').on = false →
        (s.dsp.loads.get l').acc < (s.dsp.loads.get l).acc ∨
          ((s.dsp.loads.get l').acc = (s.dsp.loads.get l).acc ∧ l.index < l'.index)) ∧
      (∀ l, (s.dsp.loads.get l).on = true → (t.dsp.loads.get l).on = false →
        (∀ l', (s.dsp.loads.get l').on = true → (t.dsp.loads.get l').on = false → l' ≠ l →
          (s.dsp.loads.get l').acc < (s.dsp.loads.get l).acc ∨
            ((s.dsp.loads.get l').acc = (s.dsp.loads.get l).acc ∧ l.index < l'.index)) →
        limit - 3 < t.dsp.energisedSum + (s.dsp.loads.get l).rated) ∧
      (s.dsp.energisedSum ≤ limit - 3 → t.dsp.loads = s.dsp.loads ∧ t.evq = s.evq) ∧
      (limit - 3 < s.dsp.energisedSum →
        t.evq = s.evq.append .loadShed
          ((Load.all.filter fun l => (s.dsp.loads.get l).on && !(t.dsp.loads.get l).on).length) (word (limit - 3)))

/-! ## Sharing the circuit -/

/-- R50, R52, R53, R54, R179: at the expiry of the listen window, of the claim period and of the minimum interval the
LSU fills the CLAIM slot with the demand claim, where the mode calls for it; in LINE_FAULT and SILENCED the SLC discards
it. Nothing else changes. -/
def Obligations.ShareTimersFillClaimSlot : Prop :=
  ∀ s : State, s.quiet = true → s.fresh = true →
    let slot := if s.slc.line = .lineFault ∨ s.slc.line = .silenced then s.slc.claimSlot else some s.lsu.dc;
    (s.lsu.listen.isSome = true →
      exec .listenWindowExpiry s = .next
        { s with lsu := { s.lsu with listen := none }, slc := { s.slc with claimSlot := slot } }) ∧
    (s.lsu.claimPeriod.isSome = true → s.lsu.mode = .sharing ∨ s.lsu.mode = .listening ∨ s.lsu.mode = .recovering →
      exec .claimPeriodExpiry s = .next
        { s with lsu := { s.lsu with claimPeriod := none }, slc := { s.slc with claimSlot := slot } }) ∧
    (s.lsu.minInterval.isSome = true → s.lsu.mode = .sharing →
      exec .minimumIntervalExpiry s = .next
        { s with
          lsu := { s.lsu with minInterval := none }
          slc := { s.slc with claimSlot := if s.lsu.lc = some s.lsu.dc then s.slc.claimSlot else slot } })

/-- R59, R61, R64, R66: at the expiry of the raise hold-off the pending claim becomes the cleared claim, the allowance
is recomputed, and a change of the applied limit is delivered. -/
def Obligations.RaiseHoldOffClearsPendingClaim : Prop :=
  ∀ (s : State) (c : Claim), s.quiet = true → s.fresh = true → s.lsu.holdOff.isSome = true → s.lsu.pc = some c →
    ∃ u : State, exec .raiseHoldOffExpiry s = .next (u.settle settleFuel) ∧
      u = { s with
        lsu := { s.lsu with
          cc := c, pc := none, holdOff := none, allowance := shareOf s.lsu.budget c s.lsu.countedPeers,
          limit := if s.lsu.mode = .sharing then shareOf s.lsu.budget c s.lsu.countedPeers else s.lsu.limit }
        bus := if u.lsu.limit = s.lsu.limit then [] else [.dspLimit u.lsu.limit] }

/-- R56, R58, R66, R174: a CLAIM from another station is read and acknowledged. A valid one makes or renews that
station's entry, LIVE with age 0, and PEER_JOINED is posted for a new or a returned station; one whose fields are out
of order leaves the table and is counted as a check error. The row brings all cells of its frame (log 9). -/
def Obligations.ReceivedClaimRenewsPeer : Prop :=
  ∀ (source : Fin 7) (floor want : Word) (cls : Byte) (ack : Level) (s : State), s.quiet = true → s.fresh = true →
    s.slc.lineSound = true → s.slc.line = .lineOk → s.slc.inFlight = none → s.slc.rx = .waiting → source.val ≠ s.slc.own →
    let read := s.slc.read ⟨.claim, source.val, 7, bytesOf floor ++ bytesOf want ++ [cls]⟩ .dominant;
    (floor.toNat ≤ want.toNat ∧ want.toNat ≤ 1023 ∧ cls.toNat ≤ 3 →
      ∃ u : State, exec (.claimReceived source floor want cls ack) s = .next (u.settle (settleFuel - 1)) ∧
        u = { s with slc := read, lsu := u.lsu, evq := u.evq, bus := u.bus } ∧
        findPeer source.val u.lsu.peers = some ⟨source.val, false, floor.toNat, want.toNat, cls.toNat, 0⟩ ∧
        (∀ other, other ≠ source.val → findPeer other u.lsu.peers = findPeer other s.lsu.peers) ∧
        u.lsu.peak = max s.lsu.peak (1 + u.lsu.peers.length) ∧
        u.lsu = { s.lsu with
          peers := u.lsu.peers, peak := u.lsu.peak, allowance := u.lsu.allowance, limit := u.lsu.limit } ∧
        u.evq = (match findPeer source.val s.lsu.peers with
          | none => s.evq.append .peerJoined source.val 0
          | some p => if p.silent then s.evq.append .peerJoined source.val 1 else s.evq) ∧
        u.bus = if u.lsu.limit = s.lsu.limit then [] else [.dspLimit u.lsu.limit]) ∧
    (want.toNat < floor.toNat ∨ 1023 < want.toNat ∨ 3 < cls.toNat →
      exec (.claimReceived source floor want cls ack) s = .next
        { s with slc := { read with checkErrors := min 65535 (s.slc.checkErrors + 1) } })

/-- R57, R58: a LIVE entry becomes SILENT at 3.5 s, with PEER_SILENT; a SILENT one is removed at 63.5 s, with
PEER_LOST. No other entry changes. -/
def Obligations.PeersFallSilentAndAreLost : Prop :=
  ∀ (station : Fin 7) (s : State) (p : Peer), s.quiet = true → s.fresh = true → findPeer station.val s.lsu.peers = some p →
    (p.silent = false →
      ∃ u : State, exec (.peerSilent station) s = .next (u.settle settleFuel) ∧
        u = { s with lsu := u.lsu, evq := s.evq.append .peerSilent station.val (word p.want), bus := u.bus } ∧
        findPeer station.val u.lsu.peers = some { p with silent := true, age := 3500 } ∧
        u.lsu.peak = max s.lsu.peak (1 + u.lsu.peers.length) ∧
        (∀ other, other ≠ station.val → findPeer other u.lsu.peers = findPeer other s.lsu.peers) ∧
        u.lsu = { s.lsu with
          peers := u.lsu.peers, peak := u.lsu.peak, allowance := u.lsu.allowance, limit := u.lsu.limit } ∧
        u.bus = if u.lsu.limit = s.lsu.limit then [] else [.dspLimit u.lsu.limit]) ∧
    (p.silent = true →
      ∃ u : State, exec (.peerLost station) s = .next (u.settle settleFuel) ∧
        u = { s with lsu := u.lsu, evq := s.evq.append .peerLost station.val 0, bus := u.bus } ∧
        findPeer station.val u.lsu.peers = none ∧
        (∀ other, other ≠ station.val → findPeer other u.lsu.peers = findPeer other s.lsu.peers) ∧
        u.lsu.peak = max s.lsu.peak (1 + u.lsu.peers.length) ∧
        u.lsu = { s.lsu with
          peers := u.lsu.peers, peak := u.lsu.peak, allowance := u.lsu.allowance, limit := u.lsu.limit } ∧
        u.bus = if u.lsu.limit = s.lsu.limit then [] else [.dspLimit u.lsu.limit])

/-! ## Water -/

/-- R79, R81, R96: the fill timer's expiry, with the pump not held off, sends the generator to WAIT_TANK with water
held, posts FILL_TIMEOUT, and is reported to the owner of the request. R91, R92: at the drain timer's first expiry the
generator enters EMPTY with LOW uncovered, and else drains a second period; at the second expiry it enters EMPTY and
DRAIN_SLOW is posted. Entry to EMPTY is reported as a completed drain. That drain extended is clear there is the model's
reading of Table 4-1 (log 20). -/
def Obligations.FillAndDrainTimersEnd : Prop :=
  (∀ s : State, s.quiet = true → s.fresh = true → s.sgc.state = .filling ∨ s.sgc.state = .refilling →
    s.sgc.fillTimer.isSome = true → s.sgc.pumpOff.any = false →
    ∃ u : State, exec .fillTimeout s = .next (u.settle settleFuel) ∧
      u = { s with
        sgc := { s.sgc with
          state := .waitTank, wait := some ⟨s.sgc.state == .refilling, true⟩, fillTimer := none }
        evq := if s.sgc.state = .filling then s.evq.append .fillTimeout 0 90 else s.evq.append .fillTimeout 1 60
        bus := u.bus } ∧
      u.sgc.pump = false ∧ Signal.clcGenerator .waitTank ∈ u.bus ∧ Signal.iluGenerator .waitTank ∈ u.bus ∧
      (s.sgc.source = .run → Signal.rsqTank true ∈ u.bus) ∧ (s.sgc.source = .program → Signal.sduWait true ∈ u.bus)) ∧
  ∀ s : State, s.quiet = true → s.fresh = true → s.sgc.state = .draining → s.sgc.drainTimer.isSome = true →
    (s.sgc.extended = false ∧ s.sgc.low = true →
      exec .drainTimerExpiry s = .next { s with sgc := { s.sgc with extended := true, drainTimer := some 30000 } }) ∧
    (s.sgc.extended = true ∨ s.sgc.low = false →
      ∃ u : State, exec .drainTimerExpiry s = .next (u.settle settleFuel) ∧
        u = { s with
          sgc := { s.sgc with
            state := .empty, source := .none, fillTimer := none, ret := none, wait := none, drainTimer := none,
            extended := false }
          evq := if s.sgc.extended then s.evq.append .drainSlow 0 60 else s.evq
          bus := u.bus } ∧
        u.sgc.drainValve = false ∧ Signal.sduDrainEnded ∈ u.bus ∧ Signal.iluGenerator .empty ∈ u.bus)

/-- R109, R110: the soak complete, the SDU enters DRAIN with its count at 1200 s and delivers the request DRAIN. -/
def Obligations.SoakCompleteEntersDrain : Prop :=
  ∀ s : State, s.quiet = true → s.sdu.pstate = .soak → s.sdu.soaking = true → s.sdu.request = .warm →
    ∃ u : State, exec .soakComplete s = .next (u.settle settleFuel) ∧
      u = { s with
        sdu := { s.sdu with pstate := .drain, soaking := false, request := .drain, soak := 1200000 }
        bus := [.sgcProgram .drain] }

/-- R78, R87, R100, R101: HIGH covered ends a fill, which leads to HEATING, STANDING or COOLING; a completed refill is
reported, and adds the weight of the hardness class to the scale load, with the event of a threshold crossed. -/
def Obligations.RefillAddsScale : Prop :=
  (∀ s : State, s.sgc.state = .refilling → s.sgc.high = true → Signal.sduRefill ∈ (handle .sgcEntry s).bus) ∧
  (∀ s : State, s.sgc.state = .filling → s.sgc.high = true → Signal.sduRefill ∉ s.bus →
    Signal.sduRefill ∉ (handle .sgcEntry s).bus ∧ (handle .sgcEntry s).sgc.pump = false ∧
      (handle .sgcEntry s).sgc.fillTimer = none ∧
      ((handle .sgcEntry s).sgc.state = .heating ∨ (handle .sgcEntry s).sgc.state = .standing ∨
        (handle .sgcEntry s).sgc.state = .cooling)) ∧
  ∀ s : State, 1 ≤ s.sdu.hardness → s.sdu.hardness ≤ 7 →
    let after := min 65535 (s.sdu.scale + [1, 2, 3, 5, 7, 9, 12].getD (s.sdu.hardness - 1) 0);
    (handle .sduRefill s).sdu = { s.sdu with scale := after } ∧
      (handle .sduRefill s).evq =
        (if s.sdu.scale < 6000 ∧ 6000 ≤ after then s.evq.append .scaleAdvise 0 (word after)
        else if s.sdu.scale < 8000 ∧ 8000 ≤ after then s.evq.append .scaleLock 0 (word after)
        else s.evq) ∧
      (s.sdu.scale / 256 < after / 256 →
        Signal.stcRequest (.keepWrite ⟨after, s.sdu.hardness, s.sdu.rinse, s.sdu.count⟩) ∈ (handle .sduRefill s).bus)

/-! ## Recipes -/

/-- R121, R123, R124: the start read of a sound record that passes tests 4 and 6 to 8 starts the run: the run context,
the grant, RUN_STARTED (and RUN_PAUSED), the first step read, and the answer OK. That the live copy is clear until the
step read completes is the model's reading (log 20). -/
def Obligations.StartReadStartsRun : Prop :=
  ∀ (s : State) (slot : Nat) (ws : List Word) (record : Record), s.bus = [] → s.stc.readDone = some (.start ws) →
    s.rsq.startSlot = some slot → s.rsq.abortTrips.any = false → parseRecord (ws.drop 2) = some record →
    (∀ x ∈ record.steps, ∀ m, x.2.mode = some m → s.rsq.usable m = true ∧ (m.isSteam = true → s.rsq.steamLocked = false)) →
    (∀ x ∈ record.steps, ∀ k, x.2.endKind = some k → k.isCore = true → s.rsq.probeFitted = true) →
    s.rsq.rinse = false →
    ∃ u : State, exec .startReadComplete s = .next (u.settle settleFuel) ∧
      u = { s with stc := { s.stc with readDone := none }, rsq := u.rsq, evq := u.evq, bus := u.bus } ∧
      (let reasons : Reasons := ⟨s.rsq.doorTrip, s.rsq.pauseTrips.any, false, false, false⟩;
        u.rsq = { s.rsq with
          startSlot := none, source := .slot slot, recipe := (ws.getD 1 0).toNat, stepCount := record.steps.length,
          table := record.steps.map (·.1), index := 0, readPending := true, phase := .entry, live := none,
          stepElapsed := 0, runElapsed := 0, pauseTimer := 0, grant := !s.rsq.steamLocked, reasons := reasons,
          run := if reasons.any then .paused else .running, cooking := none } ∧
        u.evq = (if reasons.any then
            (s.evq.append .runStarted slot (word u.rsq.recipe)).append .runPaused reasons.code 0
          else s.evq.append .runStarted slot (word u.rsq.recipe))) ∧
      Signal.sgcGrant u.rsq.grant ∈ u.bus ∧ Signal.cmhAnswer .ok [] ∈ u.bus ∧
      ∀ e, u.rsq.table[0]? = some e → Signal.stcRequest (.stepRead slot e.offset e.length) ∈ u.bus

/-- R120, R124 to R127, R129, R131, R132: a step read that completes in a live run begins its step: the live copy, the
step elapsed at 0, phase ENTRY, and the deliveries; in any other state of the run its words are discarded. The step begun,
PROBE leaves the set of a step that is not core-type, STEP_BEGUN is posted, and the ENTRY decision sets the phase. In
PREHEAT a RUNNING run takes the condition when it comes or at the return to RUNNING; in ACTIVE a core reading at the target
ends a core-type step, at entry, when it comes, or at the return to RUNNING. That PROMPT precedes the RUN_PAUSED of PROBE
joining an empty set is the model's choice (log 45), the prompt where PROBE is a member already and the truncated seconds
are its readings (log 37, log 21). -/
def Obligations.StepReadBeginsStep : Prop :=
  (∀ (s : State) (ws rest : List Word) (step : RawStep) (l : LiveStep), s.bus = [] →
    s.stc.readDone = some (.step ws) → parseStep ws = some (step, rest) → step.toLive = some l →
    ((s.rsq.run = .running ∨ s.rsq.run = .paused) ∧ s.rsq.readPending = true →
      ∃ u : State, exec .stepReadComplete s = .next (u.settle settleFuel) ∧
        u = { s with stc := { s.stc with readDone := none }, rsq := u.rsq, bus := u.bus } ∧
        u.rsq = { s.rsq with
          live := some l, stepElapsed := 0, readPending := false, phase := .entry, cooking := u.rsq.cooking } ∧
        Signal.clcStep l ∈ u.bus ∧ Signal.lsuFloorClass l.floor (if l.hold then 2 else 1) ∈ u.bus ∧
        (u.rsq.cooking ≠ s.rsq.cooking → Signal.sgcCooking u.rsq.cooking ∈ u.bus) ∧ Signal.rsqBegun ∈ u.bus) ∧
    (s.rsq.run = .idle ∨ s.rsq.run = .finishing →
      exec .stepReadComplete s = .next { s with stc := { s.stc with readDone := none } })) ∧
  ∀ (s : State) (l : LiveStep), s.rsq.run = .running ∨ s.rsq.run = .paused → s.rsq.live = some l →
    s.rsq.readPending = false →
    let i := s.rsq.index
    let core := l.endKind = .core ∨ l.endKind = .timeOrCore
    let reached := core ∧ ∃ c, s.rsq.core = some c ∧ l.core ≤ c
    let stepEnds := fun (q : Evq) (t : State) =>
      (i + 1 < s.rsq.stepCount → t.rsq.index = i + 1 ∧ t.rsq.readPending = true ∧ t.rsq.phase = .entry ∧ t.evq = q ∧
        ∀ slot e, s.rsq.source = .slot slot → s.rsq.table[i + 1]? = some e →
          Signal.stcRequest (.stepRead slot e.offset e.length) ∈ t.bus) ∧
      (s.rsq.stepCount ≤ i + 1 →
        t.rsq.run = .finishing ∧ t.evq = q.append .runEnded 0 (word (s.rsq.runElapsed / 1000)))
    let goesOn := fun (run : RunState) (q : Evq) (t : State) =>
      (l.prompt ≠ 0 → t.rsq.phase = .waitConfirm ∧ t.rsq.run = run ∧ t.rsq.index = i ∧
        t.evq = q.append .prompt l.prompt (word (256 + i))) ∧
      (l.prompt = 0 → ¬(run = .running ∧ reached) →
        t.rsq.phase = .active ∧ t.rsq.run = run ∧ t.rsq.index = i ∧ t.evq = q) ∧
      (l.prompt = 0 → run = .running → reached → stepEnds q t)
    let preheated := fun (q : Evq) => q.append .preheatReached i (wordOfInt s.clc.temp);
    (s.rsq.phase = .entry →
      let t := handle .rsqBegun s
      let set := if l.endKind.isCore then s.rsq.reasons else { s.rsq.reasons with probe := false }
      let resumes := s.rsq.reasons.any && !set.any
      let run := if resumes then RunState.running else s.rsq.run
      let begun := (if resumes then
          s.evq.append .runResumed s.rsq.reasons.code (word (s.rsq.pauseTimer / 1000)) else s.evq).append
        .stepBegun i (if l.clamped then 1 else 0);
      t = { s with rsq := t.rsq, evq := t.evq, bus := t.bus } ∧
      (core → s.rsq.probe = false →
        t.rsq = { s.rsq with
          reasons := { s.rsq.reasons with probe := true }, cooking := t.rsq.cooking
          run := if s.rsq.reasons.any then s.rsq.run else .paused
          pauseTimer := if s.rsq.reasons.any then s.rsq.pauseTimer else 0 } ∧
        t.evq = (if s.rsq.reasons.any then begun.append .prompt 10 (word (512 + i))
          else (begun.append .prompt 10 (word (512 + i))).append .runPaused
            ({ s.rsq.reasons with probe := true } : Reasons).code (word i))) ∧
      (¬core ∨ s.rsq.probe = true →
        (l.preheat = true → run = .paused ∨ s.rsq.preheat = false →
          t.rsq.phase = .preheat ∧ t.rsq.run = run ∧ t.rsq.reasons = set ∧ t.evq = begun) ∧
        (l.preheat = true → run = .running → s.rsq.preheat = true → goesOn run (preheated begun) t) ∧
        (l.preheat = false → goesOn run begun t))) ∧
    (s.rsq.phase = .preheat →
      (s.rsq.run = .running → goesOn .running (preheated s.evq) (handle (.rsqPreheat true) s)) ∧
      (s.rsq.run = .running → s.rsq.preheat = true → goesOn .running (preheated s.evq) (handle .rsqResumed s)) ∧
      (s.rsq.run = .running → s.rsq.preheat = false → handle .rsqResumed s = s) ∧
      (s.rsq.run = .paused →
        (handle (.rsqPreheat true) s).rsq.phase = .preheat ∧ (handle (.rsqPreheat true) s).evq = s.evq)) ∧
    (s.rsq.phase = .active →
      (s.rsq.run = .running → reached → stepEnds s.evq (handle .rsqResumed s)) ∧
      (∀ c, s.rsq.run = .running → core → l.core ≤ c → stepEnds s.evq (handle (.rsqCore (some c)) s)) ∧
      (∀ c, s.rsq.run = .paused ∨ ¬core ∨ c < l.core →
        (handle (.rsqCore (some c)) s).rsq = { s.rsq with core := some c, cooking := s.rsq.cookingNow } ∧
          (handle (.rsqCore (some c)) s).evq = s.evq))

/-- R7, R120: the live copy of a step clamps each used value to its range and keeps every other field. That the humidity
of a FAN_ONLY step is 0 is the model's reading (log 22). -/
def Obligations.LiveCopyClampsValues : Prop :=
  ∀ (r : RawStep) (m : Mode) (v : VentField) (k : EndKind) (l : LiveStep), r.mode = some m → r.vent = some v →
    r.endKind = some k → r.toLive = some l →
    l.mode = m ∧ l.vent = v ∧ l.endKind = k ∧ l.preheat = r.preheat ∧ l.hold = r.hold ∧ l.prompt = r.prompt ∧
      (m = .fanOnly → l.setpoint = none) ∧
      (m ≠ .fanOnly → l.setpoint = some (clampInt m.row.lo m.row.hi r.setpoint)) ∧
      (m.isSteam = true → l.humidity = match r.humidity with
        | some h => clampNat m.row.humLo m.row.humHi h
        | none => m.row.humDef) ∧
      (m.isSteam = false → l.humidity = 0) ∧ l.fan = min 3 r.fan ∧ l.floor = min 100 (r.floor.getD 0) ∧
      (k.isTimed = true → l.duration = clampNat 1 43200 (r.duration.getD 0)) ∧
      (k.isCore = true → l.core = clampInt 300 1200 (r.core.getD 0))

/-- R129, R130, R136: a step whose time ends goes on to the next step's read, or ends the run NORMAL at the last.
Seconds are truncated by the model's reading (log 21). -/
def Obligations.StepTimeEndsStep : Prop :=
  ∀ (s : State) (l : LiveStep), s.quiet = true → s.rsq.live = some l → s.rsq.run = .running → s.rsq.phase = .active →
    l.endKind = .time ∨ l.endKind = .timeOrCore →
    ∃ u : State, exec .stepTimeEnd s = .next (u.settle settleFuel) ∧
      u = { s with rsq := u.rsq, evq := u.evq, bus := u.bus } ∧ u.rsq.stepElapsed = 1000 * l.duration ∧
      (s.rsq.index + 1 < s.rsq.stepCount →
        u.rsq.index = s.rsq.index + 1 ∧ u.rsq.readPending = true ∧ u.rsq.phase = .entry ∧ u.rsq.run = .running ∧
          u.rsq.live = some l ∧ u.rsq.cooking = none ∧ u.evq = s.evq ∧
          ∀ slot e, s.rsq.source = .slot slot → s.rsq.table[s.rsq.index + 1]? = some e →
            Signal.stcRequest (.stepRead slot e.offset e.length) ∈ u.bus) ∧
      (s.rsq.stepCount ≤ s.rsq.index + 1 →
        u.rsq.run = .finishing ∧ u.evq = s.evq.append .runEnded 0 (word (s.rsq.runElapsed / 1000)))

/-- R134, R136: the pause timer's end, the run time cap and STOP bring a live run to FINISHING, with their end
reasons: the grant and the cooking request are withdrawn, the drain is ordered, floor 0 and class 3 are delivered, the
pause-reason set is empty, and RUN_ENDED is posted with the run elapsed. That seconds are truncated, and that the
pause timer stands at 0 afterwards, is the model's reading (log 20, log 21). -/
def Obligations.RunEndsInFinishing : Prop :=
  (∀ s : State, s.quiet = true → s.rsq.run = .paused →
    ∃ u : State, exec .pauseTimerExpiry s = .next (u.settle settleFuel) ∧
      u = { s with rsq := u.rsq, evq := s.evq.append .runEnded 2 (word (s.rsq.runElapsed / 1000)), bus := u.bus } ∧
      u.rsq = { s.rsq with
        run := .finishing, reasons := ⟨false, false, false, false, false⟩, phase := .none, readPending := false,
        grant := false, pauseTimer := 0, cooking := none } ∧
      Signal.sgcGrant false ∈ u.bus ∧ Signal.sgcDrainOrder ∈ u.bus ∧ Signal.lsuFloorClass 0 3 ∈ u.bus ∧
      (s.rsq.cooking ≠ none → Signal.sgcCooking none ∈ u.bus) ∧ Signal.clcRun .finishing ∈ u.bus ∧
      Signal.iluRun .finishing ∈ u.bus ∧ Signal.cmhRunState ∈ u.bus) ∧
  (∀ s : State, s.quiet = true → s.rsq.run = .running ∨ s.rsq.run = .paused →
    ∃ u : State, exec .runTimeCap s = .next (u.settle settleFuel) ∧
      u = { s with rsq := u.rsq, evq := s.evq.append .runEnded 4 (word 43200), bus := u.bus } ∧
      u.rsq = { s.rsq with
        run := .finishing, reasons := ⟨false, false, false, false, false⟩, phase := .none, readPending := false,
        grant := false, pauseTimer := 0, runElapsed := 43200000, cooking := none } ∧
      Signal.sgcGrant false ∈ u.bus ∧ Signal.sgcDrainOrder ∈ u.bus ∧ Signal.lsuFloorClass 0 3 ∈ u.bus ∧
      (s.rsq.cooking ≠ none → Signal.sgcCooking none ∈ u.bus) ∧ Signal.clcRun .finishing ∈ u.bus) ∧
  ∀ (source : Fin 7) (s : State), s.listens source = true → s.cmh.configured = true →
    s.rsq.run = .running ∨ s.rsq.run = .paused →
    ∃ u : State, exec (.stop source []) s = .next (u.settle (settleFuel - 1)) ∧
      u = { s.taken source (some 0x17) [] with
        rsq := u.rsq, evq := s.evq.append .runEnded 1 (word (s.rsq.runElapsed / 1000)), bus := u.bus } ∧
      u.rsq = { s.rsq with
        run := .finishing, reasons := ⟨false, false, false, false, false⟩, phase := .none, readPending := false,
        grant := false, pauseTimer := 0, cooking := none } ∧
      Signal.cmhAnswer .ok [] ∈ u.bus ∧ Signal.sgcDrainOrder ∈ u.bus ∧ Signal.clcRun .finishing ∈ u.bus

/-- R107, R128, R130, R139, R187: CONFIRM goes to the SDU at a prompt of its own, to the SGC in WAIT_TANK, and else to the
RSQ, where a step in WAIT_CONFIRM becomes ACTIVE and an ACTIVE step of end kind CONFIRM ends. -/
def Obligations.ConfirmIsRouted : Prop :=
  ∀ (source : Fin 7) (s : State), s.listens source = true → s.cmh.configured = true →
    (s.sdu.pstate = .promptSolution → s.sdu.resume = none → s.sdu.tank = true →
      ∃ u : State, exec (.confirm source []) s = .next (u.settle (settleFuel - 1)) ∧
        u = { s.taken source (some 0x15) [] with sdu := u.sdu, bus := u.bus } ∧
        u.sdu = { s.sdu with pstate := .draw, request := .fill, rinse := true } ∧
        Signal.stcRequest (.keepWrite ⟨s.sdu.scale, s.sdu.hardness, true, s.sdu.count⟩) ∈ u.bus ∧
        (s.sdu.request ≠ .fill → Signal.sgcProgram .fill ∈ u.bus) ∧ Signal.cmhAnswer .ok [] ∈ u.bus) ∧
    (s.sdu.pstate = .promptWater → s.sdu.resume = none → s.sdu.tank = true →
      ∃ u : State, exec (.confirm source []) s = .next (u.settle (settleFuel - 1)) ∧
        u = { s.taken source (some 0x15) [] with sdu := u.sdu, bus := u.bus } ∧
        u.sdu = { s.sdu with pstate := .rinseFill, request := .fill, rinseCounter := 1 } ∧
        Signal.cmhAnswer .ok [] ∈ u.bus) ∧
    ((s.sdu.pstate = .promptSolution ∨ s.sdu.pstate = .promptWater) → s.sdu.resume = none → s.sdu.tank = false →
      exec (.confirm source []) s = .next
        ((s.taken source (some 0x15) []).answered ⟨source, 0x15, .wrongState, []⟩)) ∧
    (((s.sdu.pstate = .promptSolution ∨ s.sdu.pstate = .promptWater) ∧ s.sdu.resume ≠ none ∨
        (s.sdu.pstate ≠ .promptSolution ∧ s.sdu.pstate ≠ .promptWater ∧ s.sgc.source ≠ .none)) →
      s.sgc.state = .waitTank →
      (s.sgc.tank = true →
        ∃ u : State, exec (.confirm source []) s = .next (u.settle (settleFuel - 1)) ∧
          u = { s.taken source (some 0x15) [] with sgc := u.sgc, bus := u.bus } ∧
          (u.sgc.state = .filling ∨ u.sgc.state = .refilling ∨ u.sgc.state = .empty) ∧
          Signal.cmhAnswer .ok [] ∈ u.bus) ∧
      (s.sgc.tank = false →
        exec (.confirm source []) s = .next
          ((s.taken source (some 0x15) []).answered ⟨source, 0x15, .wrongState, []⟩))) ∧
    (s.sdu.pstate ≠ .promptSolution → s.sdu.pstate ≠ .promptWater → s.sgc.state ≠ .waitTank ∨ s.sgc.source = .none →
      (s.rsq.run = .running ∨ s.rsq.run = .paused → s.rsq.phase = .waitConfirm → s.fresh = true →
        (∀ l, s.rsq.live = some l → l.endKind ≠ .core ∧ l.endKind ≠ .timeOrCore) →
        exec (.confirm source []) s = .next
          (({ s with rsq := { s.rsq with phase := .active } }.taken source (some 0x15) []).answered
            ⟨source, 0x15, .ok, []⟩)) ∧
      (∀ l, s.rsq.run = .running ∨ s.rsq.run = .paused → s.rsq.phase = .active → s.rsq.live = some l →
        l.endKind = .confirm → s.rsq.index + 1 < s.rsq.stepCount →
        ∃ u : State, exec (.confirm source []) s = .next (u.settle (settleFuel - 1)) ∧
          u = { s.taken source (some 0x15) [] with rsq := u.rsq, bus := u.bus } ∧
          u.rsq = { s.rsq with index := s.rsq.index + 1, readPending := true, phase := .entry, cooking := none } ∧
          Signal.cmhAnswer .ok [] ∈ u.bus) ∧
      (s.rsq.run = .idle ∨ s.rsq.run = .finishing →
        exec (.confirm source []) s = .next
          ((s.taken source (some 0x15) []).answered ⟨source, 0x15, .wrongState, []⟩)))

/-- R138: ADJUST of a live step applies each value present, clamped, delivers the new setpoint, humidity and fan field to
the CLC, and answers CLAMPED when one was clamped and OK when none was. The elapsed seconds are truncated by the model's
reading (log 21). -/
def Obligations.AdjustAppliesPresentValues : Prop :=
  ∀ (source : Fin 7) (payload : List Byte) (s : State) (l : LiveStep) (a : Adjustment), s.listens source = true →
    s.cmh.configured = true → s.rsq.run = .running ∨ s.rsq.run = .paused → s.rsq.readPending = false →
    s.rsq.live = some l → adjustmentOf payload = some a → a.unused l = false →
    let elapsed := s.rsq.stepElapsed / 1000
    let setpoint := clampInt l.mode.row.lo l.mode.row.hi
    let humidity := clampNat l.mode.row.humLo l.mode.row.humHi
    let remaining := clampNat 1 (43200 - elapsed)
    let clamped := (∃ v, a.setpoint = some v ∧ setpoint v ≠ v) ∨ (∃ v, a.humidity = some v ∧ humidity v ≠ v) ∨
      (∃ v, a.fan = some v ∧ 3 < v) ∨ ∃ v, a.remaining = some v ∧ remaining v ≠ v;
    ∃ u : State, exec (.adjust source payload) s = .next (u.settle (settleFuel - 1)) ∧
      u = { s.taken source (some 0x12) payload with rsq := u.rsq, bus := u.bus } ∧
      u.rsq = { s.rsq with live := u.rsq.live, cooking := u.rsq.cooking } ∧
      u.rsq.live = some { l with
        setpoint := match a.setpoint with
          | some v => some (setpoint v)
          | none => l.setpoint
        humidity := match a.humidity with
          | some v => humidity v
          | none => l.humidity
        fan := match a.fan with
          | some v => min 3 v
          | none => l.fan
        duration := match a.remaining with
          | some v => elapsed + remaining v
          | none => l.duration } ∧
      (clamped → Signal.cmhAnswer .clamped [] ∈ u.bus ∧ Signal.cmhAnswer .ok [] ∉ u.bus) ∧
      (¬clamped → Signal.cmhAnswer .ok [] ∈ u.bus ∧ Signal.cmhAnswer .clamped [] ∉ u.bus) ∧
      (a.setpoint.isSome = true ∨ a.humidity.isSome = true ∨ a.fan.isSome = true →
        Signal.clcAdjust (a.setpoint.map setpoint) (a.humidity.map humidity) (a.fan.map (min 3)) ∈ u.bus) ∧
      (u.rsq.cooking ≠ s.rsq.cooking → Signal.sgcCooking u.rsq.cooking ∈ u.bus)

/-- R132, R135: PAUSE puts PANEL into the pause-reason set and RESUME takes it out; the run state follows the set,
with RUN_PAUSED and RUN_RESUMED. That the pause timer stands at 0 after it, and is posted in truncated seconds, is the
model's reading (log 20, log 21). -/
def Obligations.PauseAndResumeFollowPanel : Prop :=
  ∀ (source : Fin 7) (s : State), s.listens source = true → s.cmh.configured = true →
    s.rsq.run = .running ∨ s.rsq.run = .paused →
    (∃ u : State, exec (.pause source []) s = .next (u.settle (settleFuel - 1)) ∧
      u = { s.taken source (some 0x13) [] with rsq := u.rsq, evq := u.evq, bus := u.bus } ∧
      u.rsq.reasons = { s.rsq.reasons with panel := true } ∧ Signal.cmhAnswer .ok [] ∈ u.bus ∧
      (s.rsq.reasons.any = false →
        u.rsq.run = .paused ∧ u.rsq.pauseTimer = 0 ∧ u.evq = s.evq.append .runPaused 16 (word s.rsq.index)) ∧
      (s.rsq.reasons.any = true →
        u.rsq.run = s.rsq.run ∧ u.rsq.pauseTimer = s.rsq.pauseTimer ∧ u.evq = s.evq)) ∧
    (s.rsq.reasons.panel = true →
      ∃ u : State, exec (.resume source []) s = .next (u.settle (settleFuel - 1)) ∧
        u = { s.taken source (some 0x14) [] with rsq := u.rsq, evq := u.evq, bus := u.bus } ∧
        u.rsq.reasons = { s.rsq.reasons with panel := false } ∧ Signal.cmhAnswer .ok [] ∈ u.bus ∧
        (u.rsq.reasons.any = false →
          u.rsq.run = .running ∧ u.rsq.pauseTimer = 0 ∧
            u.evq = s.evq.append .runResumed 16 (word (s.rsq.pauseTimer / 1000))) ∧
        (u.rsq.reasons.any = true →
          u.rsq.run = s.rsq.run ∧ u.rsq.pauseTimer = s.rsq.pauseTimer ∧ u.evq = s.evq)) ∧
    (s.rsq.reasons.panel = false →
      exec (.resume source []) s = .next
        ((s.taken source (some 0x14) []).answered ⟨source, 0x14, .wrongState, []⟩))

/-- R124, R130, R136: SKIP_STEP ends the step of a live run, whatever its phase, and is refused with BUSY while a step
read is pending. The truncated seconds of RUN_ENDED are the model's reading (log 21). -/
def Obligations.SkipStepEndsStep : Prop :=
  ∀ (source : Fin 7) (s : State), s.listens source = true → s.cmh.configured = true →
    s.rsq.run = .running ∨ s.rsq.run = .paused →
    (s.rsq.readPending = false →
      ∃ u : State, exec (.skipStep source []) s = .next (u.settle (settleFuel - 1)) ∧
        u = { s.taken source (some 0x16) [] with rsq := u.rsq, evq := u.evq, bus := u.bus } ∧
        Signal.cmhAnswer .ok [] ∈ u.bus ∧
        (s.rsq.index + 1 < s.rsq.stepCount →
          u.rsq = { s.rsq with index := s.rsq.index + 1, readPending := true, phase := .entry, cooking := none } ∧
            u.evq = s.evq) ∧
        (s.rsq.stepCount ≤ s.rsq.index + 1 →
          u.rsq.run = .finishing ∧ u.evq = s.evq.append .runEnded 0 (word (s.rsq.runElapsed / 1000)))) ∧
    (s.rsq.readPending = true →
      exec (.skipStep source []) s = .next
        ((s.taken source (some 0x16) []).answered ⟨source, 0x16, .busy, []⟩))

/-- R119, R121, R122, R123: START_MANUAL of a sound step that passes tests 2 to 4 and 6 to 8 starts a manual run, with
the answer OK, or CLAMPED when a value was clamped. -/
def Obligations.StartManualStartsRun : Prop :=
  ∀ (source : Fin 7) (payload : List Byte) (s : State) (step : RawStep) (m : Mode) (l : LiveStep),
    s.listens source = true → s.cmh.configured = true → lengthAllowed 0x10 payload.length = true →
    s.rsq.run = .idle ∨ s.rsq.run = .finishing → s.rsq.descaleActive = false → s.rsq.abortTrips.any = false →
    manualStep payload = some step → step.mode = some m → step.toLive = some l → s.rsq.usable m = true →
    (l.endKind = .core ∨ l.endKind = .timeOrCore → s.rsq.probeFitted = true) →
    (m.isSteam = true → s.rsq.steamLocked = false) → s.rsq.rinse = false →
    ∃ u : State, exec (.startManual source payload) s = .next (u.settle (settleFuel - 1)) ∧
      u = { s.taken source (some 0x10) payload with rsq := u.rsq, evq := u.evq, bus := u.bus } ∧
      u.rsq.source = .manual ∧ u.rsq.recipe = 0 ∧ u.rsq.stepCount = 1 ∧ u.rsq.index = 0 ∧ u.rsq.stepElapsed = 0 ∧
      u.rsq.runElapsed = 0 ∧ u.rsq.grant = !s.rsq.steamLocked ∧
      u.rsq.reasons = ⟨s.rsq.doorTrip, s.rsq.pauseTrips.any, false, false, false⟩ ∧
      u.rsq.run = (if s.rsq.doorTrip || s.rsq.pauseTrips.any then .paused else .running) ∧
      u.evq = (if s.rsq.doorTrip || s.rsq.pauseTrips.any then
          (s.evq.append .runStarted 0 0).append .runPaused u.rsq.reasons.code 0
        else s.evq.append .runStarted 0 0) ∧
      Signal.sgcGrant u.rsq.grant ∈ u.bus ∧ Signal.rsqBegin step ∈ u.bus ∧
      Signal.cmhAnswer (if l.clamped then .clamped else .ok) [] ∈ u.bus

/-- R121, R142, R152: RUN_RECIPE of a VALID slot that passes tests 2 to 4 has its record read at once by a free store,
and stays in the command buffer; a slot outside 1 to 24 or not VALID is refused with BAD_FIELD. -/
def Obligations.RunRecipeReadsRecord : Prop :=
  ∀ (source : Fin 7) (slot : Byte) (s : State), s.listens source = true → s.cmh.configured = true →
    s.rsq.run = .idle ∨ s.rsq.run = .finishing → s.rsq.descaleActive = false → s.rsq.abortTrips.any = false →
    s.fresh = true → s.stc.free = true → s.stc.table.length = 24 →
    (1 ≤ slot.toNat ∧ slot.toNat ≤ 24 ∧ s.stc.slotState slot.toNat = .valid →
      exec (.runRecipe source [slot]) s = .next
        { s.taken source (some 0x11) [slot] with
          rsq := { s.rsq with startSlot := some slot.toNat }
          stc := { s.stc with readDone := some (.start (sectorWords s.stc.mem slot.toNat 0 128)) } }) ∧
    (slot.toNat = 0 ∨ 24 < slot.toNat ∨ s.stc.slotState slot.toNat ≠ .valid →
      exec (.runRecipe source [slot]) s = .next
        ((s.taken source (some 0x11) [slot]).answered ⟨source, 0x11, .badField, []⟩))

/-! ## The store -/

/-- R104, R145, R146, R153: the start-up scan at the wake timer's expiry: the slot table, the keep write position, and
the four values for the SDU, or the fallback values with KEEP_LOST. -/
def Obligations.ScanBuildsStore : Prop :=
  (∀ s : State, s.quiet = true → s.stc.scanned = false → s.stc.wakeTimer.isSome = true →
    let m := s.stc.mem
    let used := fun p => (keepWords m p).any (· != 0xFFFF#16)
    ∃ u : State, exec .wakeTimerExpiry s = .next (u.settle settleFuel) ∧
      u = { s with stc := u.stc, evq := u.evq, bus := u.bus } ∧
      u.stc = { s.stc with scanned := true, wakeTimer := none, table := u.stc.table, keepPos := u.stc.keepPos } ∧
      u.stc.table.length = 24 ∧
      (∀ n, 1 ≤ n → n ≤ 24 →
        let w := fun i => Mem.read m (128 * n + i)
        let sound := w 0 = 0xA55A#16 ∧ 1 ≤ (w 1).toNat ∧ (w 1).toNat ≤ 999 ∧
          (parseRecord (sectorWords m n 2 126)).isSome = true;
        ((∀ i, i < 128 → w i = 0xFFFF#16) → u.stc.slotState n = .empty) ∧ (sound → u.stc.slotState n = .valid) ∧
          ((∃ i, i < 128 ∧ w i ≠ 0xFFFF#16) → ¬sound → u.stc.slotState n = .incomplete)) ∧
      (∀ p, p < 25 → used p = true → (∀ q, p < q → q < 25 → used q = false) → u.stc.keepPos = 5 * p + 5) ∧
      ((∀ p, p < 25 → used p = false) → u.stc.keepPos = 0) ∧
      (∀ p v, p < 25 → keepOfWords (keepWords m p) = some v →
        (∀ q, p < q → q < 25 → keepOfWords (keepWords m q) = none) → u.bus = [.sduScan v .keep] ∧ u.evq = s.evq) ∧
      ((∀ p, p < 25 → keepOfWords (keepWords m p) = none) →
        u.bus = [.sduScan ⟨6000, 4, false, 0⟩ .fallback] ∧
          u.evq = s.evq.append .keepLost 0 (word ((List.range 25).filter used).length))) ∧
  (∀ (s : State) (v : KeepValues) (source : ValueSource),
    (handle (.sduScan v source) s).sdu =
      { s.sdu with scale := v.scale, hardness := v.hardness, rinse := v.rinse, count := v.count,
                   valueSource := source }) ∧
  ∀ v : KeepValues, v.scale ≤ 65535 → 1 ≤ v.hardness → v.hardness ≤ 7 → v.count ≤ 65535 →
    keepOfWords v.words = some v

/-- R141, R142, R147 to R149, R154: the end of a word program, whose word keeps only the bits that it and the value
both have set, but for the bits the cells failed to clear. A good verify goes on to the next word or ends the
operation; a failed one programs once more, and the second failure fails the operation. The bits that the cells failed
to clear are the command's operand (log 16). -/
def Obligations.WordProgramsVerify : Prop :=
  ∀ (kept : List (Nat × Word)) (s : State) (o : StoreOp) (a : Nat) (w : Word) (rest : List MemCell), s.quiet = true →
    Mem.wf s.stc.mem = true → s.stc.op = some o → o.erasing = none → o.words = (a, w) :: rest → a < 3200 →
    ∃ m : List MemCell, ∃ new : Word,
      new = (Mem.read s.stc.mem a &&& w) ||| (Mem.read s.stc.mem a &&& keptBits kept (a % 128)) ∧ Mem.wf m = true ∧
      (∀ b, Mem.read m b = if b = a then new else Mem.read s.stc.mem b) ∧
      (new = w → rest ≠ [] →
        exec (.storeOperationComplete kept) s = .next
          { s with stc := { s.stc with mem := m, op := some { o with words := rest, retried := false, left := 1 } } }) ∧
      (new ≠ w → o.retried = false →
        exec (.storeOperationComplete kept) s = .next
          { s with stc := { s.stc with mem := m, op := some { o with retried := true, left := 1 } } }) ∧
      (let served := fun x : State => match s.stc.requests with
          | [] => x
          | r :: more => State.serve r { x with stc := { x.stc with requests := more } };
        (new = w → rest = [] →
          (∀ slot recipe, o.request = .openSlot slot recipe →
            exec (.storeOperationComplete kept) s = .next ((served
              { s with
                stc := { s.stc with mem := m, op := none, ctx := some ⟨slot, recipe, none, some 30000⟩ }
                bus := [.cmhAnswer .ok []] }).settle settleFuel)) ∧
          (∀ offset ws c, o.request = .write offset ws → s.stc.ctx = some c →
            exec (.storeOperationComplete kept) s = .next ((served
              { s with
                stc := { s.stc with
                  mem := m, op := none
                  ctx := some { c with
                    highest := some (max (c.highest.getD 0) (offset + ws.length - 1)), timer := some 30000 } }
                bus := [.cmhAnswer .ok []] }).settle settleFuel)) ∧
          (∀ n c, o.request = .close n → s.stc.ctx = some c →
            exec (.storeOperationComplete kept) s = .next ((served
              { s with
                stc := { s.stc with mem := m, op := none, ctx := none, table := s.stc.table.set (c.slot - 1) .valid }
                bus := [.cmhAnswer .ok []] }).settle settleFuel)) ∧
          (∀ v, o.request = .keepWrite v →
            exec (.storeOperationComplete kept) s = .next ((served
              { s with stc := { s.stc with mem := m, op := none, keepPos := s.stc.keepPos + 5 } }).settle
                settleFuel))) ∧
        (new ≠ w → o.retried = true →
          (∀ slot recipe, o.request = .openSlot slot recipe →
            exec (.storeOperationComplete kept) s = .next ((served
              { s with
                stc := { s.stc with mem := m, op := none }, bus := [.cmhAnswer .storeFault []] }).settle settleFuel)) ∧
          ((∃ offset ws, o.request = .write offset ws) ∨ (∃ n, o.request = .close n) →
            exec (.storeOperationComplete kept) s = .next ((served
              { s with
                stc := { s.stc with mem := m, op := none, ctx := none }
                bus := [.cmhAnswer .storeFault []] }).settle settleFuel)) ∧
          (∀ v, o.request = .keepWrite v →
            exec (.storeOperationComplete kept) s = .next ((served
              { s with
                stc := { s.stc with mem := m, op := none, keepPos := s.stc.keepPos + 5 }
                evq := s.evq.append .keepWriteFail (s.stc.keepPos / 5) (word (a - s.stc.keepPos)) }).settle
                  settleFuel))))

/-- R141, R142, R147, R151, R154: the end of a sector erase, which sets the sector's 128 words to FFFFh, but for the
bits the cells failed to set, and changes no other word. A good verify goes on to the first word, or ends STORE_ERASE;
a failed one erases once more, and the second failure fails the operation. The bits that the cells failed to set are
the command's operand (log 16). -/
def Obligations.SectorErasesVerify : Prop :=
  ∀ (kept : List (Nat × Word)) (s : State) (o : StoreOp) (sector : Nat), s.quiet = true → Mem.wf s.stc.mem = true →
    s.stc.op = some o → o.erasing = some sector → sector < 25 → s.stc.requests = [] →
    ∃ m : List MemCell, Mem.wf m = true ∧
      (∀ i, i < 128 →
        Mem.read m (128 * sector + i) = ~~~(~~~(Mem.read s.stc.mem (128 * sector + i)) &&& keptBits kept i)) ∧
      (∀ b, b < 128 * sector ∨ 128 * sector + 128 ≤ b → Mem.read m b = Mem.read s.stc.mem b) ∧
      (let good := ∀ i, i < 128 → Mem.read m (128 * sector + i) = 0xFFFF#16;
        (good → o.words ≠ [] →
          exec (.storeOperationComplete kept) s = .next
            { s with
              stc := { s.stc with
                mem := m, op := some { o with erasing := none, retried := false, left := 1 }
                keepPos := if sector = 0 then 0 else s.stc.keepPos } }) ∧
        (∀ slot, good → o.words = [] → o.request = .erase slot → 1 ≤ sector →
          exec (.storeOperationComplete kept) s = .next (State.settle settleFuel
            { s with
              stc := { s.stc with mem := m, op := none, table := s.stc.table.set (slot - 1) .empty }
              bus := [.cmhAnswer .ok []] })) ∧
        (¬good → o.retried = false →
          exec (.storeOperationComplete kept) s = .next
            { s with stc := { s.stc with mem := m, op := some { o with retried := true, left := 25 } } }) ∧
        (¬good → o.retried = true →
          (∀ v, o.request = .keepWrite v →
            exec (.storeOperationComplete kept) s = .next
              { s with stc := { s.stc with mem := m, op := none }, evq := s.evq.append .keepWriteFail 25 0 }) ∧
          ((∃ slot recipe, o.request = .openSlot slot recipe) ∨ (∃ slot, o.request = .erase slot) →
            exec (.storeOperationComplete kept) s = .next (State.settle settleFuel
              { s with stc := { s.stc with mem := m, op := none }, bus := [.cmhAnswer .storeFault []] }))))

/-- R142, R143, R152, R154: a request to a busy or waking store joins the end of the list, a keep write taking the place
of one that waits. The request at the head of the list is served when the store is free: a keep write begins with its
first word, or with the erase of a full area; a read completes at once. -/
def Obligations.StoreRequestsAreServedInOrder : Prop :=
  (∀ (s : State) (r : StoreRequest), s.stc.free = false →
    (∀ v, r ≠ .keepWrite v) ∨ (∀ v, .keepWrite v ∉ s.stc.requests) →
    (handle (.stcRequest r) s) = { s with stc := { s.stc with requests := s.stc.requests ++ [r] } }) ∧
  (∀ (s : State) (v old : KeepValues) (before after : List StoreRequest), s.stc.free = false →
    s.stc.requests = before ++ .keepWrite old :: after → (∀ x, .keepWrite x ∉ before) →
    (handle (.stcRequest (.keepWrite v)) s) =
      { s with stc := { s.stc with requests := before ++ .keepWrite v :: after } }) ∧
  ∀ (s : State) (r : StoreRequest) (more : List StoreRequest), s.bus = [] → s.stc.scanned = true → s.stc.op = none →
    s.stc.readDone = none → s.stc.requests = r :: more →
    (∀ v, r = .keepWrite v → s.stc.keepPos ≠ 125 →
      exec .storeRequestServed s = .next
        { s with stc := { s.stc with
            requests := more, op := some ⟨r, none, v.words.zipIdx.map fun p => (s.stc.keepPos + p.2, p.1), false, 1⟩ } }) ∧
    (∀ v, r = .keepWrite v → s.stc.keepPos = 125 →
      exec .storeRequestServed s = .next
        { s with stc := { s.stc with
            requests := more, op := some ⟨r, some 0, v.words.zipIdx.map fun p => (p.2, p.1), false, 25⟩ } }) ∧
    (∀ slot, r = .startRead slot →
      exec .storeRequestServed s = .next
        { s with stc := { s.stc with
            requests := more, readDone := some (.start (sectorWords s.stc.mem slot 0 128)) } }) ∧
    (∀ slot offset length, r = .stepRead slot offset length →
      exec .storeRequestServed s = .next
        { s with stc := { s.stc with
            requests := more, readDone := some (.step (sectorWords s.stc.mem slot (offset + 2) length)) } })

/-- R147 to R151: STORE_OPEN, STORE_WRITE, STORE_CLOSE and STORE_ERASE at a free store are refused, or begin their
operation at once; STORE_ABANDONED closes the write context and posts its event. That a STORE_WRITE of seven words is
answered BAD_FIELD where no context is open is the model's reading (log 46). -/
def Obligations.StoreCommandsBeginOperations : Prop :=
  (∀ (source : Fin 7) (slot r1 r0 : Byte) (s : State), s.listens source = true → s.cmh.configured = true →
    s.stc.free = true →
    let recipe := (wordOf r1 r0).toNat
    let taken := s.taken source (some 0x20) [slot, r1, r0]
    exec (.storeOpen source [slot, r1, r0]) s = .next
      (if s.stc.ctx.isSome then taken.answered ⟨source, 0x20, .busy, []⟩
      else if slot.toNat = 0 ∨ 24 < slot.toNat ∨ recipe = 0 ∨ 999 < recipe then
        taken.answered ⟨source, 0x20, .badField, []⟩
      else if s.rsq.run ≠ .idle ∧ s.rsq.source = .slot slot.toNat then taken.answered ⟨source, 0x20, .wrongState, []⟩
      else
        { taken with stc := { s.stc with
            table := s.stc.table.set (slot.toNat - 1) .incomplete
            op := some ⟨.openSlot slot.toNat recipe, some slot.toNat, [(128 * slot.toNat + 1, wordOf r1 r0)], false,
              25⟩ } })) ∧
  (∀ (source : Fin 7) (offset : Byte) (ws : List Word) (s : State), s.listens source = true →
    s.cmh.configured = true → s.stc.free = true → ws.length ≤ 7 →
    let payload := offset :: ws.flatMap bytesOf;
    (s.stc.ctx = none → ws.length ≤ 6 →
      exec (.storeWrite source payload) s = .next
        ((s.taken source (some 0x21) payload).answered ⟨source, 0x21, .wrongState, []⟩)) ∧
    (s.stc.ctx = none → ws.length = 7 →
      exec (.storeWrite source payload) s = .next
        ((s.taken source (some 0x21) payload).answered ⟨source, 0x21, .badField, []⟩)) ∧
    ∀ c, s.stc.ctx = some c →
      (ws = [] ∨ ws.length = 7 ∨ 126 < offset.toNat + ws.length →
        exec (.storeWrite source payload) s = .next
          (({ s with stc := { s.stc with ctx := some { c with timer := some 30000 } } }.taken source (some 0x21)
            payload).answered ⟨source, 0x21, .badField, []⟩)) ∧
      (ws ≠ [] → ws.length ≤ 6 → offset.toNat + ws.length ≤ 126 →
        exec (.storeWrite source payload) s = .next
          { s.taken source (some 0x21) payload with stc := { s.stc with
              ctx := some { c with timer := none }
              op := some ⟨.write offset.toNat ws, none,
                ws.zipIdx.map fun p => (128 * c.slot + (offset.toNat + 2 + p.2), p.1), false, 1⟩ } })) ∧
  (∀ (source : Fin 7) (n : Byte) (s : State), s.listens source = true → s.cmh.configured = true → s.stc.free = true →
    (s.stc.ctx = none →
      exec (.storeClose source [n]) s = .next
        ((s.taken source (some 0x22) [n]).answered ⟨source, 0x22, .wrongState, []⟩)) ∧
    ∀ c, s.stc.ctx = some c →
      let sound := 1 ≤ n.toNat ∧ n.toNat ≤ 126 ∧ c.highest = some (n.toNat - 1) ∧
        (parseRecord (sectorWords s.stc.mem c.slot 2 126)).map (·.length) = some n.toNat;
      (sound →
        exec (.storeClose source [n]) s = .next
          { s.taken source (some 0x22) [n] with stc := { s.stc with
              ctx := some { c with timer := none }
              op := some ⟨.close n.toNat, none, [(128 * c.slot, 0xA55A#16)], false, 1⟩ } }) ∧
      (¬sound →
        exec (.storeClose source [n]) s = .next
          (({ s with stc := { s.stc with ctx := none } }.taken source (some 0x22) [n]).answered
            ⟨source, 0x22, .badField, []⟩))) ∧
  (∀ (source : Fin 7) (slot : Byte) (s : State), s.listens source = true → s.cmh.configured = true →
    s.stc.free = true →
    let taken := s.taken source (some 0x23) [slot]
    exec (.storeErase source [slot]) s = .next
      (if slot.toNat = 0 ∨ 24 < slot.toNat then taken.answered ⟨source, 0x23, .badField, []⟩
      else if s.stc.ctx.map (·.slot) = some slot.toNat ∨ s.rsq.run ≠ .idle ∧ s.rsq.source = .slot slot.toNat then
        taken.answered ⟨source, 0x23, .wrongState, []⟩
      else
        { taken with stc := { s.stc with
            table := s.stc.table.set (slot.toNat - 1) .incomplete
            op := some ⟨.erase slot.toNat, some slot.toNat, [], false, 25⟩ } })) ∧
  ∀ (s : State) (c : WriteContext), s.quiet = true → s.stc.ctx = some c → c.timer.isSome = true →
    exec .storeAbandoned s = .next
      { s with
        stc := { s.stc with ctx := none }
        evq := s.evq.append .storeAbandoned c.slot (match c.highest with
          | some h => word (h + 1)
          | none => 0) }

/-- R72, R102, R152, R183, R188, Tables 10-7 and 10-8: the reading commands are answered OK with their data, and
change nothing but the answer path; RESTART is answered OK, and takes effect when the fate of that answer is settled.
Ages and the soak time are in truncated seconds, the model's reading (log 21). -/
def Obligations.ReadingCommandsAnswer : Prop :=
  (∀ (source : Fin 7) (slot offset : Byte) (s : State), s.listens source = true → s.cmh.configured = true →
    s.stc.free = true →
    exec (.storeRead source [slot, offset]) s = .next ((s.taken source (some 0x24) [slot, offset]).answered
      (if slot.toNat = 0 ∨ 24 < slot.toNat ∨ 122 < offset.toNat then ⟨source, 0x24, .badField, []⟩
      else ⟨source, 0x24, .ok, byte (s.stc.slotState slot.toNat).code ::
        (sectorWords s.stc.mem slot.toNat offset.toNat 6).flatMap bytesOf⟩))) ∧
  (∀ (source : Fin 7) (s : State), s.listens source = true → s.stc.free = true →
    ∃ data, exec (.storeList source []) s = .next
        ((s.taken source (some 0x25) []).answered ⟨source, 0x25, .ok, data⟩) ∧
      (s.stc.table.length = 24 →
        data.length = 6 ∧ ∀ n, n < 24 → ∃ b, data[n / 4]? = some b ∧
          b.toNat / 4 ^ (3 - n % 4) % 4 = (s.stc.slotState (n + 1)).code)) ∧
  ∀ (source : Fin 7) (s : State), s.listens source = true →
    exec (.readScale source []) s = .next ((s.taken source (some 0x34) []).answered ⟨source, 0x34, .ok,
      bytesOf (word s.sdu.scale) ++ [byte s.sdu.hardness, byte s.sdu.rinse.toNat] ++ bytesOf (word s.sdu.count) ++
        [byte s.sdu.valueSource.code, byte s.sdu.program.code, byte s.sdu.pstate.code, byte s.sdu.round,
          byte s.sdu.rinseCounter] ++ bytesOf (word (s.sdu.soak / 1000))⟩) ∧
    exec (.readPeers source [0]) s = .next ((s.taken source (some 0x42) [0]).answered ⟨source, 0x42, .ok,
      [byte s.lsu.mode.code, byte s.lsu.silenced.toNat] ++ bytesOf (word s.lsu.budget) ++ [byte s.lsu.peak] ++
        bytesOf (word s.lsu.allowance) ++ bytesOf (word s.lsu.limit) ++ [byte s.lsu.peers.length]⟩) ∧
    exec (.readPeers source [1]) s = .next ((s.taken source (some 0x42) [1]).answered ⟨source, 0x42, .ok,
      bytesOf (word s.lsu.dc.floor) ++ bytesOf (word s.lsu.dc.want) ++ [byte s.lsu.dc.cls] ++
        bytesOf (word s.lsu.cc.floor) ++ bytesOf (word s.lsu.cc.want) ++ [byte s.lsu.cc.cls]⟩) ∧
    exec (.readPeers source [2]) s = .next ((s.taken source (some 0x42) [2]).answered ⟨source, 0x42, .ok,
      match s.lsu.pc with
      | none => [0, 0, 0, 0, 0, 0]
      | some c => [1] ++ bytesOf (word c.floor) ++ bytesOf (word c.want) ++ [byte c.cls]⟩) ∧
    (∀ part : Byte, 3 ≤ part.toNat → part.toNat ≤ 5 →
      let entry := fun i => match s.lsu.peers[i]? with
        | none => [0xFF, 0, 0, 0, 0, 0, 0]
        | some p => [byte p.station, byte (128 * p.silent.toNat + p.age / 1000)] ++ bytesOf (word p.floor) ++
            bytesOf (word p.want) ++ [byte p.cls]
      exec (.readPeers source [part]) s = .next ((s.taken source (some 0x42) [part]).answered ⟨source, 0x42, .ok,
        entry (2 * part.toNat - 6) ++ entry (2 * part.toNat - 5)⟩)) ∧
    (∀ part : Byte, 5 < part.toNat →
      exec (.readPeers source [part]) s = .next
        ((s.taken source (some 0x42) [part]).answered ⟨source, 0x42, .badField, []⟩)) ∧
    exec (.readLineCounts source []) s = .next ((s.taken source (some 0x43) []).answered ⟨source, 0x43, .ok,
      bytesOf (word s.slc.checkErrors) ++ bytesOf (word s.slc.truncated) ++ bytesOf (word s.slc.arbitrationLosses) ++
        bytesOf (word s.slc.undelivered) ++ bytesOf (word s.slc.conflicts) ++
        [byte s.slc.line.code, byte s.slc.own]⟩) ∧
    exec (.restart source []) s = .next ((s.taken source (some 0x4F) []).answered ⟨source, 0x4F, .ok, []⟩) ∧
    (s.cmh.restartDue = false → ∀ a : Answer, s.cmh.outstanding = none →
      ((handle .cmhSlotEmpty { s with cmh := { s.cmh with outstanding := some a } }).cmh.restartDue = true ↔
        a.code = 0x4F ∧ a.result = .ok))

/-! ## Inputs, interlocks and trips -/

/-- R156 to R158, R160 to R164: a sample expiry: the agreement count, the filtered value and the settled state of each
input, and the deliveries of the inputs that change, each with both; DOOR and CUTOUT are true while their settled input
reads open, and set and clear their trips; the configurable terms follow their sources. That the inputs that change at
one expiry are taken together, each term judged once on all of them, is the model's reading (log 14). -/
def Obligations.SamplesFilterInputs : Prop :=
  ∀ (pins : Inputs Bool) (s : State), s.quiet = true →
    ∃ u : State, exec (.sampleExpiry pins) s = .next (u.settle settleFuel) ∧
      u = { s with ilu := u.ilu, evq := u.evq, bus := u.bus } ∧
      u.ilu = { s.ilu with sampleTimer := 5, inputs := u.ilu.inputs, terms := u.ilu.terms } ∧
      (let follows := fun (old new : InputState) (len : Nat) (sample : Bool) =>
          new.last = some sample ∧ (old.last = some sample → new.count = min len (old.count + 1)) ∧
            (old.last ≠ some sample → new.count = 1) ∧
            (new.count = len → new.filtered = sample ∧ new.settled = true) ∧
            (new.count ≠ len → new.filtered = old.filtered ∧ new.settled = old.settled);
        follows s.ilu.inputs.door u.ilu.inputs.door 4 pins.door ∧
          follows s.ilu.inputs.tank u.ilu.inputs.tank 4 pins.tank ∧
          follows s.ilu.inputs.levelLow u.ilu.inputs.levelLow 16 pins.levelLow ∧
          follows s.ilu.inputs.levelHigh u.ilu.inputs.levelHigh 16 pins.levelHigh ∧
          follows s.ilu.inputs.tray u.ilu.inputs.tray 4 pins.tray ∧
          follows s.ilu.inputs.cutout u.ilu.inputs.cutout 4 pins.cutout ∧
          follows s.ilu.inputs.probe u.ilu.inputs.probe 4 pins.probe ∧
          follows s.ilu.inputs.ventClosed u.ilu.inputs.ventClosed 4 pins.ventClosed) ∧
      (let i := s.ilu.inputs
        let j := u.ilu.inputs
        let changes := fun (old new : InputState) => old.filtered ≠ new.filtered ∨ old.settled ≠ new.settled;
        (changes i.tank j.tank → Signal.sgcTank j.tank.filtered j.tank.settled ∈ u.bus ∧
          Signal.sduTank j.tank.filtered j.tank.settled ∈ u.bus) ∧
        (changes i.levelLow j.levelLow → Signal.dspLow j.levelLow.filtered j.levelLow.settled ∈ u.bus ∧
          Signal.sgcLow j.levelLow.filtered j.levelLow.settled ∈ u.bus) ∧
        (changes i.levelHigh j.levelHigh → Signal.sgcHigh j.levelHigh.filtered j.levelHigh.settled ∈ u.bus) ∧
        (changes i.probe j.probe → Signal.clcProbe j.probe.filtered j.probe.settled ∈ u.bus ∧
          Signal.rsqProbe j.probe.filtered j.probe.settled ∈ u.bus) ∧
        (changes i.ventClosed j.ventClosed →
          Signal.clcVent j.ventClosed.filtered j.ventClosed.settled ∈ u.bus) ∧
        (let begun := fun (old new : InputState) (x : TermState) =>
            if old.settled = false ∧ new.settled = true then { x with output := some false, latch := false } else x
          let was := { s with ilu := { s.ilu with terms := { s.ilu.terms with
            p0 := begun i.door j.door s.ilu.terms.p0, p1 := begun i.cutout j.cutout s.ilu.terms.p1 } } };
          (s.ilu.builtInSound = true →
            (j.door.settled = true → u.ilu.terms.p0.output = some (!j.door.filtered)) ∧
              (j.cutout.settled = true → u.ilu.terms.p1.output = some (!j.cutout.filtered))) ∧
          was.tripFollows u 0 (!j.door.filtered) 0 false 0x0A3F ∧
          was.tripFollows u 1 (!j.cutout.filtered) 0 true 0x153F)) ∧
      s.termsFollow u

/-- R94, R95, R159 to R167, Tables 8-4 and 8-6: a persistence timer's expiry sets its trip; CLEAR_TRIP clears an active
trip whose term is no longer true, and is refused by the other rows of R165. Each posts its event and delivers the action
set to the DSP, the SGC, the CLC and the RSQ. The DRY trip sends a fitted generator to FAULT, and its clearing to COOLING.
The sixteen sources are those of Table 8-4. At each delivery to the ILU the configurable terms follow their sources, and
SENSOR and DRY their conditions; at CONFIGURED the terms held begin to be evaluated, from an output false and a clear
latch. That the conditions of one measurement expiry, and the terms that begin at CONFIGURED, are taken together is the
model's reading (log 14). -/
def Obligations.TripsAreSetAndCleared : Prop :=
  (∀ (p : Fin 8) (s : State), s.quiet = true → (s.ilu.terms.get p).timer.isSome = true →
    (s.ilu.terms.get p).output = some true → (s.ilu.terms.get p).active = false →
    let a := s.ilu.actions p
    exec (.persistenceExpiry p) s = .next (State.settle settleFuel
      { s with
        ilu := { s.ilu with terms := s.ilu.terms.set p { s.ilu.terms.get p with active := true, timer := none } }
        evq := s.evq.append .tripSet p.val a
        bus := [.dspTrip p a true, .sgcTrip p a true, .clcTrip p a true, .rsqTrip p a true] })) ∧
  (∀ (source : Fin 7) (p : Fin 8) (s : State), s.listens source = true → s.cmh.configured = true →
    let place : Byte := byte p.val
    let t := s.ilu.terms.get p
    let a := s.ilu.actions p;
    (t.active = false →
      exec (.clearTrip source [place]) s = .next
        ((s.taken source (some 0x41) [place]).answered ⟨source, 0x41, .wrongState, []⟩)) ∧
    (t.active = true → t.output = some true →
      exec (.clearTrip source [place]) s = .next
        ((s.taken source (some 0x41) [place]).answered ⟨source, 0x41, .termStillTrue, []⟩)) ∧
    (t.active = true → t.output ≠ some true →
      exec (.clearTrip source [place]) s = .next (State.settle (settleFuel - 1)
        { s.taken source (some 0x41) [place] with
          ilu := { s.ilu with terms := s.ilu.terms.set p { t with active := false } }
          evq := s.evq.append .tripCleared p.val 1
          bus := [.dspTrip p a false, .sgcTrip p a false, .clcTrip p a false, .rsqTrip p a false,
            .cmhAnswer .ok []] }))) ∧
  (∀ (source : Fin 7) (place : Byte) (s : State), s.listens source = true →
    (s.cmh.configured = false →
      exec (.clearTrip source [place]) s = .next
        ((s.taken source (some 0x41) [place]).answered ⟨source, 0x41, .notConfigured, []⟩)) ∧
    (s.cmh.configured = true → 7 < place.toNat →
      exec (.clearTrip source [place]) s = .next
        ((s.taken source (some 0x41) [place]).answered ⟨source, 0x41, .badField, []⟩))) ∧
  (∀ (a : Word) (s : State),
    (s.sgc.fitted = true →
      let g := (handle (.sgcTrip 3 a true) s).sgc
      g.state = .fault ∧ g.fillTimer = none ∧ g.drainTimer = none ∧ g.pump = false ∧ g.drainValve = false ∧
        g.demand = 0 ∧ g.want = 0) ∧
    (s.sgc.state = .fault → (handle (.sgcTrip 3 a false) s).sgc.state = .cooling)) ∧
  (∀ i : Ilu, i.actions 0 = 0x0A3F ∧ i.actions 1 = 0x153F ∧ i.actions 2 = 0x103F ∧ i.actions 3 = 0x0920 ∧
    i.held 4 = i.t0 ∧ i.held 5 = i.t1 ∧ i.held 6 = i.t2 ∧ i.held 7 = i.t3 ∧
    [0, 1, 2, 3, 4, 5, 6, 7, 8, 9, 10, 11, 12, 13, 14, 15].map i.source =
      [true, !i.inputs.door.filtered, !i.inputs.tank.filtered, i.inputs.levelLow.filtered,
        i.inputs.levelHigh.filtered, !i.inputs.tray.filtered, !i.inputs.cutout.filtered, i.inputs.probe.filtered,
        i.inputs.ventClosed.filtered, i.cavityOver, i.boilerOver, i.runActive, i.steamActive, i.descaleActive,
        i.fanRunning, i.heatOn]) ∧
  (∀ (temp boiler : Int) (sensor : Bool) (s : State),
    let t := handle (.iluClimate temp boiler sensor) s;
    (t.ilu.cavityOver = true ↔ 3000 < temp) ∧ (t.ilu.boilerOver = true ↔ 1100 < boiler) ∧ s.termsFollow t ∧
      s.tripFollows t 2 sensor 0 true 0x103F ∧ s.tripFollows t 3 (decide (1400 < boiler)) 0 true 0x0920) ∧
  (∀ (r : RunState) (s : State), s.termsFollow (handle (.iluRun r) s) ∧
    ((handle (.iluRun r) s).ilu.runActive = true ↔ r = .running ∨ r = .paused)) ∧
  (∀ (g : GenState) (s : State), s.termsFollow (handle (.iluGenerator g) s) ∧
    ((handle (.iluGenerator g) s).ilu.steamActive = true ↔ g ≠ .empty)) ∧
  (∀ (on : Bool) (s : State), s.termsFollow (handle (.iluDescale on) s) ∧
    (handle (.iluDescale on) s).ilu.descaleActive = on) ∧
  (∀ (level : Nat) (s : State), s.termsFollow (handle (.iluFan level) s) ∧
    ((handle (.iluFan level) s).ilu.fanRunning = true ↔ 1 ≤ level)) ∧
  (∀ (on : Bool) (s : State), s.termsFollow (handle (.iluHeat on) s) ∧ (handle (.iluHeat on) s).ilu.heatOn = on) ∧
  ∀ s : State,
    let begun := fun (held : Option Term) (x : TermState) =>
      if held ≠ none then { x with output := some false, latch := false } else x
    let k := s.ilu.terms;
    State.termsFollow
      { s with ilu := { s.ilu with terms := { k with
        p4 := begun s.ilu.t0 k.p4, p5 := begun s.ilu.t1 k.p5, p6 := begun s.ilu.t2 k.p6, p7 := begun s.ilu.t3 k.p7 } } }
      (handle .iluConfigured s)

/-! ## The share line -/

/-- R171 to R174, R176, Table 9-3: the cells of a reception that ends as an error are read and counted once; a frame
read whole is discarded, and counted where Table 9-3 says so; a frame from the own number is a conflict, and so is a
mismatch after the source cells of the own frame. The line is then ignored until the next idle gap, which the recessive
cells of a truncated reception may complete (log 47), and cells that come meanwhile, short of a gap and of a stuck line,
are only counted. The third conflict in a row silences the part. A row brings its frame's cells, by the model's choice
(log 9). -/
def Obligations.LineErrorsAndConflictsAreCounted : Prop :=
  (∀ (fault : ReceptionFault) (bytes : List Byte) (tail : List Level) (s : State), s.quiet = true →
    s.slc.lineSound = true → s.slc.line = .lineOk ∨ s.slc.line = .silenced → s.slc.inFlight = none → s.slc.rx = .waiting →
    let incomplete := ∀ n : Byte, bytes[1]? = some n → n.toNat ≤ 16 ∧ bytes.length < n.toNat + 3
    let ends := match fault with
      | .framing => incomplete ∧ ∃ data, data.length = 8 ∧ tail = .dominant :: data ++ [.dominant]
      | .truncated => incomplete ∧ bytes ≠ [] ∧ tail = [.recessive, .recessive, .recessive]
      | .lengthAbove => tail = [] ∧ ∃ header length, bytes = [header, length] ∧ 16 < length.toNat
      | .checkMismatch => tail = [] ∧ ∃ header length payload check, bytes = header :: length :: payload ++ [check] ∧
          length.toNat ≤ 16 ∧ payload.length = length.toNat ∧ check ≠ checkByte (header :: length :: payload)
    let cells := cellsOf bytes ++ tail
    let counted := s.slc.counts cells;
    ends →
      exec (.receptionError cells) s = .next
        { s with slc := { counted with
            rx := if counted.idleCount = 12 then .waiting else .ignoring, rxBuffer := bytes, rxCells := []
            truncated := if fault = .truncated then min 65535 (s.slc.truncated + 1) else s.slc.truncated
            checkErrors :=
              if fault = .truncated then s.slc.checkErrors else min 65535 (s.slc.checkErrors + 1) } }) ∧
  (∀ (bytes : List Byte) (f : Frame) (ack : Level) (s : State), s.quiet = true → Frame.ofBytes bytes = some f →
    s.slc.lineSound = true → s.slc.line = .lineOk → s.slc.inFlight = none → s.slc.rx = .waiting → f.source ≠ s.slc.own → f.source < 7 →
    let wrong := (f.kind = .claim ∨ f.kind = .status) ∧ f.dest ≠ 7 ∨
      (f.kind = .command ∨ f.kind = .answer) ∧ f.dest = 7 ∨ f.kind = .claim ∧ f.payload.length ≠ 5;
    (wrong →
      exec (.frameDiscarded bytes ack) s = .next
        { s with slc := { s.slc.read f ack with checkErrors := min 65535 (s.slc.checkErrors + 1) } }) ∧
    (¬wrong → f.kind = .answer ∨ f.kind = .status ∨
        f.kind = .command ∧ (f.dest ≠ s.slc.own ∨ s.cmh.buffer.isSome = true) →
      exec (.frameDiscarded bytes ack) s = .next { s with slc := s.slc.read f ack })) ∧
  (∀ (kind : FrameKind) (dest : Fin 8) (payload : List Byte) (ack : Level) (s : State), s.quiet = true →
    s.slc.lineSound = true → payload.length ≤ 16 → s.slc.line = .lineOk ∨ s.slc.line = .silenced → s.slc.inFlight = none →
    s.slc.rx = .waiting →
    let counted := { s.slc.read ⟨kind, s.slc.own, dest.val, payload⟩ ack with
      conflicts := min 65535 (s.slc.conflicts + 1), consecutive := min 3 (s.slc.consecutive + 1) };
    (s.slc.consecutive < 2 ∨ s.slc.line = .silenced →
      exec (.ownSourceFrameReceived kind dest payload ack) s = .next { s with slc := counted }) ∧
    (2 ≤ s.slc.consecutive → s.slc.line = .lineOk →
      exec (.ownSourceFrameReceived kind dest payload ack) s = .next (State.settle settleFuel
        { s with
          slc := { counted with line := .silenced, claimSlot := none, answerSlot := none, statusSlot := none }
          evq := s.evq.append .stationConflict s.slc.own (word counted.conflicts)
          bus := [.cmhSlotEmpty, .lsuSilenced] }))) ∧
  (∀ s : State, s.quiet = true → s.slc.inFlight = none → s.slc.rx = .ignoring →
    let noGap := fun (cells : List Level) => ∀ n, (cells.take n).foldl idleCell s.slc.idleCount < 12
    let noStuck := fun (cells : List Level) => s.slc.line = .lineFault ∨ s.slc.line = .silenced ∨
      ∀ n, (cells.take n).foldl runCell s.slc.dominantRun < 17;
    (∀ cells, noGap cells → noStuck cells → exec (.receptionError cells) s = .next { s with slc := s.slc.counts cells }) ∧
    ∀ (kind : FrameKind) (dest : Fin 8) (payload : List Byte) (ack : Level),
      let cells := Frame.cells ⟨kind, s.slc.own, dest.val, payload⟩ ++ [ack]
      noGap cells → noStuck cells →
        exec (.ownSourceFrameReceived kind dest payload ack) s = .next { s with slc := s.slc.counts cells }) ∧
  ∀ (cell : Nat) (s : State) (f : InFlight), s.quiet = true → s.slc.inFlight = some f → f.cell < cell → 6 ≤ cell →
    f.cells[cell]? = some .recessive →
    let counted := { s.slc.counts ((f.cells.take cell).drop (f.cell + 1) ++ [.dominant]) with
      inFlight := none, rx := .ignoring, rxCells := [], conflicts := min 65535 (s.slc.conflicts + 1)
      consecutive := min 3 (s.slc.consecutive + 1) }
    let reported := match f.frame with
      | .claim _ => [Signal.lsuAbandoned]
      | .answer _ => [Signal.cmhSlotEmpty]
      | .status _ => [];
    (s.slc.consecutive < 2 →
      exec (.conflictWhileSending cell) s = .next
        (State.settle settleFuel { s with slc := counted, bus := reported })) ∧
    (2 ≤ s.slc.consecutive → s.slc.line = .lineOk →
      exec (.conflictWhileSending cell) s = .next (State.settle settleFuel
        { s with
          slc := { counted with line := .silenced, claimSlot := none, answerSlot := none, statusSlot := none }
          evq := s.evq.append .stationConflict s.slc.own (word counted.conflicts)
          bus := reported ++ [.cmhSlotEmpty, .lsuSilenced] }))

/-- R170 to R172, R175, R178 to R180: in an idle gap the occupied slot of lowest kind number is sent, its slot is empty
again, and the part drives the start cell dominant; a frame is lost at a cell of its kind or source that the part drives
recessive, returns to its slot unless a newer one waits there, and the part receives the winner with the header cells
read; a CLAIM of station 0 is never lost. At the acknowledge cell a CLAIM is reported sent, and an ANSWER that no station
acknowledged is counted undelivered and dropped. The receive buffer emptied after a loss is the model's choice (log 33),
as is how the own cells pass (log 9). -/
def Obligations.FramesAreSentFromSlots : Prop :=
  (∀ s : State, s.quiet = true → s.slc.line = .lineOk → s.slc.inFlight = none → s.slc.rx ≠ .receiving →
    (s.slc.idleCount < 12 → exec .transmitStart s = .next s) ∧
    (s.slc.idleCount = 12 →
      let sends := fun (slots : Slc) (f : TxFrame) => ∃ t, exec .transmitStart s = .next t ∧
        t.outputs.share = .dominant ∧
        t = { s with slc := { slots with
          inFlight := some ⟨f, (f.toFrame s.slc.own).bytes, 0⟩, rx := .waiting, idleCount := 0
          dominantRun := min 17 (s.slc.dominantRun + 1) } };
      (∀ c, s.slc.claimSlot = some c → sends { s.slc with claimSlot := none } (.claim c)) ∧
      (∀ a, s.slc.claimSlot = none → s.slc.answerSlot = some a →
        sends { s.slc with answerSlot := none } (.answer a)) ∧
      (∀ p, s.slc.claimSlot = none → s.slc.answerSlot = none → s.slc.statusSlot = some p →
        sends { s.slc with statusSlot := none } (.status p)))) ∧
  (∀ (bit : Fin 5) (s : State) (f : InFlight), s.quiet = true → s.slc.inFlight = some f →
    (f.cell ≤ bit.val → f.cells[bit.val + 1]? = some .recessive →
      exec (.arbitrationLoss bit) s = .next
        { s with slc := { s.slc.counts ((f.cells.take (bit.val + 1)).drop (f.cell + 1) ++ [.dominant]) with
            inFlight := none, arbitrationLosses := min 65535 (s.slc.arbitrationLosses + 1), rx := .receiving
            rxBuffer := [], rxCells := f.cells.take (bit.val + 1) ++ [.dominant]
            claimSlot := match f.frame, s.slc.claimSlot with
              | .claim c, none => some c
              | _, slot => slot
            answerSlot := match f.frame, s.slc.answerSlot with
              | .answer a, none => some a
              | _, slot => slot
            statusSlot := match f.frame, s.slc.statusSlot with
              | .status p, none => some p
              | _, slot => slot } }) ∧
    (∀ c, s.slc.own = 0 → f.frame = .claim c → f.bytes = (f.frame.toFrame s.slc.own).bytes →
      exec (.arbitrationLoss bit) s = .next s)) ∧
  (∀ (read : Level) (s : State) (f : InFlight), s.quiet = true → s.slc.inFlight = some f →
    let lost := read = .recessive ∧ ∃ a, f.frame = .answer a
    ∃ u : State, exec (.acknowledgeCell read) s = .next (u.settle settleFuel) ∧
      u = { s with slc := u.slc, bus := u.bus } ∧
      u.slc = { s.slc.counts (f.cells.drop (f.cell + 1) ++ [read]) with
        inFlight := none, consecutive := 0, undelivered := u.slc.undelivered } ∧
      (lost → u.slc.undelivered = min 65535 (s.slc.undelivered + 1)) ∧
      (¬lost → u.slc.undelivered = s.slc.undelivered) ∧
      u.bus = match f.frame with
        | .claim c => [.lsuSent c]
        | .answer _ => [.cmhSlotEmpty]
        | .status _ => []) ∧
  ∀ (s : State) (c : Claim), s.lsu.mode = .listening ∨ s.lsu.mode = .sharing ∨ s.lsu.mode = .recovering →
    let t := (handle (.lsuSent c) s).lsu
    let more := t.cc.floor < c.floor ∨ t.cc.want < c.want ∨ c.cls < t.cc.cls
    t.mode = .sharing ∧ t.lc = some c ∧ t.claimPeriod = some 1000 ∧
      t.cc = ⟨min s.lsu.cc.floor c.floor, min s.lsu.cc.want c.want, max s.lsu.cc.cls c.cls⟩ ∧
      (more → t.pc = some c ∧ (s.lsu.pc = none → t.holdOff = some 2000)) ∧
      (∀ p, more → s.lsu.pc = some p →
        ((p.floor < c.floor ∨ p.want < c.want ∨ c.cls < p.cls) → t.holdOff = some 2000) ∧
          (¬(p.floor < c.floor ∨ p.want < c.want ∨ c.cls < p.cls) → t.holdOff = s.lsu.holdOff)) ∧
      (¬more → t.pc = none ∧ t.holdOff = none)

/-- R51, R67, R69, R172, R173, R181, R182: twelve recessive cells make the first idle gap, which brings LINE_OK and the
listen window; a run of 17 dominant cells is a stuck line, which empties the slots and isolates the LSU; twelve recessive
cells restore the line, with the LSU recovering. The same comes of the cells of any row, at the cell at which a count is
reached, and so every step keeps the line sound. That the rows bring these cells, and that an idle step brings ten cells
of a quiet line or of the own frame, is the model's choice (log 6, log 9). -/
def Obligations.LineStatesFollowTheLine : Prop :=
  (∀ s : State, s.quiet = true → s.slc.line = .syncing →
    exec .firstIdleGap s = .next (State.settle settleFuel
      { s with
        slc := { s.slc with line := .lineOk, rx := .waiting, idleCount := 12, dominantRun := 0 }
        bus := [.lsuLineOk] })) ∧
  (∀ s : State, s.quiet = true → s.slc.line = .syncing ∨ s.slc.line = .lineOk →
    exec .lineFault s = .next (State.settle settleFuel
      { s with
        slc := { s.slc with
          line := .lineFault, rx := .ignoring, rxCells := [], consecutive := 0, dominantRun := 17, idleCount := 0
          inFlight := none, claimSlot := none, answerSlot := none, statusSlot := none }
        evq := s.evq.append .lineFault 0 (if s.slc.line = .syncing then 0 else 1)
        bus := [.cmhSlotEmpty, .lsuLineFault] })) ∧
  (∀ s : State, s.quiet = true → s.slc.line = .lineFault →
    exec .lineRestored s = .next (State.settle settleFuel
      { s with
        slc := { s.slc with line := .lineOk, rx := .waiting, idleCount := 12, dominantRun := 0 }
        evq := s.evq.append .lineRestored 0 0
        bus := [.lsuLineOk] })) ∧
  (∀ (cells : List Level) (s : State), s.quiet = true → s.slc.inFlight = none → s.slc.rx = .ignoring →
    let noGap := ∀ n, n < cells.length → (cells.take n).foldl idleCell s.slc.idleCount < 12
    let noStuck := ∀ n, n < cells.length → (cells.take n).foldl runCell s.slc.dominantRun < 17
    let l := s.slc.counts cells;
    (noGap → noStuck → cells ≠ [] → l.dominantRun = 17 → s.slc.line = .syncing ∨ s.slc.line = .lineOk →
      exec (.receptionError cells) s = .next (State.settle settleFuel
        { s with
          slc := { l with
            line := .lineFault, rxCells := [], consecutive := 0, inFlight := none, claimSlot := none
            answerSlot := none, statusSlot := none }
          evq := s.evq.append .lineFault 0 (if s.slc.line = .syncing then 0 else 1)
          bus := [.cmhSlotEmpty, .lsuLineFault] })) ∧
    (noGap → cells ≠ [] → l.idleCount = 12 → s.slc.line = .lineFault →
      exec (.receptionError cells) s = .next (State.settle settleFuel
        { s with
          slc := { l with line := .lineOk, rx := .waiting }
          evq := s.evq.append .lineRestored 0 0
          bus := [.lsuLineOk] })) ∧
    (noGap → noStuck → cells ≠ [] → l.idleCount = 12 → s.slc.line = .syncing →
      exec (.receptionError cells) s = .next (State.settle settleFuel
        { s with slc := { l with line := .lineOk, rx := .waiting }, bus := [.lsuLineOk] }))) ∧
  (∀ s t : State, s.slc.lineSound = true → step s = .next t → t.slc.lineSound = true) ∧
  (∀ s : State, s.quiet = true → s.pending = [] → s.slc.line = .lineOk ∨ s.slc.line = .silenced →
    (s.slc.inFlight = none → s.slc.rx ≠ .receiving →
      ∃ t, step s = .next t ∧ t.slc = { s.slc with
        idleCount := min 12 (s.slc.idleCount + 10), dominantRun := 0
        rx := if 2 ≤ s.slc.idleCount then .waiting else s.slc.rx }) ∧
    (∀ f, s.slc.inFlight = some f → f.cell < f.cells.length →
      ∃ t, step s = .next t ∧ t.slc = { s.slc.counts ((f.cells.drop (f.cell + 1)).take 10) with
        inFlight := some { f with cell := min (f.cell + 10) (f.cells.length - 1) } })) ∧
  (∀ s : State, s.lsu.mode = .waiting →
    (handle .lsuLineOk s).lsu.mode = .listening ∧ (handle .lsuLineOk s).lsu.listen = some 3500 ∧
      (handle .lsuLineOk s).lsu.limit = 0) ∧
  (∀ s : State, s.lsu.mode ≠ .isolated →
    let t := handle .lsuLineFault s
    let share := min s.lsu.dc.want (s.lsu.budget / s.lsu.peak)
    t.lsu.mode = .isolated ∧ t.lsu.limit = share ∧ t.lsu.listen = none ∧ t.lsu.claimPeriod = none ∧
      t.lsu.minInterval = none ∧ t.lsu.holdOff = none ∧ t.lsu.pc = none ∧
      t.evq = s.evq.append .isolatedEntered 0 (word share)) ∧
  ∀ s : State, s.lsu.mode = .isolated → s.lsu.silenced = false →
    let t := handle .lsuLineOk s
    t.lsu.mode = .recovering ∧ t.lsu.listen = some 3500 ∧
      t.lsu.cc = ⟨min s.lsu.dc.floor s.lsu.limit, s.lsu.limit, s.lsu.dc.cls⟩ ∧
      t.evq = s.evq.append .isolatedLeft 0 (word s.lsu.limit)

/-! ## Commands, status and events -/

/-- R185, Table 10-7: UNKNOWN_COMMAND is answered UNKNOWN, and any command that fails a test of decoding is answered at
once with the result of the first test that fails; nothing changes but the answer path and, at a refused STORE_WRITE with a
context open (R148), the inactivity timer, which restarts. That the length is tested before the context, so that a
STORE_WRITE of seven words is answered BAD_FIELD with none open, and that a STORE_CLOSE of a wrong length leaves the
context open, is the model's reading (log 46). -/
def Obligations.DecodingRefusesByFirstTest : Prop :=
  (∀ (source : Fin 7) (code : Option Byte) (payload : List Byte) (s : State),
    (Instr.unknownCommand source code payload).wellFormed = true → s.listens source = true →
      exec (.unknownCommand source code payload) s = .next
        ((s.taken source code payload).answered ⟨source, code.getD 0, .unknown, []⟩)) ∧
  ∀ (i : Instr) (source : Fin 7) (k : Byte) (payload : List Byte) (s : State),
    i.panelCommand = some (source, some k, payload) → i.wellFormed = true → s.listens source = true →
    let t := if k = 0x21 then { s with stc := { s.stc with
        ctx := s.stc.ctx.map fun c => { c with timer := some 30000 } } } else s
    let refused := fun r => (t.taken source (some k) payload).answered ⟨source, k, r, []⟩
    let known := k.toNat ∈ [0x01, 0x02, 0x03, 0x10, 0x11, 0x12, 0x13, 0x14, 0x15, 0x16, 0x17, 0x20, 0x21, 0x22,
      0x23, 0x24, 0x25, 0x30, 0x31, 0x32, 0x33, 0x34, 0x40, 0x41, 0x42, 0x43, 0x4F]
    let early := k.toNat ∈ [0x01, 0x02, 0x03, 0x25, 0x34, 0x40, 0x42, 0x43, 0x4F];
    (¬known → exec i s = .next (refused .unknown)) ∧
      (known → lengthAllowed k payload.length = false → exec i s = .next (refused .badField)) ∧
      (known → lengthAllowed k payload.length = true → s.cmh.configured = false → ¬early →
        exec i s = .next (refused .notConfigured)) ∧
      (lengthAllowed k payload.length = true → s.cmh.configured = true → 1 ≤ k.toNat → k.toNat ≤ 3 →
        exec i s = .next (refused .locked))

/-- R168, R185, R186: CONFIG_LOADS and CONFIG_TERM are held or refused; CONFIG_DONE waits in the buffer; CONFIGURED is
reached at the scan and the settled inputs, and delivered to every block; a configuration command that came before the
scan is taken at it. -/
def Obligations.ConfigurationIsReached : Prop :=
  (∀ (source : Fin 7) (p0 p1 p2 p3 p4 p5 flags : Byte) (s : State), s.listens source = true →
    s.cmh.configured = false → s.stc.scanned = true →
    let payload := [p0, p1, p2, p3, p4, p5, flags]
    let sound := (∀ p ∈ [p0, p1, p2, p3, p4, p5], p.toNat ≤ 150) ∧ flags.toNat < 8 ∧
      (flags.toNat % 2 = 1 ↔ p5.toNat ≠ 0);
    (sound →
      exec (.configLoads source payload) s = .next
        (({ s with cmh := { s.cmh with
            loads := some ⟨⟨p0.toNat, p1.toNat, p2.toNat, p3.toNat, p4.toNat, p5.toNat⟩, flags.toNat % 2 = 1,
              flags.toNat / 2 % 2 = 1, flags.toNat / 4 % 2 = 1⟩ } }.taken source (some 0x01) payload).answered
          ⟨source, 0x01, .ok, []⟩)) ∧
    (¬sound →
      exec (.configLoads source payload) s = .next
        ((s.taken source (some 0x01) payload).answered ⟨source, 0x01, .badField, []⟩))) ∧
  (∀ (source : Fin 7) (payload : List Byte) (s : State), s.listens source = true →
    s.cmh.configured = false → s.stc.scanned = true → payload.length = 8 →
    (∀ t, termOf payload = some (0, t) →
      exec (.configTerm source payload) s = .next (({ s with ilu := { s.ilu with t0 := some t } }.taken source
        (some 0x02) payload).answered ⟨source, 0x02, .ok, []⟩)) ∧
    (∀ t, termOf payload = some (1, t) →
      exec (.configTerm source payload) s = .next (({ s with ilu := { s.ilu with t1 := some t } }.taken source
        (some 0x02) payload).answered ⟨source, 0x02, .ok, []⟩)) ∧
    (∀ t, termOf payload = some (2, t) →
      exec (.configTerm source payload) s = .next (({ s with ilu := { s.ilu with t2 := some t } }.taken source
        (some 0x02) payload).answered ⟨source, 0x02, .ok, []⟩)) ∧
    (∀ t, termOf payload = some (3, t) →
      exec (.configTerm source payload) s = .next (({ s with ilu := { s.ilu with t3 := some t } }.taken source
        (some 0x02) payload).answered ⟨source, 0x02, .ok, []⟩)) ∧
    (termOf payload = none →
      exec (.configTerm source payload) s = .next
        ((s.taken source (some 0x02) payload).answered ⟨source, 0x02, .badField, []⟩))) ∧
  (∀ (source : Fin 7) (s : State), s.listens source = true → s.cmh.configured = false → s.stc.scanned = true →
    (s.cmh.loads = none →
      exec (.configDone source []) s = .next
        ((s.taken source (some 0x03) []).answered ⟨source, 0x03, .badField, []⟩)) ∧
    (s.cmh.loads ≠ none →
      ∃ t, exec (.configDone source []) s = .next t ∧
        t = { s.taken source (some 0x03) [] with
          cmh := { s.cmh with buffer := some ⟨source, some 0x03, []⟩, doneHeld := true } })) ∧
  (∀ (s : State) (r : LoadsRecord), s.bus = [] → s.cmh.doneHeld = true → s.cmh.loads = some r →
    s.stc.scanned = true → s.ilu.allSettled = true →
    exec .configuredReached s = .next (State.settle settleFuel
      { s with
        cmh := { s.cmh with configured := true, doneHeld := false }
        bus := [.dspConfigured r.rated, .clcConfigured r, .sgcConfigured r, .sduConfigured r, .rsqConfigured r,
          .lsuConfigured, .iluConfigured, .cmhAnswer .ok []] })) ∧
  (∀ (source : Fin 7) (payload : List Byte) (s : State), s.listens source = true → s.cmh.configured = false →
    s.stc.scanned = false → payload.length = 7 →
    exec (.configLoads source payload) s = .next
      { s.taken source (some 0x01) payload with
        cmh := { s.cmh with buffer := some ⟨source, some 0x01, payload⟩, deferred := true } }) ∧
  ∀ (source : Fin 7) (payload : List Byte) (s : State) (r : LoadsRecord), s.bus = [] → s.cmh.deferred = true →
    s.stc.scanned = true → s.cmh.buffer = some ⟨source, some 0x01, payload⟩ → loadsOf payload = some r →
    exec .deferredConfigCommand s = .next (State.settle settleFuel
      { s with
        cmh := { s.cmh with deferred := false, loads := some r }
        bus := [.cmhAnswer .ok []] })

/-- R184, R192, Table 10-8: FETCH_EVENTS removes the oldest entries, up to 3, and zeroes the lost count; each entry
goes out in a frame of its own, the first at once, the others as the ANSWER slot empties; the buffer is freed with the
last. An answer that waited is handed over then too. The second byte of an empty frame is the model's reading (log
39). -/
def Obligations.EventsAreFetchedInFrames : Prop :=
  (∀ (source : Fin 7) (s : State), s.listens source = true →
    let q := s.evq
    let n := min 3 q.queue.length
    let taken := { s.taken source (some 0x40) [] with evq := { q with queue := q.queue.drop 3, lost := 0 } }
    let frame := fun (k : Nat) (e : Event) => Answer.mk source 0x40 .ok
      ([byte q.lost, byte (16 * k + n), byte e.code.code, byte e.subject] ++ bytesOf e.value ++ bytesOf (word e.time));
    (q.queue = [] →
      exec (.fetchEvents source []) s = .next (taken.answered ⟨source, 0x40, .ok, [byte q.lost, 0]⟩)) ∧
    (∀ e, q.queue = [e] → exec (.fetchEvents source []) s = .next (taken.answered (frame 1 e))) ∧
    (∀ e e2 rest, q.queue = e :: e2 :: rest →
      exec (.fetchEvents source []) s = .next
        { taken with
          slc := { taken.slc with answerSlot := some (frame 1 e) }
          cmh := { taken.cmh with
            outstanding := some (frame 1 e)
            moreFrames := frame 2 e2 :: (rest.take 1).map (frame 3) } })) ∧
  (∀ (s : State) (a : Answer) (more : List Answer), s.bus = [] → s.cmh.moreFrames = a :: more →
    s.cmh.outstanding = none → s.cmh.answerWaiting = none → s.slc.answerSlot = none →
    s.slc.line = .lineOk ∨ s.slc.line = .syncing →
    exec .fetchEventsNextFrame s = .next
      { s with
        slc := { s.slc with answerSlot := some a }
        cmh := { s.cmh with
          outstanding := some a, moreFrames := more, buffer := if more = [] then none else s.cmh.buffer } }) ∧
  ∀ (s : State) (a : Answer), s.bus = [] → s.cmh.answerWaiting = some a → s.cmh.outstanding = none →
    s.cmh.moreFrames = [] → s.slc.answerSlot = none → s.slc.line = .lineOk ∨ s.slc.line = .syncing →
    exec .answerHandover s = .next
      { s with
        slc := { s.slc with answerSlot := some a }
        cmh := { s.cmh with outstanding := some a, answerWaiting := none, buffer := none } }

/-- R189, R190, Table 10-5: the STATUS slot is filled at each expiry of the status timer, and at the interval timer's
expiry when a change is held; a run state change within the interval is held. The frame has 16 bytes, each as Table 10-5
gives it; its remaining seconds are truncated by the model's reading (log 21). -/
def Obligations.StatusFramesFollowTimers : Prop :=
  (∀ s : State,
    let fill := fun x : State =>
      { x with
        cmh := { x.cmh with statusTimer := 1000, intervalTimer := some 200, changeHeld := false }
        slc := { x.slc with
          statusSlot := if x.slc.line = .lineFault ∨ x.slc.line = .silenced then x.slc.statusSlot
            else some x.statusPayload } }
    s.quiet = true →
    exec .statusTimerExpiry s = .next (fill s) ∧
    (s.cmh.intervalTimer.isSome = true → s.cmh.changeHeld = true →
      exec .statusIntervalExpiry s = .next (fill s)) ∧
    (s.cmh.intervalTimer.isSome = true → s.cmh.changeHeld = false →
      exec .statusIntervalExpiry s = .next { s with cmh := { s.cmh with intervalTimer := none } })) ∧
  (∀ s : State,
    (s.cmh.intervalTimer.isSome = true →
      handle .cmhRunState s = { s with cmh := { s.cmh with changeHeld := true } }) ∧
    (s.cmh.intervalTimer = none → Signal.slcStatus s.statusPayload ∈ (handle .cmhRunState s).bus)) ∧
  ∀ s : State,
    s.statusPayload.length = 16 ∧
      (∃ b, s.statusPayload[0]? = some b ∧ b.toNat = 64 * s.rsq.run.code + 8 * s.rsq.phase.code +
        4 * s.clc.heatLimited.toNat + 2 * s.cmh.configured.toNat + (if s.sdu.pstate = .idle then 0 else 1)) ∧
      (s.rsq.index < 256 → s.statusPayload[1]?.map (·.toNat) = some s.rsq.index) ∧
      (let r := s.rsq.reasons;
        s.statusPayload[2]?.map (·.toNat) = some
          (r.door.toNat + 2 * r.trip.toNat + 4 * r.tank.toNat + 8 * r.probe.toNat + 16 * r.panel.toNat)) ∧
      (∃ b c, s.statusPayload[3]? = some b ∧ s.statusPayload[4]? = some c ∧
        (-32768 ≤ s.clc.temp → s.clc.temp < 32768 → (wordOf b c).toInt = s.clc.temp)) ∧
      (s.clc.setpoint = none → s.statusPayload[5]? = some 0x80 ∧ s.statusPayload[6]? = some 0) ∧
      (s.clc.core = none → s.statusPayload[7]? = some 0x80 ∧ s.statusPayload[8]? = some 0) ∧
      (∀ v, s.clc.setpoint = some v → -32768 ≤ v → v < 32768 →
        ∃ b c, s.statusPayload[5]? = some b ∧ s.statusPayload[6]? = some c ∧ (wordOf b c).toInt = v) ∧
      (∀ v, s.clc.core = some v → -32768 ≤ v → v < 32768 →
        ∃ b c, s.statusPayload[7]? = some b ∧ s.statusPayload[8]? = some c ∧ (wordOf b c).toInt = v) ∧
      (∃ b c, s.statusPayload[9]? = some b ∧ s.statusPayload[10]? = some c ∧
        (∀ l, s.rsq.run = .running ∨ s.rsq.run = .paused → s.rsq.live = some l →
          l.endKind = .time ∨ l.endKind = .timeOrCore → l.duration < 65536 →
          (wordOf b c).toNat = l.duration - s.rsq.stepElapsed / 1000) ∧
        (s.rsq.run = .idle ∨ s.rsq.run = .finishing ∨
            (∀ l, s.rsq.live = some l → l.endKind ≠ .time ∧ l.endKind ≠ .timeOrCore) →
          (wordOf b c).toNat = 0)) ∧
      (s.evq.queue.length ≤ 16 →
        s.statusPayload[12]?.map (·.toNat) = some (s.evq.queue.length + 64 *
          (if s.sdu.rinse = true then 3 else if 8000 ≤ s.sdu.scale then 2 else if 6000 ≤ s.sdu.scale then 1 else 0))) ∧
      s.statusPayload[11]?.map (·.toNat) = some s.sgc.state.code ∧
      (∀ p : Place, ∃ b, s.statusPayload[13]? = some b ∧ b.getLsbD p.val = (s.ilu.terms.get p).active) ∧
      (∃ b c, s.statusPayload[14]? = some b ∧ s.statusPayload[15]? = some c ∧
        (s.lsu.limit < 65536 → (wordOf b c).toNat = s.lsu.limit))

/-- R99, R105, R106, R115: SET_HARDNESS takes its class, clamped to 1 to 7, and requests a keep write; DESCALE_START and
RINSE_START begin their programs at their prompts, or are refused by the first test that fails; DESCALE_ABORT ends a
program at its first prompt and else sends it to ABORT_DRAIN. -/
def Obligations.ScaleCommandsSteerPrograms : Prop :=
  ∀ (source : Fin 7) (s : State), s.listens source = true → s.cmh.configured = true →
    (∀ given : Byte,
      let cls := clampNat 1 7 given.toNat
      exec (.setHardness source [given]) s = .next (State.settle (settleFuel - 1)
        { s.taken source (some 0x30) [given] with
          sdu := { s.sdu with hardness := cls }
          bus := [.stcRequest (.keepWrite ⟨s.sdu.scale, cls, s.sdu.rinse, s.sdu.count⟩),
            .cmhAnswer (if 1 ≤ given.toNat ∧ given.toNat ≤ 7 then .ok else .clamped) []] })) ∧
    (let refusal : Option Result :=
        if s.sdu.fitted = false then some .notFitted
        else if s.sdu.pstate ≠ .idle then some .wrongState
        else if s.sdu.run ≠ .idle then some .wrongState
        else if s.sdu.gen ≠ .empty ∧ s.sdu.gen ≠ .cooling ∧ s.sdu.gen ≠ .draining then some .wrongState
        else none
      let descale := refusal.or (if s.sdu.rinse then some .rinseRequired else none)
      let rinse := refusal.or (if s.sdu.rinse then none else some .wrongState);
      (∀ r, descale = some r →
        exec (.descaleStart source []) s = .next
          ((s.taken source (some 0x31) []).answered ⟨source, 0x31, r, []⟩)) ∧
      (descale = none →
        ∃ u : State, exec (.descaleStart source []) s = .next (u.settle (settleFuel - 1)) ∧
          u = { s.taken source (some 0x31) [] with
            sdu := { s.sdu with program := .descale, round := 1, soak := 0, pstate := .promptSolution }
            evq := s.evq.append .prompt 20 0
            bus := u.bus } ∧
          Signal.iluDescale true ∈ u.bus ∧ Signal.rsqDescale true ∈ u.bus ∧ Signal.lsuFloorClass 0 3 ∈ u.bus ∧
          Signal.cmhAnswer .ok [] ∈ u.bus) ∧
      (∀ r, rinse = some r →
        exec (.rinseStart source []) s = .next
          ((s.taken source (some 0x32) []).answered ⟨source, 0x32, r, []⟩)) ∧
      (rinse = none →
        ∃ u : State, exec (.rinseStart source []) s = .next (u.settle (settleFuel - 1)) ∧
          u = { s.taken source (some 0x32) [] with
            sdu := { s.sdu with program := .rinse, rinseCounter := 1, pstate := .promptWater }
            evq := s.evq.append .prompt 21 0
            bus := u.bus } ∧
          Signal.lsuFloorClass 0 3 ∈ u.bus ∧ Signal.cmhAnswer .ok [] ∈ u.bus)) ∧
    (s.sdu.pstate = .idle ∨ s.sdu.pstate = .abortDrain →
      exec (.descaleAbort source []) s = .next
        ((s.taken source (some 0x33) []).answered ⟨source, 0x33, .wrongState, []⟩)) ∧
    (s.sdu.pstate = .promptSolution ∧ s.sdu.resume = none →
      ∃ u : State, exec (.descaleAbort source []) s = .next (u.settle (settleFuel - 1)) ∧
        u = { s.taken source (some 0x33) [] with
          sdu := { s.sdu with program := .none, pstate := .idle, request := .none, soaking := false }
          evq := s.evq.append .descaleAborted 0 1
          bus := u.bus } ∧
        Signal.iluDescale false ∈ u.bus ∧ Signal.lsuFloorClass 0 3 ∈ u.bus ∧ Signal.cmhAnswer .ok [] ∈ u.bus) ∧
    (s.sdu.pstate ≠ .idle ∧ s.sdu.pstate ≠ .abortDrain ∧ (s.sdu.pstate = .promptSolution → s.sdu.resume ≠ none) →
      ∃ u : State, exec (.descaleAbort source []) s = .next (u.settle (settleFuel - 1)) ∧
        u = { s.taken source (some 0x33) [] with
          sdu := { s.sdu with pstate := .abortDrain, request := .drain, resume := none, soaking := false }
          evq := s.evq.append .descaleAborted (if s.sdu.program = .rinse then 1 else 0) (word s.sdu.pstate.code)
          bus := u.bus } ∧
        (s.sdu.request ≠ .drain → Signal.sgcProgram .drain ∈ u.bus) ∧ Signal.cmhAnswer .ok [] ∈ u.bus)
end

