-- ==== Sys2Proof/Laws/State.lean ====
section
/-! SUPPORT. One lemma per field and update of the state, true by `rfl`. -/

namespace Sys2Proof.Machine

variable (s : State)

/-! ### `State.setClc` -/

@[simp] theorem State.setClc_pending (x : Clc) : (s.setClc x).pending = s.pending := rfl
@[simp] theorem State.setClc_bus (x : Clc) : (s.setClc x).bus = s.bus := rfl
@[simp] theorem State.setClc_freeUse (x : Clc) : (s.setClc x).freeUse = s.freeUse := rfl
@[simp] theorem State.setClc_pins (x : Clc) : (s.setClc x).pins = s.pins := rfl
@[simp] theorem State.setClc_clc (x : Clc) : (s.setClc x).clc = x := rfl
@[simp] theorem State.setClc_dsp (x : Clc) : (s.setClc x).dsp = s.dsp := rfl
@[simp] theorem State.setClc_lsu (x : Clc) : (s.setClc x).lsu = s.lsu := rfl
@[simp] theorem State.setClc_slc (x : Clc) : (s.setClc x).slc = s.slc := rfl
@[simp] theorem State.setClc_sgc (x : Clc) : (s.setClc x).sgc = s.sgc := rfl
@[simp] theorem State.setClc_sdu (x : Clc) : (s.setClc x).sdu = s.sdu := rfl
@[simp] theorem State.setClc_rsq (x : Clc) : (s.setClc x).rsq = s.rsq := rfl
@[simp] theorem State.setClc_stc (x : Clc) : (s.setClc x).stc = s.stc := rfl
@[simp] theorem State.setClc_ilu (x : Clc) : (s.setClc x).ilu = s.ilu := rfl
@[simp] theorem State.setClc_cmh (x : Clc) : (s.setClc x).cmh = s.cmh := rfl
@[simp] theorem State.setClc_evq (x : Clc) : (s.setClc x).evq = s.evq := rfl
@[simp] theorem State.setClc_setClc (x y : Clc) : (s.setClc x).setClc y = s.setClc y := rfl

/-! ### `State.setDsp` -/

@[simp] theorem State.setDsp_pending (x : Dsp) : (s.setDsp x).pending = s.pending := rfl
@[simp] theorem State.setDsp_bus (x : Dsp) : (s.setDsp x).bus = s.bus := rfl
@[simp] theorem State.setDsp_freeUse (x : Dsp) : (s.setDsp x).freeUse = s.freeUse := rfl
@[simp] theorem State.setDsp_pins (x : Dsp) : (s.setDsp x).pins = s.pins := rfl
@[simp] theorem State.setDsp_clc (x : Dsp) : (s.setDsp x).clc = s.clc := rfl
@[simp] theorem State.setDsp_dsp (x : Dsp) : (s.setDsp x).dsp = x := rfl
@[simp] theorem State.setDsp_lsu (x : Dsp) : (s.setDsp x).lsu = s.lsu := rfl
@[simp] theorem State.setDsp_slc (x : Dsp) : (s.setDsp x).slc = s.slc := rfl
@[simp] theorem State.setDsp_sgc (x : Dsp) : (s.setDsp x).sgc = s.sgc := rfl
@[simp] theorem State.setDsp_sdu (x : Dsp) : (s.setDsp x).sdu = s.sdu := rfl
@[simp] theorem State.setDsp_rsq (x : Dsp) : (s.setDsp x).rsq = s.rsq := rfl
@[simp] theorem State.setDsp_stc (x : Dsp) : (s.setDsp x).stc = s.stc := rfl
@[simp] theorem State.setDsp_ilu (x : Dsp) : (s.setDsp x).ilu = s.ilu := rfl
@[simp] theorem State.setDsp_cmh (x : Dsp) : (s.setDsp x).cmh = s.cmh := rfl
@[simp] theorem State.setDsp_evq (x : Dsp) : (s.setDsp x).evq = s.evq := rfl
@[simp] theorem State.setDsp_setDsp (x y : Dsp) : (s.setDsp x).setDsp y = s.setDsp y := rfl

/-! ### `State.setLsu` -/

@[simp] theorem State.setLsu_pending (x : Lsu) : (s.setLsu x).pending = s.pending := rfl
@[simp] theorem State.setLsu_bus (x : Lsu) : (s.setLsu x).bus = s.bus := rfl
@[simp] theorem State.setLsu_freeUse (x : Lsu) : (s.setLsu x).freeUse = s.freeUse := rfl
@[simp] theorem State.setLsu_pins (x : Lsu) : (s.setLsu x).pins = s.pins := rfl
@[simp] theorem State.setLsu_clc (x : Lsu) : (s.setLsu x).clc = s.clc := rfl
@[simp] theorem State.setLsu_dsp (x : Lsu) : (s.setLsu x).dsp = s.dsp := rfl
@[simp] theorem State.setLsu_lsu (x : Lsu) : (s.setLsu x).lsu = x := rfl
@[simp] theorem State.setLsu_slc (x : Lsu) : (s.setLsu x).slc = s.slc := rfl
@[simp] theorem State.setLsu_sgc (x : Lsu) : (s.setLsu x).sgc = s.sgc := rfl
@[simp] theorem State.setLsu_sdu (x : Lsu) : (s.setLsu x).sdu = s.sdu := rfl
@[simp] theorem State.setLsu_rsq (x : Lsu) : (s.setLsu x).rsq = s.rsq := rfl
@[simp] theorem State.setLsu_stc (x : Lsu) : (s.setLsu x).stc = s.stc := rfl
@[simp] theorem State.setLsu_ilu (x : Lsu) : (s.setLsu x).ilu = s.ilu := rfl
@[simp] theorem State.setLsu_cmh (x : Lsu) : (s.setLsu x).cmh = s.cmh := rfl
@[simp] theorem State.setLsu_evq (x : Lsu) : (s.setLsu x).evq = s.evq := rfl
@[simp] theorem State.setLsu_setLsu (x y : Lsu) : (s.setLsu x).setLsu y = s.setLsu y := rfl

/-! ### `State.setSlc` -/

@[simp] theorem State.setSlc_pending (x : Slc) : (s.setSlc x).pending = s.pending := rfl
@[simp] theorem State.setSlc_bus (x : Slc) : (s.setSlc x).bus = s.bus := rfl
@[simp] theorem State.setSlc_freeUse (x : Slc) : (s.setSlc x).freeUse = s.freeUse := rfl
@[simp] theorem State.setSlc_pins (x : Slc) : (s.setSlc x).pins = s.pins := rfl
@[simp] theorem State.setSlc_clc (x : Slc) : (s.setSlc x).clc = s.clc := rfl
@[simp] theorem State.setSlc_dsp (x : Slc) : (s.setSlc x).dsp = s.dsp := rfl
@[simp] theorem State.setSlc_lsu (x : Slc) : (s.setSlc x).lsu = s.lsu := rfl
@[simp] theorem State.setSlc_slc (x : Slc) : (s.setSlc x).slc = x := rfl
@[simp] theorem State.setSlc_sgc (x : Slc) : (s.setSlc x).sgc = s.sgc := rfl
@[simp] theorem State.setSlc_sdu (x : Slc) : (s.setSlc x).sdu = s.sdu := rfl
@[simp] theorem State.setSlc_rsq (x : Slc) : (s.setSlc x).rsq = s.rsq := rfl
@[simp] theorem State.setSlc_stc (x : Slc) : (s.setSlc x).stc = s.stc := rfl
@[simp] theorem State.setSlc_ilu (x : Slc) : (s.setSlc x).ilu = s.ilu := rfl
@[simp] theorem State.setSlc_cmh (x : Slc) : (s.setSlc x).cmh = s.cmh := rfl
@[simp] theorem State.setSlc_evq (x : Slc) : (s.setSlc x).evq = s.evq := rfl
@[simp] theorem State.setSlc_setSlc (x y : Slc) : (s.setSlc x).setSlc y = s.setSlc y := rfl

/-! ### `State.setSgc` -/

@[simp] theorem State.setSgc_pending (x : Sgc) : (s.setSgc x).pending = s.pending := rfl
@[simp] theorem State.setSgc_bus (x : Sgc) : (s.setSgc x).bus = s.bus := rfl
@[simp] theorem State.setSgc_freeUse (x : Sgc) : (s.setSgc x).freeUse = s.freeUse := rfl
@[simp] theorem State.setSgc_pins (x : Sgc) : (s.setSgc x).pins = s.pins := rfl
@[simp] theorem State.setSgc_clc (x : Sgc) : (s.setSgc x).clc = s.clc := rfl
@[simp] theorem State.setSgc_dsp (x : Sgc) : (s.setSgc x).dsp = s.dsp := rfl
@[simp] theorem State.setSgc_lsu (x : Sgc) : (s.setSgc x).lsu = s.lsu := rfl
@[simp] theorem State.setSgc_slc (x : Sgc) : (s.setSgc x).slc = s.slc := rfl
@[simp] theorem State.setSgc_sgc (x : Sgc) : (s.setSgc x).sgc = x := rfl
@[simp] theorem State.setSgc_sdu (x : Sgc) : (s.setSgc x).sdu = s.sdu := rfl
@[simp] theorem State.setSgc_rsq (x : Sgc) : (s.setSgc x).rsq = s.rsq := rfl
@[simp] theorem State.setSgc_stc (x : Sgc) : (s.setSgc x).stc = s.stc := rfl
@[simp] theorem State.setSgc_ilu (x : Sgc) : (s.setSgc x).ilu = s.ilu := rfl
@[simp] theorem State.setSgc_cmh (x : Sgc) : (s.setSgc x).cmh = s.cmh := rfl
@[simp] theorem State.setSgc_evq (x : Sgc) : (s.setSgc x).evq = s.evq := rfl
@[simp] theorem State.setSgc_setSgc (x y : Sgc) : (s.setSgc x).setSgc y = s.setSgc y := rfl

/-! ### `State.setSdu` -/

@[simp] theorem State.setSdu_pending (x : Sdu) : (s.setSdu x).pending = s.pending := rfl
@[simp] theorem State.setSdu_bus (x : Sdu) : (s.setSdu x).bus = s.bus := rfl
@[simp] theorem State.setSdu_freeUse (x : Sdu) : (s.setSdu x).freeUse = s.freeUse := rfl
@[simp] theorem State.setSdu_pins (x : Sdu) : (s.setSdu x).pins = s.pins := rfl
@[simp] theorem State.setSdu_clc (x : Sdu) : (s.setSdu x).clc = s.clc := rfl
@[simp] theorem State.setSdu_dsp (x : Sdu) : (s.setSdu x).dsp = s.dsp := rfl
@[simp] theorem State.setSdu_lsu (x : Sdu) : (s.setSdu x).lsu = s.lsu := rfl
@[simp] theorem State.setSdu_slc (x : Sdu) : (s.setSdu x).slc = s.slc := rfl
@[simp] theorem State.setSdu_sgc (x : Sdu) : (s.setSdu x).sgc = s.sgc := rfl
@[simp] theorem State.setSdu_sdu (x : Sdu) : (s.setSdu x).sdu = x := rfl
@[simp] theorem State.setSdu_rsq (x : Sdu) : (s.setSdu x).rsq = s.rsq := rfl
@[simp] theorem State.setSdu_stc (x : Sdu) : (s.setSdu x).stc = s.stc := rfl
@[simp] theorem State.setSdu_ilu (x : Sdu) : (s.setSdu x).ilu = s.ilu := rfl
@[simp] theorem State.setSdu_cmh (x : Sdu) : (s.setSdu x).cmh = s.cmh := rfl
@[simp] theorem State.setSdu_evq (x : Sdu) : (s.setSdu x).evq = s.evq := rfl
@[simp] theorem State.setSdu_setSdu (x y : Sdu) : (s.setSdu x).setSdu y = s.setSdu y := rfl

/-! ### `State.setRsq` -/

@[simp] theorem State.setRsq_pending (x : Rsq) : (s.setRsq x).pending = s.pending := rfl
@[simp] theorem State.setRsq_bus (x : Rsq) : (s.setRsq x).bus = s.bus := rfl
@[simp] theorem State.setRsq_freeUse (x : Rsq) : (s.setRsq x).freeUse = s.freeUse := rfl
@[simp] theorem State.setRsq_pins (x : Rsq) : (s.setRsq x).pins = s.pins := rfl
@[simp] theorem State.setRsq_clc (x : Rsq) : (s.setRsq x).clc = s.clc := rfl
@[simp] theorem State.setRsq_dsp (x : Rsq) : (s.setRsq x).dsp = s.dsp := rfl
@[simp] theorem State.setRsq_lsu (x : Rsq) : (s.setRsq x).lsu = s.lsu := rfl
@[simp] theorem State.setRsq_slc (x : Rsq) : (s.setRsq x).slc = s.slc := rfl
@[simp] theorem State.setRsq_sgc (x : Rsq) : (s.setRsq x).sgc = s.sgc := rfl
@[simp] theorem State.setRsq_sdu (x : Rsq) : (s.setRsq x).sdu = s.sdu := rfl
@[simp] theorem State.setRsq_rsq (x : Rsq) : (s.setRsq x).rsq = x := rfl
@[simp] theorem State.setRsq_stc (x : Rsq) : (s.setRsq x).stc = s.stc := rfl
@[simp] theorem State.setRsq_ilu (x : Rsq) : (s.setRsq x).ilu = s.ilu := rfl
@[simp] theorem State.setRsq_cmh (x : Rsq) : (s.setRsq x).cmh = s.cmh := rfl
@[simp] theorem State.setRsq_evq (x : Rsq) : (s.setRsq x).evq = s.evq := rfl
@[simp] theorem State.setRsq_setRsq (x y : Rsq) : (s.setRsq x).setRsq y = s.setRsq y := rfl

/-! ### `State.setStc` -/

@[simp] theorem State.setStc_pending (x : Stc) : (s.setStc x).pending = s.pending := rfl
@[simp] theorem State.setStc_bus (x : Stc) : (s.setStc x).bus = s.bus := rfl
@[simp] theorem State.setStc_freeUse (x : Stc) : (s.setStc x).freeUse = s.freeUse := rfl
@[simp] theorem State.setStc_pins (x : Stc) : (s.setStc x).pins = s.pins := rfl
@[simp] theorem State.setStc_clc (x : Stc) : (s.setStc x).clc = s.clc := rfl
@[simp] theorem State.setStc_dsp (x : Stc) : (s.setStc x).dsp = s.dsp := rfl
@[simp] theorem State.setStc_lsu (x : Stc) : (s.setStc x).lsu = s.lsu := rfl
@[simp] theorem State.setStc_slc (x : Stc) : (s.setStc x).slc = s.slc := rfl
@[simp] theorem State.setStc_sgc (x : Stc) : (s.setStc x).sgc = s.sgc := rfl
@[simp] theorem State.setStc_sdu (x : Stc) : (s.setStc x).sdu = s.sdu := rfl
@[simp] theorem State.setStc_rsq (x : Stc) : (s.setStc x).rsq = s.rsq := rfl
@[simp] theorem State.setStc_stc (x : Stc) : (s.setStc x).stc = x := rfl
@[simp] theorem State.setStc_ilu (x : Stc) : (s.setStc x).ilu = s.ilu := rfl
@[simp] theorem State.setStc_cmh (x : Stc) : (s.setStc x).cmh = s.cmh := rfl
@[simp] theorem State.setStc_evq (x : Stc) : (s.setStc x).evq = s.evq := rfl
@[simp] theorem State.setStc_setStc (x y : Stc) : (s.setStc x).setStc y = s.setStc y := rfl

/-! ### `State.setIlu` -/

@[simp] theorem State.setIlu_pending (x : Ilu) : (s.setIlu x).pending = s.pending := rfl
@[simp] theorem State.setIlu_bus (x : Ilu) : (s.setIlu x).bus = s.bus := rfl
@[simp] theorem State.setIlu_freeUse (x : Ilu) : (s.setIlu x).freeUse = s.freeUse := rfl
@[simp] theorem State.setIlu_pins (x : Ilu) : (s.setIlu x).pins = s.pins := rfl
@[simp] theorem State.setIlu_clc (x : Ilu) : (s.setIlu x).clc = s.clc := rfl
@[simp] theorem State.setIlu_dsp (x : Ilu) : (s.setIlu x).dsp = s.dsp := rfl
@[simp] theorem State.setIlu_lsu (x : Ilu) : (s.setIlu x).lsu = s.lsu := rfl
@[simp] theorem State.setIlu_slc (x : Ilu) : (s.setIlu x).slc = s.slc := rfl
@[simp] theorem State.setIlu_sgc (x : Ilu) : (s.setIlu x).sgc = s.sgc := rfl
@[simp] theorem State.setIlu_sdu (x : Ilu) : (s.setIlu x).sdu = s.sdu := rfl
@[simp] theorem State.setIlu_rsq (x : Ilu) : (s.setIlu x).rsq = s.rsq := rfl
@[simp] theorem State.setIlu_stc (x : Ilu) : (s.setIlu x).stc = s.stc := rfl
@[simp] theorem State.setIlu_ilu (x : Ilu) : (s.setIlu x).ilu = x := rfl
@[simp] theorem State.setIlu_cmh (x : Ilu) : (s.setIlu x).cmh = s.cmh := rfl
@[simp] theorem State.setIlu_evq (x : Ilu) : (s.setIlu x).evq = s.evq := rfl
@[simp] theorem State.setIlu_setIlu (x y : Ilu) : (s.setIlu x).setIlu y = s.setIlu y := rfl

/-! ### `State.setCmh` -/

@[simp] theorem State.setCmh_pending (x : Cmh) : (s.setCmh x).pending = s.pending := rfl
@[simp] theorem State.setCmh_bus (x : Cmh) : (s.setCmh x).bus = s.bus := rfl
@[simp] theorem State.setCmh_freeUse (x : Cmh) : (s.setCmh x).freeUse = s.freeUse := rfl
@[simp] theorem State.setCmh_pins (x : Cmh) : (s.setCmh x).pins = s.pins := rfl
@[simp] theorem State.setCmh_clc (x : Cmh) : (s.setCmh x).clc = s.clc := rfl
@[simp] theorem State.setCmh_dsp (x : Cmh) : (s.setCmh x).dsp = s.dsp := rfl
@[simp] theorem State.setCmh_lsu (x : Cmh) : (s.setCmh x).lsu = s.lsu := rfl
@[simp] theorem State.setCmh_slc (x : Cmh) : (s.setCmh x).slc = s.slc := rfl
@[simp] theorem State.setCmh_sgc (x : Cmh) : (s.setCmh x).sgc = s.sgc := rfl
@[simp] theorem State.setCmh_sdu (x : Cmh) : (s.setCmh x).sdu = s.sdu := rfl
@[simp] theorem State.setCmh_rsq (x : Cmh) : (s.setCmh x).rsq = s.rsq := rfl
@[simp] theorem State.setCmh_stc (x : Cmh) : (s.setCmh x).stc = s.stc := rfl
@[simp] theorem State.setCmh_ilu (x : Cmh) : (s.setCmh x).ilu = s.ilu := rfl
@[simp] theorem State.setCmh_cmh (x : Cmh) : (s.setCmh x).cmh = x := rfl
@[simp] theorem State.setCmh_evq (x : Cmh) : (s.setCmh x).evq = s.evq := rfl
@[simp] theorem State.setCmh_setCmh (x y : Cmh) : (s.setCmh x).setCmh y = s.setCmh y := rfl

/-! ### `State.setEvq` -/

@[simp] theorem State.setEvq_pending (x : Evq) : (s.setEvq x).pending = s.pending := rfl
@[simp] theorem State.setEvq_bus (x : Evq) : (s.setEvq x).bus = s.bus := rfl
@[simp] theorem State.setEvq_freeUse (x : Evq) : (s.setEvq x).freeUse = s.freeUse := rfl
@[simp] theorem State.setEvq_pins (x : Evq) : (s.setEvq x).pins = s.pins := rfl
@[simp] theorem State.setEvq_clc (x : Evq) : (s.setEvq x).clc = s.clc := rfl
@[simp] theorem State.setEvq_dsp (x : Evq) : (s.setEvq x).dsp = s.dsp := rfl
@[simp] theorem State.setEvq_lsu (x : Evq) : (s.setEvq x).lsu = s.lsu := rfl
@[simp] theorem State.setEvq_slc (x : Evq) : (s.setEvq x).slc = s.slc := rfl
@[simp] theorem State.setEvq_sgc (x : Evq) : (s.setEvq x).sgc = s.sgc := rfl
@[simp] theorem State.setEvq_sdu (x : Evq) : (s.setEvq x).sdu = s.sdu := rfl
@[simp] theorem State.setEvq_rsq (x : Evq) : (s.setEvq x).rsq = s.rsq := rfl
@[simp] theorem State.setEvq_stc (x : Evq) : (s.setEvq x).stc = s.stc := rfl
@[simp] theorem State.setEvq_ilu (x : Evq) : (s.setEvq x).ilu = s.ilu := rfl
@[simp] theorem State.setEvq_cmh (x : Evq) : (s.setEvq x).cmh = s.cmh := rfl
@[simp] theorem State.setEvq_evq (x : Evq) : (s.setEvq x).evq = x := rfl
@[simp] theorem State.setEvq_setEvq (x y : Evq) : (s.setEvq x).setEvq y = s.setEvq y := rfl

/-! ### `State.emit` -/

@[simp] theorem State.emit_pending (sigs : List Signal) : (s.emit sigs).pending = s.pending := rfl
@[simp] theorem State.emit_bus (sigs : List Signal) : (s.emit sigs).bus = Signal.inOrder (s.bus ++ sigs) := rfl
@[simp] theorem State.emit_freeUse (sigs : List Signal) : (s.emit sigs).freeUse = s.freeUse := rfl
@[simp] theorem State.emit_pins (sigs : List Signal) : (s.emit sigs).pins = s.pins := rfl
@[simp] theorem State.emit_clc (sigs : List Signal) : (s.emit sigs).clc = s.clc := rfl
@[simp] theorem State.emit_dsp (sigs : List Signal) : (s.emit sigs).dsp = s.dsp := rfl
@[simp] theorem State.emit_lsu (sigs : List Signal) : (s.emit sigs).lsu = s.lsu := rfl
@[simp] theorem State.emit_slc (sigs : List Signal) : (s.emit sigs).slc = s.slc := rfl
@[simp] theorem State.emit_sgc (sigs : List Signal) : (s.emit sigs).sgc = s.sgc := rfl
@[simp] theorem State.emit_sdu (sigs : List Signal) : (s.emit sigs).sdu = s.sdu := rfl
@[simp] theorem State.emit_rsq (sigs : List Signal) : (s.emit sigs).rsq = s.rsq := rfl
@[simp] theorem State.emit_stc (sigs : List Signal) : (s.emit sigs).stc = s.stc := rfl
@[simp] theorem State.emit_ilu (sigs : List Signal) : (s.emit sigs).ilu = s.ilu := rfl
@[simp] theorem State.emit_cmh (sigs : List Signal) : (s.emit sigs).cmh = s.cmh := rfl
@[simp] theorem State.emit_evq (sigs : List Signal) : (s.emit sigs).evq = s.evq := rfl

/-! ### `State.post` -/

@[simp] theorem State.post_pending (c : EventCode) (n : Nat) (v : Word) : (s.post c n v).pending = s.pending := rfl
@[simp] theorem State.post_bus (c : EventCode) (n : Nat) (v : Word) : (s.post c n v).bus = s.bus := rfl
@[simp] theorem State.post_freeUse (c : EventCode) (n : Nat) (v : Word) : (s.post c n v).freeUse = s.freeUse := rfl
@[simp] theorem State.post_pins (c : EventCode) (n : Nat) (v : Word) : (s.post c n v).pins = s.pins := rfl
@[simp] theorem State.post_clc (c : EventCode) (n : Nat) (v : Word) : (s.post c n v).clc = s.clc := rfl
@[simp] theorem State.post_dsp (c : EventCode) (n : Nat) (v : Word) : (s.post c n v).dsp = s.dsp := rfl
@[simp] theorem State.post_lsu (c : EventCode) (n : Nat) (v : Word) : (s.post c n v).lsu = s.lsu := rfl
@[simp] theorem State.post_slc (c : EventCode) (n : Nat) (v : Word) : (s.post c n v).slc = s.slc := rfl
@[simp] theorem State.post_sgc (c : EventCode) (n : Nat) (v : Word) : (s.post c n v).sgc = s.sgc := rfl
@[simp] theorem State.post_sdu (c : EventCode) (n : Nat) (v : Word) : (s.post c n v).sdu = s.sdu := rfl
@[simp] theorem State.post_rsq (c : EventCode) (n : Nat) (v : Word) : (s.post c n v).rsq = s.rsq := rfl
@[simp] theorem State.post_stc (c : EventCode) (n : Nat) (v : Word) : (s.post c n v).stc = s.stc := rfl
@[simp] theorem State.post_ilu (c : EventCode) (n : Nat) (v : Word) : (s.post c n v).ilu = s.ilu := rfl
@[simp] theorem State.post_cmh (c : EventCode) (n : Nat) (v : Word) : (s.post c n v).cmh = s.cmh := rfl
@[simp] theorem State.post_evq (c : EventCode) (n : Nat) (v : Word) : (s.post c n v).evq = s.evq.append c n v := rfl

/-! ### `State.answer` and `State.refuse` -/

@[simp] theorem State.answer_pending (r : Result) (d : List Byte) : (s.answer r d).pending = s.pending := rfl
@[simp] theorem State.answer_bus (r : Result) (d : List Byte) : (s.answer r d).bus = Signal.inOrder (s.bus ++ [.cmhAnswer r d]) := rfl
@[simp] theorem State.answer_freeUse (r : Result) (d : List Byte) : (s.answer r d).freeUse = s.freeUse := rfl
@[simp] theorem State.answer_pins (r : Result) (d : List Byte) : (s.answer r d).pins = s.pins := rfl
@[simp] theorem State.answer_clc (r : Result) (d : List Byte) : (s.answer r d).clc = s.clc := rfl
@[simp] theorem State.answer_dsp (r : Result) (d : List Byte) : (s.answer r d).dsp = s.dsp := rfl
@[simp] theorem State.answer_lsu (r : Result) (d : List Byte) : (s.answer r d).lsu = s.lsu := rfl
@[simp] theorem State.answer_slc (r : Result) (d : List Byte) : (s.answer r d).slc = s.slc := rfl
@[simp] theorem State.answer_sgc (r : Result) (d : List Byte) : (s.answer r d).sgc = s.sgc := rfl
@[simp] theorem State.answer_sdu (r : Result) (d : List Byte) : (s.answer r d).sdu = s.sdu := rfl
@[simp] theorem State.answer_rsq (r : Result) (d : List Byte) : (s.answer r d).rsq = s.rsq := rfl
@[simp] theorem State.answer_stc (r : Result) (d : List Byte) : (s.answer r d).stc = s.stc := rfl
@[simp] theorem State.answer_ilu (r : Result) (d : List Byte) : (s.answer r d).ilu = s.ilu := rfl
@[simp] theorem State.answer_cmh (r : Result) (d : List Byte) : (s.answer r d).cmh = s.cmh := rfl
@[simp] theorem State.answer_evq (r : Result) (d : List Byte) : (s.answer r d).evq = s.evq := rfl
@[simp] theorem State.refuse_pending (r : Result) : (s.refuse r).pending = s.pending := rfl
@[simp] theorem State.refuse_bus (r : Result) : (s.refuse r).bus = Signal.inOrder (s.bus ++ [.cmhAnswer r []]) := rfl
@[simp] theorem State.refuse_freeUse (r : Result) : (s.refuse r).freeUse = s.freeUse := rfl
@[simp] theorem State.refuse_pins (r : Result) : (s.refuse r).pins = s.pins := rfl
@[simp] theorem State.refuse_clc (r : Result) : (s.refuse r).clc = s.clc := rfl
@[simp] theorem State.refuse_dsp (r : Result) : (s.refuse r).dsp = s.dsp := rfl
@[simp] theorem State.refuse_lsu (r : Result) : (s.refuse r).lsu = s.lsu := rfl
@[simp] theorem State.refuse_slc (r : Result) : (s.refuse r).slc = s.slc := rfl
@[simp] theorem State.refuse_sgc (r : Result) : (s.refuse r).sgc = s.sgc := rfl
@[simp] theorem State.refuse_sdu (r : Result) : (s.refuse r).sdu = s.sdu := rfl
@[simp] theorem State.refuse_rsq (r : Result) : (s.refuse r).rsq = s.rsq := rfl
@[simp] theorem State.refuse_stc (r : Result) : (s.refuse r).stc = s.stc := rfl
@[simp] theorem State.refuse_ilu (r : Result) : (s.refuse r).ilu = s.ilu := rfl
@[simp] theorem State.refuse_cmh (r : Result) : (s.refuse r).cmh = s.cmh := rfl
@[simp] theorem State.refuse_evq (r : Result) : (s.refuse r).evq = s.evq := rfl

/-! ### `State.postAll` -/

/-- The event queue after several events posted in order (R191). -/
def Evq.appendAll (q : Evq) (events : List (EventCode × Nat × Word)) : Evq :=
  events.foldl (fun q e => q.append e.1 e.2.1 e.2.2) q

theorem State.postAll_eq (events : List (EventCode × Nat × Word)) :
    s.postAll events = s.setEvq (s.evq.appendAll events) := by
  induction events generalizing s with
  | nil => rfl
  | cons e rest ih => exact ih (s.post e.1 e.2.1 e.2.2)

@[simp] theorem State.postAll_pending (es : List (EventCode × Nat × Word)) : (s.postAll es).pending = s.pending := by
  rw [State.postAll_eq]; rfl
@[simp] theorem State.postAll_bus (es : List (EventCode × Nat × Word)) : (s.postAll es).bus = s.bus := by
  rw [State.postAll_eq]; rfl
@[simp] theorem State.postAll_freeUse (es : List (EventCode × Nat × Word)) : (s.postAll es).freeUse = s.freeUse := by
  rw [State.postAll_eq]; rfl
@[simp] theorem State.postAll_pins (es : List (EventCode × Nat × Word)) : (s.postAll es).pins = s.pins := by
  rw [State.postAll_eq]; rfl
@[simp] theorem State.postAll_clc (es : List (EventCode × Nat × Word)) : (s.postAll es).clc = s.clc := by
  rw [State.postAll_eq]; rfl
@[simp] theorem State.postAll_dsp (es : List (EventCode × Nat × Word)) : (s.postAll es).dsp = s.dsp := by
  rw [State.postAll_eq]; rfl
@[simp] theorem State.postAll_lsu (es : List (EventCode × Nat × Word)) : (s.postAll es).lsu = s.lsu := by
  rw [State.postAll_eq]; rfl
@[simp] theorem State.postAll_slc (es : List (EventCode × Nat × Word)) : (s.postAll es).slc = s.slc := by
  rw [State.postAll_eq]; rfl
@[simp] theorem State.postAll_sgc (es : List (EventCode × Nat × Word)) : (s.postAll es).sgc = s.sgc := by
  rw [State.postAll_eq]; rfl
@[simp] theorem State.postAll_sdu (es : List (EventCode × Nat × Word)) : (s.postAll es).sdu = s.sdu := by
  rw [State.postAll_eq]; rfl
@[simp] theorem State.postAll_rsq (es : List (EventCode × Nat × Word)) : (s.postAll es).rsq = s.rsq := by
  rw [State.postAll_eq]; rfl
@[simp] theorem State.postAll_stc (es : List (EventCode × Nat × Word)) : (s.postAll es).stc = s.stc := by
  rw [State.postAll_eq]; rfl
@[simp] theorem State.postAll_ilu (es : List (EventCode × Nat × Word)) : (s.postAll es).ilu = s.ilu := by
  rw [State.postAll_eq]; rfl
@[simp] theorem State.postAll_cmh (es : List (EventCode × Nat × Word)) : (s.postAll es).cmh = s.cmh := by
  rw [State.postAll_eq]; rfl
@[simp] theorem State.postAll_evq (es : List (EventCode × Nat × Word)) : (s.postAll es).evq = s.evq.appendAll es := by
  rw [State.postAll_eq]; rfl

end Sys2Proof.Machine
end

