-- ==== Sys2Proof/Laws/Event.lean ====
section
/-! SUPPORT. The induction over an event, packaged once: what every delivery, every follow-up step and every command's
own effect keeps, every step keeps. And the event of a quiet state. -/

namespace Sys2Proof.Machine

/-- A property that every delivery keeps. -/
structure KeptByDeliveries (P : State → Prop) : Prop where
  delivered : ∀ s sig rest, s.bus = sig :: rest → P s → P (handle sig { s with bus := rest })

/-- A property that deliveries, follow-up steps, the reset and the commands' own effects keep. -/
structure Kept (P : State → Prop) : Prop extends KeptByDeliveries P where
  pending : ∀ s cs, P s → P { s with pending := cs }
  pins : ∀ s levels, P s → P { s with pins := levels }
  performed : ∀ k s, P s → P (perform k s)
  reset : ∀ pins s, P s → P (s.resetBy .powerOn pins)
  tick : ∀ s, P s → P s.tick
  clcMeasure : ∀ a b c s, P s → P (State.clcMeasure a b c s)
  clcControlExpiry : ∀ s, P s → P (State.clcControlExpiry s)
  clcRunOnExpiry : ∀ s, P s → P (State.clcRunOnExpiry s)
  clcOpenExpiry : ∀ s, P s → P (State.clcOpenExpiry s)
  clcCloseExpiry : ∀ s, P s → P (State.clcCloseExpiry s)
  dspSlotExpiry : ∀ s, P s → P (State.dspSlotExpiry s)
  lsuListenExpiry : ∀ s, P s → P (State.lsuListenExpiry s)
  lsuPeriodExpiry : ∀ s, P s → P (State.lsuPeriodExpiry s)
  lsuIntervalExpiry : ∀ s, P s → P (State.lsuIntervalExpiry s)
  lsuHoldOffExpiry : ∀ s, P s → P (State.lsuHoldOffExpiry s)
  lsuPeerSilent : ∀ (n : Fin 7) s, P s → P (State.lsuPeerSilent n.val s)
  lsuPeerLost : ∀ (n : Fin 7) s, P s → P (State.lsuPeerLost n.val s)
  sgcFillTimeout : ∀ s, P s → P (State.sgcFillTimeout s)
  sgcDrainExpiry : ∀ s, P s → P (State.sgcDrainExpiry s)
  sduSoakComplete : ∀ s, P s → P (State.sduSoakComplete s)
  rsqStepTimeEnd : ∀ s, P s → P (State.rsqStepTimeEnd s)
  rsqPauseExpiry : ∀ s, P s → P (State.rsqPauseExpiry s)
  rsqRunCap : ∀ s, P s → P (State.rsqRunCap s)
  stcScan : ∀ s, P s → P (State.stcScan s)
  storeOperationComplete : ∀ kept s, P s → P (State.storeOperationComplete kept s)
  storeAbandon : ∀ s, P s → P (State.storeAbandon s)
  iluSample : ∀ pins s, P s → P (State.iluSample pins s)
  iluPersistence : ∀ p s, P s → P (State.iluPersistence p s)
  receive : ∀ f others s, f.source < 8 ∨ f.source = s.slc.own → P s → P (State.receive f others s)
  slcReceptionError : ∀ cells s, P s → P (State.slcReceptionError cells s)
  slcStart : ∀ s, P s → P (State.slcStart s)
  slcLoss : ∀ bit s, P s → P (State.slcLoss bit s)
  slcMismatch : ∀ cell s, P s → P (State.slcMismatch cell s)
  slcAcknowledge : ∀ read s, P s → P (State.slcAcknowledge read s)
  slcLineFault : ∀ s, P s → P (State.slcLineFault s)
  slcLineRestored : ∀ s, P s → P (State.slcLineRestored s)
  slcFirstGap : ∀ s, P s → P (State.slcFirstGap s)
  fillStatus : ∀ s, P s → P (State.fillStatus s)
  statusInterval : ∀ s, P s → P (State.statusInterval s)

variable {P : State → Prop}

/-- The deliveries of an event keep what every delivery keeps. -/
theorem KeptByDeliveries.settle (K : KeptByDeliveries P) (n : Nat) {s : State} (h : P s) : P (s.settle n) := by
  induction n generalizing s with
  | zero => exact h
  | succ n ih =>
    rw [State.settle]
    split
    · exact h
    · next hb => exact ih (K.delivered _ _ _ hb h)

theorem Kept.followUp (K : Kept P) (k : FollowUp) {s : State} (h : P s) : P (s.followUp k) := by
  rw [State.followUp]
  split
  · exact K.settle _ (K.performed _ _ h)
  · exact h

theorem Kept.restart (K : Kept P) (levels : Straps) {s : State} (h : P s) : P (s.restart levels) := by
  rw [State.restart]
  split
  · exact K.followUp _ (K.pins _ _ h)
  · exact h

theorem Kept.complete (K : Kept P) (n : Nat) {s : State} (h : P s) : P (s.complete n) := by
  induction n generalizing s with
  | zero => exact h
  | succ n ih =>
    rw [State.complete]
    split
    · exact h
    · exact ih (K.followUp _ h)

theorem Kept.event (K : Kept P) {f : State → State} (hf : ∀ s, P s → P (f s)) {s : State} (h : P s) :
    P (s.event f) := K.settle _ (hf _ (K.complete _ h))

/-- Every command answers a next state. -/
theorem exec_next (i : Instr) (s : State) : ∃ t, exec i s = .next t := by
  cases i <;> exact ⟨_, rfl⟩

/-- The source field of a frame read from bytes has three bits (R171). -/
theorem Frame.ofBytes_source {bytes : List Byte} {f : Frame} (h : Frame.ofBytes bytes = some f) : f.source < 8 := by
  unfold Frame.ofBytes at h
  split at h
  · dsimp only at h
    split at h
    · cases h
      exact Nat.mod_lt _ (by decide)
    · cases h
  · cases h

/-- What deliveries, follow-up steps and the commands' own effects keep, every command keeps. -/
theorem Kept.exec (K : Kept P) (i : Instr) {s t : State} (h : P s) (ht : Machine.exec i s = .next t) : P t := by
  have frame : ∀ bytes others s, P s → P (State.slcFrame bytes others s) := by
    intro bytes others s hs
    rw [State.slcFrame]
    split
    · next hf => exact K.receive _ _ _ (.inl (Frame.ofBytes_source hf)) hs
    · exact hs
  have panel : ∀ (source : Fin 7) (code : Option Byte) (payload : List Byte), P (s.panel source code payload) :=
    fun source _ _ => K.event (fun _ hs => K.receive _ _ _ (.inl (Nat.lt_succ_of_lt source.isLt)) hs) h
  cases i <;> cases ht
  case powerOnReset => exact K.settle _ (K.reset _ _ h)
  case measurementExpiry => exact K.event (K.clcMeasure _ _ _) h
  case controlTimerExpiry => exact K.event K.clcControlExpiry h
  case runOnTimerExpiry => exact K.event K.clcRunOnExpiry h
  case openDriveExpiry => exact K.event K.clcOpenExpiry h
  case closeTravelTimeout => exact K.event K.clcCloseExpiry h
  case slotExpiry => exact K.event K.dspSlotExpiry h
  case listenWindowExpiry => exact K.event K.lsuListenExpiry h
  case claimPeriodExpiry => exact K.event K.lsuPeriodExpiry h
  case minimumIntervalExpiry => exact K.event K.lsuIntervalExpiry h
  case raiseHoldOffExpiry => exact K.event K.lsuHoldOffExpiry h
  case claimReceived source _ _ _ _ =>
    exact K.event (fun _ hs => K.receive _ _ _ (.inl (Nat.lt_succ_of_lt source.isLt)) hs) h
  case peerSilent => exact K.event (K.lsuPeerSilent _) h
  case peerLost => exact K.event (K.lsuPeerLost _) h
  case fillTimeout => exact K.event K.sgcFillTimeout h
  case drainTimerExpiry => exact K.event K.sgcDrainExpiry h
  case soakComplete => exact K.event K.sduSoakComplete h
  case startReadComplete => exact K.followUp _ h
  case stepReadComplete => exact K.followUp _ h
  case stepTimeEnd => exact K.event K.rsqStepTimeEnd h
  case pauseTimerExpiry => exact K.event K.rsqPauseExpiry h
  case runTimeCap => exact K.event K.rsqRunCap h
  case wakeTimerExpiry => exact K.event K.stcScan h
  case storeOperationComplete => exact K.event (K.storeOperationComplete _) h
  case storeRequestServed => exact K.followUp _ h
  case storeAbandoned => exact K.event K.storeAbandon h
  case sampleExpiry => exact K.event (K.iluSample _) h
  case persistenceExpiry => exact K.event (K.iluPersistence _) h
  case receptionError => exact K.event (K.slcReceptionError _) h
  case frameDiscarded => exact K.event (frame _ _) h
  case ownSourceFrameReceived => exact K.event (fun _ hs => K.receive _ _ _ (.inr rfl) hs) h
  case transmitStart => exact K.event K.slcStart h
  case arbitrationLoss => exact K.event (K.slcLoss _) h
  case conflictWhileSending => exact K.event (K.slcMismatch _) h
  case acknowledgeCell => exact K.event (K.slcAcknowledge _) h
  case lineFault => exact K.event K.slcLineFault h
  case lineRestored => exact K.event K.slcLineRestored h
  case firstIdleGap => exact K.event K.slcFirstGap h
  case statusTimerExpiry => exact K.event K.fillStatus h
  case statusIntervalExpiry => exact K.event K.statusInterval h
  case configuredReached => exact K.followUp _ h
  case deferredConfigCommand => exact K.followUp _ h
  case fetchEventsNextFrame => exact K.followUp _ h
  case restartTakesEffect => exact K.restart _ h
  case answerHandover => exact K.followUp _ h
  all_goals exact panel _ _ _

/-- What deliveries, follow-up steps, the passage of time and the commands' own effects keep, every step keeps. -/
theorem Kept.step (K : Kept P) {s t : State} (h : P s) (ht : Machine.step s = .next t) : P t := by
  rw [Machine.step] at ht
  split at ht
  · cases ht
    exact K.tick _ (K.complete _ h)
  · exact K.exec _ (K.pending _ _ h) ht

/-! ### Quiet states -/

theorem State.quiet_iff {s : State} : s.quiet = true ↔ s.bus = [] ∧ ∀ k, due k s = false := by
  rw [State.quiet, Bool.and_eq_true, List.isEmpty_iff, List.all_eq_true]
  refine and_congr Iff.rfl ⟨fun h k => ?_, fun h k _ => by rw [h k]; rfl⟩
  have hk := h k (by cases k <;> decide)
  simpa using hk

/-- In a quiet state nothing is left to complete. -/
theorem State.complete_of_quiet {s : State} (h : s.quiet = true) (n : Nat) : s.complete n = s := by
  cases n with
  | zero => rfl
  | succ n =>
    have hnone : FollowUp.all.find? (fun k => due k s) = none :=
      List.find?_eq_none.mpr fun k _ => by rw [(State.quiet_iff.mp h).2 k]; decide
    rw [State.complete, hnone]

/-- The event of a quiet state: the command's effect, and its deliveries settled. -/
theorem State.event_of_quiet {s : State} (h : s.quiet = true) (f : State → State) :
    s.event f = (f s).settle settleFuel := by
  rw [State.event, State.complete_of_quiet h]

/-- A follow-up step that is not called for changes nothing. -/
theorem State.followUp_of_quiet {s : State} (h : s.quiet = true) (k : FollowUp) : s.followUp k = s := by
  rw [State.followUp, (State.quiet_iff.mp h).2 k]
  rfl

theorem State.restart_of_quiet {s : State} (h : s.quiet = true) (levels : Straps) : s.restart levels = s := by
  rw [State.restart, (State.quiet_iff.mp h).2 .restartTakesEffect]
  rfl

/-- Deliveries settle at once where there is none. -/
theorem State.settle_nil {s : State} (h : s.bus = []) (n : Nat) : s.settle n = s := by
  cases n with
  | zero => rfl
  | succ n => rw [State.settle, h]

/-- The first delivery is taken, then the others. -/
theorem State.settle_cons {s : State} {sig : Signal} {rest : List Signal} (h : s.bus = sig :: rest) (n : Nat) :
    s.settle (n + 1) = (handle sig { s with bus := rest }).settle n := by
  rw [State.settle, h]

end Sys2Proof.Machine
end

