-- ==== Sys2Proof/Laws/Line.lean ====
section
/-! SUPPORT. The share line cell by cell: what reading cells can do, and that the cells of a frame are heard as that frame
(R171 to R173). -/

namespace Sys2Proof.Machine

section fields

/-! ### What reading cells leaves as it was -/

variable (l : Slc) (cells : List Level) (f : Frame) (ack : Level)

@[simp] theorem Slc.counts_own : (l.counts cells).own = l.own := rfl
@[simp] theorem Slc.counts_line : (l.counts cells).line = l.line := rfl
@[simp] theorem Slc.counts_rx : (l.counts cells).rx = l.rx := rfl
@[simp] theorem Slc.counts_rxBuffer : (l.counts cells).rxBuffer = l.rxBuffer := rfl
@[simp] theorem Slc.counts_rxCells : (l.counts cells).rxCells = l.rxCells := rfl
@[simp] theorem Slc.counts_claimSlot : (l.counts cells).claimSlot = l.claimSlot := rfl
@[simp] theorem Slc.counts_answerSlot : (l.counts cells).answerSlot = l.answerSlot := rfl
@[simp] theorem Slc.counts_statusSlot : (l.counts cells).statusSlot = l.statusSlot := rfl
@[simp] theorem Slc.counts_inFlight : (l.counts cells).inFlight = l.inFlight := rfl
@[simp] theorem Slc.counts_consecutive : (l.counts cells).consecutive = l.consecutive := rfl
@[simp] theorem Slc.counts_checkErrors : (l.counts cells).checkErrors = l.checkErrors := rfl
@[simp] theorem Slc.counts_truncated : (l.counts cells).truncated = l.truncated := rfl
@[simp] theorem Slc.counts_arbitrationLosses : (l.counts cells).arbitrationLosses = l.arbitrationLosses := rfl
@[simp] theorem Slc.counts_undelivered : (l.counts cells).undelivered = l.undelivered := rfl
@[simp] theorem Slc.counts_conflicts : (l.counts cells).conflicts = l.conflicts := rfl

@[simp] theorem Slc.read_own : (l.read f ack).own = l.own := rfl
@[simp] theorem Slc.read_line : (l.read f ack).line = l.line := rfl
@[simp] theorem Slc.read_claimSlot : (l.read f ack).claimSlot = l.claimSlot := rfl
@[simp] theorem Slc.read_answerSlot : (l.read f ack).answerSlot = l.answerSlot := rfl
@[simp] theorem Slc.read_statusSlot : (l.read f ack).statusSlot = l.statusSlot := rfl
@[simp] theorem Slc.read_inFlight : (l.read f ack).inFlight = l.inFlight := rfl
@[simp] theorem Slc.read_consecutive : (l.read f ack).consecutive = l.consecutive := rfl
@[simp] theorem Slc.read_checkErrors : (l.read f ack).checkErrors = l.checkErrors := rfl
@[simp] theorem Slc.read_truncated : (l.read f ack).truncated = l.truncated := rfl
@[simp] theorem Slc.read_arbitrationLosses : (l.read f ack).arbitrationLosses = l.arbitrationLosses := rfl
@[simp] theorem Slc.read_undelivered : (l.read f ack).undelivered = l.undelivered := rfl
@[simp] theorem Slc.read_conflicts : (l.read f ack).conflicts = l.conflicts := rfl
@[simp] theorem Slc.read_rx : (l.read f ack).rx = .ignoring := rfl
@[simp] theorem Slc.read_rxBuffer : (l.read f ack).rxBuffer = f.bytes := rfl
@[simp] theorem Slc.read_rxCells : (l.read f ack).rxCells = [] := rfl

end fields

/-! ### What reading cells can change -/

/-- Reading the line changes the counts, the receive state and the receive buffer, and nothing else. -/
def Slc.LineOnly (l l' : Slc) : Prop :=
  l' = { l with
    idleCount := l'.idleCount, dominantRun := l'.dominantRun, rx := l'.rx, rxBuffer := l'.rxBuffer, rxCells := l'.rxCells }

theorem Slc.LineOnly.refl (l : Slc) : l.LineOnly l := rfl

theorem Slc.LineOnly.trans {l l' l'' : Slc} (h : l.LineOnly l') (h' : l'.LineOnly l'') : l.LineOnly l'' := by
  rw [Slc.LineOnly] at *
  rw [h', h]

theorem Slc.counts_lineOnly (cells : List Level) (l : Slc) : l.LineOnly (l.counts cells) := rfl

theorem Slc.receiveCell_lineOnly (c : Level) (l : Slc) : l.LineOnly (l.receiveCell c).1 := by
  unfold Slc.receiveCell
  split
  · split
    · rfl
    · split
      · rfl
      · dsimp only
        split <;> rfl
  · split
    · rfl
    · split <;> rfl

theorem Slc.hearCell_lineOnly (c : Level) (l : Slc) : l.LineOnly (l.hearCell c).1 := by
  unfold Slc.hearCell
  split
  · split <;> rfl
  · exact Slc.receiveCell_lineOnly c l
  · rfl

theorem Slc.gap_lineOnly (l : Slc) : l.LineOnly l.gap := by
  unfold Slc.gap
  split <;> rfl

theorem Slc.hearCell_line (c : Level) (l : Slc) : (l.hearCell c).1.line = l.line := by
  rw [show (l.hearCell c).1 = _ from Slc.hearCell_lineOnly c l]

theorem Slc.hearCell_dominantRun (c : Level) (l : Slc) : (l.hearCell c).1.dominantRun = l.dominantRun := by
  unfold Slc.hearCell Slc.receiveCell
  split
  · split <;> rfl
  · split
    · split
      · rfl
      · split
        · rfl
        · dsimp only
          split <;> rfl
    · split
      · rfl
      · split <;> rfl
  · rfl

theorem Slc.gap_dominantRun (l : Slc) : l.gap.dominantRun = l.dominantRun := by
  unfold Slc.gap
  split <;> rfl

theorem Slc.gap_line (l : Slc) : l.gap.line = l.line := by
  unfold Slc.gap
  split <;> rfl

theorem Slc.read_lineOnly (f : Frame) (ack : Level) (l : Slc) : l.LineOnly (l.read f ack) := rfl

/-! ### The counts -/

theorem Slc.counts_append (xs ys : List Level) (l : Slc) : l.counts (xs ++ ys) = (l.counts xs).counts ys := by
  simp [Slc.counts]

/-- Twelve recessive cells make an idle gap, whatever was counted before (R172). -/
theorem Slc.counts_twelve (l : Slc) :
    l.counts (List.replicate 12 .recessive) = { l with idleCount := 12, dominantRun := 0 } := by
  have h : ∀ n x, x ≤ 12 → (List.replicate n Level.recessive).foldl idleCell x = min 12 (x + n) := by
    intro n
    induction n with
    | zero => intro x hx; simp; omega
    | succ n ih =>
      intro x hx
      have : satSucc 12 x = min 12 (x + 1) := by unfold satSucc; split <;> omega
      rw [List.replicate_succ, List.foldl_cons, idleCell, this, ih _ (by omega)]
      omega
  have h0 : satSucc 12 l.idleCount ≤ 12 := by unfold satSucc; split <;> omega
  have h1 : 1 ≤ satSucc 12 l.idleCount := by unfold satSucc; split <;> omega
  have : (List.replicate 12 Level.recessive).foldl idleCell l.idleCount = 12 := by
    rw [show List.replicate 12 Level.recessive = .recessive :: List.replicate 11 .recessive from rfl, List.foldl_cons,
      idleCell, h 11 _ h0]
    omega
  rw [Slc.counts, this]
  rfl

/-- Seventeen dominant cells make the run of a stuck line, whatever was counted before (R181). -/
theorem Slc.counts_seventeen (l : Slc) :
    l.counts (List.replicate 17 .dominant) = { l with idleCount := 0, dominantRun := 17 } := by
  have h : ∀ n x, x ≤ 17 → (List.replicate n Level.dominant).foldl runCell x = min 17 (x + n) := by
    intro n
    induction n with
    | zero => intro x hx; simp; omega
    | succ n ih =>
      intro x hx
      have : satSucc 17 x = min 17 (x + 1) := by unfold satSucc; split <;> omega
      rw [List.replicate_succ, List.foldl_cons, runCell, this, ih _ (by omega)]
      omega
  have h0 : satSucc 17 l.dominantRun ≤ 17 := by unfold satSucc; split <;> omega
  have h1 : 1 ≤ satSucc 17 l.dominantRun := by unfold satSucc; split <;> omega
  have : (List.replicate 17 Level.dominant).foldl runCell l.dominantRun = 17 := by
    rw [show List.replicate 17 Level.dominant = .dominant :: List.replicate 16 .dominant from rfl, List.foldl_cons,
      runCell, h 16 _ h0]
    omega
  rw [Slc.counts, this]
  rfl

/-- The idle count grows by at most one at each cell. -/
theorem foldl_idleCell_le (cells : List Level) (n : Nat) : cells.foldl idleCell n ≤ n + cells.length := by
  induction cells generalizing n with
  | nil => exact Nat.le_refl _
  | cons c rest ih =>
    have : idleCell n c ≤ n + 1 := by
      cases c
      · exact Nat.zero_le _
      · simp only [idleCell, satSucc]
        split <;> omega
    have := ih (idleCell n c)
    simp only [List.foldl_cons, List.length_cons]
    omega

/-- After the cells of a byte the idle count is at most 9. -/
theorem Slc.counts_byte_idle_le (b : Byte) (l : Slc) : (l.counts (byteCells b)).idleCount ≤ 9 :=
  foldl_idleCell_le ((byteCells b).drop 1) 0

theorem Slc.counts_byte_run (b : Byte) (l : Slc) : (l.counts (byteCells b)).dominantRun = 0 := rfl

/-- After the cells of a frame the idle count is at most 9, and the dominant run is 0. -/
theorem Slc.counts_frame (f : Frame) (l : Slc) :
    (l.counts f.cells).idleCount ≤ 9 ∧ (l.counts f.cells).dominantRun = 0 := by
  have hc : l.counts f.cells = (l.counts (cellsOf f.body)).counts (byteCells (checkByte f.body)) := by
    rw [Frame.cells, Frame.bytes, cellsOf, List.flatMap_append, Slc.counts_append]
    simp [cellsOf]
  rw [hc]
  exact ⟨Slc.counts_byte_idle_le _ _, Slc.counts_byte_run _ _⟩

/-- After a frame and its acknowledge cell. -/
theorem Slc.read_counts (f : Frame) (ack : Level) (l : Slc) :
    (l.read f ack).idleCount = (match ack with
      | .dominant => 0
      | .recessive => (l.counts f.cells).idleCount + 1) ∧
    (l.read f ack).dominantRun = (match ack with
      | .dominant => 1
      | .recessive => 0) := by
  obtain ⟨h1, h2⟩ := Slc.counts_frame f l
  have hr : ∀ x : Slc, x.counts [ack] = x.count ack := fun _ => rfl
  simp only [Slc.read, Slc.counts_append, hr]
  cases ack
  · refine ⟨rfl, ?_⟩
    show satSucc 17 (l.counts f.cells).dominantRun = 1
    rw [h2]
    rfl
  · refine ⟨?_, rfl⟩
    show satSucc 12 (l.counts f.cells).idleCount = (l.counts f.cells).idleCount + 1
    unfold satSucc
    split <;> omega

/-! ### Reading below the thresholds -/

/-- What reading cells comes to while the counts bring about nothing but idle gaps: the SLC at the first end of a
reception, how it ended, and the cells after it. -/
def Slc.hear : List Level → Slc → Slc × Option (Ended × List Level)
  | [], l => (l, none)
  | c :: rest, l =>
    match (l.count c).hearCell c with
    | (l', none) => Slc.hear rest l'.gap
    | (l', some e) => (l'.gap, some (e, rest))

/-- No cell of the row makes a stuck line (R181). -/
def Slc.noStuck (l : Slc) : List Level → Nat → Prop
  | [], _ => True
  | c :: rest, n => (l.line = .silenced ∨ runCell n c < 17) ∧ Slc.noStuck l rest (runCell n c)

theorem Slc.noStuck_congr {l l' : Slc} (h : l.line = l'.line) (cells : List Level) (n : Nat) :
    l.noStuck cells n ↔ l'.noStuck cells n := by
  induction cells generalizing n with
  | nil => exact Iff.rfl
  | cons c rest ih => rw [Slc.noStuck, Slc.noStuck, h, ih]

/-- Where the line is read for frames and is not stuck, the counts bring about idle gaps only. -/
theorem State.countsReached_of_reads {s : State} (hreads : s.slc.reads = true)
    (hrun : s.slc.line = .silenced ∨ s.slc.dominantRun < 17) : s.countsReached = s.setSlc s.slc.gap := by
  simp only [Slc.reads, Bool.or_eq_true, beq_iff_eq] at hreads
  unfold State.countsReached
  dsimp only
  obtain h | h := hreads
  · have : s.slc.dominantRun ≠ 17 := by
      obtain h' | h' := hrun
      · rw [h] at h'; cases h'
      · omega
    simp [h, this]
  · simp [h]

theorem State.hearCell_of_reads {s : State} {c : Level} (hreads : s.slc.reads = true)
    (hrun : s.slc.line = .silenced ∨ runCell s.slc.dominantRun c < 17) :
    s.hearCell c = (s.setSlc ((s.slc.count c).hearCell c).1.gap, ((s.slc.count c).hearCell c).2) := by
  have hl := Slc.hearCell_line c (s.slc.count c)
  have hd := Slc.hearCell_dominantRun c (s.slc.count c)
  have hr : (s.setSlc ((s.slc.count c).hearCell c).1).slc.reads = true := by
    show Slc.reads ((s.slc.count c).hearCell c).1 = true
    rw [Slc.reads, hl]
    exact hreads
  have h := State.countsReached_of_reads hr (by
    show ((s.slc.count c).hearCell c).1.line = .silenced ∨ ((s.slc.count c).hearCell c).1.dominantRun < 17
    rw [hl, hd]
    exact hrun)
  have hf : ((s.slc.count c).hearCell c).1.gap.line ≠ .lineFault := by
    rw [Slc.gap_line, hl]
    intro hx
    rw [Slc.reads, show s.slc.line = .lineFault from hx] at hreads
    cases hreads
  unfold State.hearCell
  dsimp only
  rw [h]
  exact Prod.ext rfl (if_neg hf)

/-- What follows the end of a reception. -/
def State.afterEnd (frame : List Byte → Option Frame) (kept : State) (rest : List Level) (s : State) : Ended → State
  | .error fault => State.hear frame rest (s.receptionFault fault) (s.receptionFault fault)
  | .whole =>
    match rest, frame s.slc.rxBuffer with
    | ack :: more, some f => State.hear frame more (s.examined f ack) (s.examined f ack)
    | _, _ => kept

theorem State.afterEnd_whole {frame : List Byte → Option Frame} {s : State} {f : Frame}
    (hf : frame s.slc.rxBuffer = some f) (kept : State) (ack : Level) :
    State.afterEnd frame kept [ack] s .whole = s.examined f ack := by
  rw [State.afterEnd.eq_def]
  simp only [hf, State.hear]

/-- Cells read to the end of a reception, on a line that is not stuck. -/
theorem State.hear_of_slc (frame : List Byte → Option Frame) (cells : List Level) {s : State} {l : Slc} {e : Ended}
    {rest : List Level} (hreads : s.slc.reads = true) (hrun : s.slc.noStuck cells s.slc.dominantRun)
    (h : s.slc.hear cells = (l, some (e, rest))) (kept : State) :
    ∃ k, State.hear frame cells kept s = State.afterEnd frame k rest (s.setSlc l) e := by
  induction cells generalizing s kept with
  | nil => cases h
  | cons c cells ih =>
    rw [Slc.noStuck] at hrun
    have hc := State.hearCell_of_reads hreads hrun.1
    rw [Slc.hear] at h
    have hl := Slc.hearCell_line c (s.slc.count c)
    have hd := Slc.hearCell_dominantRun c (s.slc.count c)
    rw [State.hear.eq_def]
    dsimp only
    rw [hc]
    cases he : (s.slc.count c).hearCell c with
    | mk l' ended =>
    rw [he] at h hl hd
    dsimp only at hl hd
    cases ended with
    | none =>
      dsimp only at h ⊢
      have hline : l'.gap.line = s.slc.line := by rw [Slc.gap_line, hl]; rfl
      exact ih (s := s.setSlc l'.gap)
        (by show l'.gap.reads = true; rw [Slc.reads, hline]; exact hreads)
        (by
          show l'.gap.noStuck cells l'.gap.dominantRun
          rw [Slc.gap_dominantRun, hd]
          exact (Slc.noStuck_congr hline _ _).mpr hrun.2) h _
    | some e' =>
      dsimp only at h ⊢
      cases h
      cases e <;> exact ⟨kept, rfl⟩

/-- A run of cells below 17 dominant ones at every cell. -/
theorem Slc.noStuck_append (l : Slc) (xs ys : List Level) (n : Nat) :
    l.noStuck (xs ++ ys) n ↔ l.noStuck xs n ∧ l.noStuck ys (xs.foldl runCell n) := by
  induction xs generalizing n with
  | nil => simp [Slc.noStuck]
  | cons c rest ih => rw [List.cons_append, Slc.noStuck, ih, Slc.noStuck, List.foldl_cons, and_assoc]

theorem runCell_le (n : Nat) (c : Level) : runCell n c ≤ n + 1 := by
  cases c
  · simp only [runCell, satSucc]
    split <;> omega
  · exact Nat.zero_le _

/-- Fewer cells than are missing to a run of 17. -/
theorem Slc.noStuck_of_length (l : Slc) (cells : List Level) (n : Nat) (h : n + cells.length < 17) :
    l.noStuck cells n := by
  induction cells generalizing n with
  | nil => exact True.intro
  | cons c rest ih =>
    simp only [List.length_cons] at h
    have := runCell_le n c
    exact ⟨.inr (by omega), ih _ (by omega)⟩

/-- No byte makes a stuck line after a run of 7 or less (R181). -/
theorem Slc.noStuck_byte (l : Slc) (b : Byte) (n : Nat) (h : n ≤ 7) : l.noStuck (byteCells b) n := by
  rw [byteCells, Slc.noStuck_append]
  refine ⟨Slc.noStuck_of_length _ _ _ (by simp; omega), .inr ?_, True.intro⟩
  exact Nat.zero_lt_succ _

theorem foldl_runCell_byte (b : Byte) (n : Nat) : (byteCells b).foldl runCell n = 0 := rfl

/-- No bytes do (R181). -/
theorem Slc.noStuck_bytes (l : Slc) (bytes : List Byte) (n : Nat) (h : n ≤ 7) : l.noStuck (cellsOf bytes) n := by
  induction bytes generalizing n with
  | nil => exact True.intro
  | cons b more ih =>
    rw [show cellsOf (b :: more) = byteCells b ++ cellsOf more from rfl, Slc.noStuck_append, foldl_runCell_byte]
    exact ⟨Slc.noStuck_byte l b n h, ih 0 (Nat.zero_le _)⟩

/-! ### The cells of a frame are heard as that frame -/

/-- The eight data cells of a byte give it back. -/
theorem byteOfCells_data : ∀ b : Byte, byteOfCells ([7, 6, 5, 4, 3, 2, 1, 0].map fun i => cellOfBit (b.getLsbD i)) = b := by
  decide

theorem Slc.gap_of_receiving {l : Slc} (h : l.rx = .receiving) : l.gap = l := by
  rw [Slc.gap, h]
  simp

/-- One data cell. -/
theorem Slc.hear_data {l : Slc} {data : List Level} (hrx : l.rx = .receiving) (hc : l.rxCells = .dominant :: data)
    (hlen : data.length < 8) (c : Level) (rest : List Level) :
    l.hear (c :: rest) = Slc.hear rest { l.count c with rxCells := .dominant :: (data ++ [c]) } := by
  have h1 : (l.count c).hearCell c = ({ l.count c with rxCells := .dominant :: (data ++ [c]) }, none) := by
    rw [Slc.hearCell, show (l.count c).rx = .receiving from hrx]
    dsimp only
    rw [Slc.receiveCell, show (l.count c).rxCells = .dominant :: data from hc]
    dsimp only
    rw [if_pos hlen]
  rw [Slc.hear, h1]
  dsimp only
  rw [Slc.gap_of_receiving (l := { l.count c with rxCells := .dominant :: (data ++ [c]) }) hrx]

/-- A run of data cells. -/
theorem Slc.hear_datas (cells : List Level) {l : Slc} {data : List Level} (hrx : l.rx = .receiving)
    (hc : l.rxCells = .dominant :: data) (hlen : data.length + cells.length ≤ 8) (rest : List Level) :
    l.hear (cells ++ rest) = Slc.hear rest { l.counts cells with rxCells := .dominant :: (data ++ cells) } := by
  induction cells generalizing l data with
  | nil =>
    simp only [List.nil_append, List.append_nil, ← hc]
    rfl
  | cons c more ih =>
    simp only [List.length_cons] at hlen
    rw [List.cons_append, Slc.hear_data hrx hc (by omega) c,
      ih (l := { l.count c with rxCells := .dominant :: (data ++ [c]) }) (data := data ++ [c]) hrx rfl
        (by simp only [List.length_append, List.length_cons, List.length_nil]; omega),
      List.append_assoc, List.singleton_append]
    rfl

/-- What the receiver is after a byte whose cells have been read. -/
def Slc.withByte (l : Slc) (b : Byte) : Slc :=
  { l.counts (byteCells b) with rxBuffer := l.rxBuffer ++ [b], rxCells := [] }

/-- A byte that ends no reception, where a start cell is expected. -/
theorem Slc.hear_byte {l : Slc} (hrx : l.rx = .receiving) (hc : l.rxCells = []) (b : Byte) (rest : List Level) :
    l.hear (byteCells b ++ rest) =
      match receptionEnd (l.rxBuffer ++ [b]) with
      | none => Slc.hear rest (l.withByte b)
      | some e => ({ l.withByte b with rx := .ignoring }, some (e, rest)) := by
  have h1 : (l.count .dominant).hearCell .dominant = ({ l.count .dominant with rxCells := [.dominant] }, none) := by
    rw [Slc.hearCell, show (l.count .dominant).rx = .receiving from hrx]
    dsimp only
    rw [Slc.receiveCell, show (l.count .dominant).rxCells = [] from hc]
  obtain ⟨data, hdata⟩ : ∃ data, data = [7, 6, 5, 4, 3, 2, 1, 0].map fun i => cellOfBit (b.getLsbD i) := ⟨_, rfl⟩
  have hlen : data.length = 8 := by rw [hdata]; rfl
  have hb : byteOfCells data = b := by rw [hdata]; exact byteOfCells_data b
  have hcells : byteCells b = .dominant :: (data ++ [.recessive]) := by rw [hdata]; rfl
  let m : Slc := { l.count .dominant with rxCells := [.dominant] }
  have h2 : l.hear (byteCells b ++ rest) = m.hear (data ++ (.recessive :: rest)) := by
    rw [hcells, List.cons_append, Slc.hear, h1]
    dsimp only
    rw [Slc.gap_of_receiving (l := { l.count .dominant with rxCells := [.dominant] }) hrx, List.append_assoc]
    rfl
  rw [h2, Slc.hear_datas data (l := m) (data := []) hrx rfl (by simp [hlen])]
  let k : Slc := { m.counts data with rxCells := .dominant :: ([] ++ data) }
  have hk : ({ k.count .recessive with rxBuffer := l.rxBuffer ++ [b], rxCells := [] } : Slc) = l.withByte b := by
    rw [Slc.withByte, hcells]
    show _ = ({ l.counts (.dominant :: (data ++ [.recessive])) with rxBuffer := _, rxCells := [] } : Slc)
    rw [show l.counts (.dominant :: (data ++ [.recessive])) = ((l.count .dominant).counts data).count .recessive from by
      rw [show (.dominant :: (data ++ [.recessive]) : List Level) = ([.dominant] ++ data) ++ [.recessive] from rfl,
        Slc.counts_append, Slc.counts_append]
      rfl]
    rfl
  have h3 : (k.count .recessive).hearCell .recessive =
      match receptionEnd (l.rxBuffer ++ [b]) with
      | none => (l.withByte b, none)
      | some e => ({ l.withByte b with rx := .ignoring }, some e) := by
    rw [Slc.hearCell, show (k.count .recessive).rx = .receiving from hrx]
    dsimp only
    rw [Slc.receiveCell, show (k.count .recessive).rxCells = .dominant :: data from rfl]
    dsimp only
    rw [if_neg (by omega), hb, show (k.count .recessive).rxBuffer = l.rxBuffer from rfl, ← hk]
    all_goals cases receptionEnd (l.rxBuffer ++ [b]) <;> rfl
  rw [show Slc.hear (.recessive :: rest) k = _ from rfl, Slc.hear, h3]
  cases he : receptionEnd (l.rxBuffer ++ [b]) with
  | none =>
    dsimp only
    rw [Slc.gap_of_receiving (l := l.withByte b) hrx]
  | some e =>
    dsimp only
    have hi : (l.withByte b).idleCount ≤ 9 := Slc.counts_byte_idle_le b l
    have : Slc.gap { l.withByte b with rx := .ignoring } = { l.withByte b with rx := .ignoring } := by
      rw [Slc.gap, if_neg]
      simp only [Bool.and_eq_true, beq_iff_eq, not_and]
      intro _
      show (l.withByte b).idleCount ≠ 12
      omega
    rw [this]

/-- Bytes that end no reception. -/
theorem Slc.hear_bytes (bytes : List Byte) {l : Slc} (hrx : l.rx = .receiving) (hc : l.rxCells = [])
    (h : ∀ n, n < bytes.length → receptionEnd (l.rxBuffer ++ bytes.take (n + 1)) = none) (rest : List Level) :
    l.hear (cellsOf bytes ++ rest) =
      Slc.hear rest { l.counts (cellsOf bytes) with rxBuffer := l.rxBuffer ++ bytes, rxCells := [] } := by
  induction bytes generalizing l with
  | nil =>
    rw [List.append_nil, ← hc]
    rfl
  | cons b more ih =>
    have h0 := h 0 (by simp)
    simp only [Nat.zero_add, List.take_succ_cons, List.take_zero] at h0
    rw [show cellsOf (b :: more) = byteCells b ++ cellsOf more from rfl, List.append_assoc, Slc.hear_byte hrx hc, h0]
    dsimp only
    rw [ih (l := l.withByte b) hrx rfl, Slc.counts_append]
    · show Slc.hear rest { (l.withByte b).counts (cellsOf more) with
        rxBuffer := (l.rxBuffer ++ [b]) ++ more, rxCells := [] } = _
      rw [List.append_assoc]
      rfl
    · intro n hn
      have := h (n + 1) (by simp only [List.length_cons]; omega)
      show receptionEnd ((l.rxBuffer ++ [b]) ++ _) = none
      rwa [List.append_assoc, List.singleton_append, ← List.take_succ_cons]

/-! ### Whole frames -/

/-- A dominant cell on a line that waits begins a reception, whose first byte is read from it. -/
theorem Slc.hear_begin {l : Slc} (hreads : l.reads = true) (hrx : l.rx = .waiting) (rest : List Level) :
    l.hear (.dominant :: rest) =
      Slc.hear (.dominant :: rest) { l with rx := .receiving, rxBuffer := [], rxCells := [] } := by
  have h1 : (l.count .dominant).hearCell .dominant =
      ({ l.count .dominant with rx := .receiving, rxBuffer := [], rxCells := [.dominant] }, none) := by
    rw [Slc.hearCell, show (l.count .dominant).rx = .waiting from hrx]
    dsimp only
    rw [show (l.count .dominant).reads = true from hreads]
    rfl
  rw [Slc.hear, h1]
  rfl

/-- Bytes that end no reception, on a line that waits. -/
theorem Slc.hear_bytes_waiting {l : Slc} (hreads : l.reads = true) (hrx : l.rx = .waiting) {bytes : List Byte}
    (hne : bytes ≠ []) (h : ∀ n, n < bytes.length → receptionEnd (bytes.take (n + 1)) = none) (rest : List Level) :
    l.hear (cellsOf bytes ++ rest) =
      Slc.hear rest { l.counts (cellsOf bytes) with rx := .receiving, rxBuffer := bytes, rxCells := [] } := by
  obtain ⟨b, more, rfl⟩ := List.exists_cons_of_ne_nil hne
  obtain ⟨tail, htail⟩ : ∃ tail, cellsOf (b :: more) = .dominant :: tail := ⟨_, rfl⟩
  have := Slc.hear_bytes (b :: more) (l := { l with rx := .receiving, rxBuffer := [], rxCells := [] }) rfl rfl h rest
  rw [htail] at this ⊢
  rw [List.cons_append, Slc.hear_begin hreads hrx]
  exact this

/-- Three recessive cells where a start cell is expected. -/
theorem Slc.hear_truncated {l : Slc} (hrx : l.rx = .receiving) (hc : l.rxCells = []) :
    l.hear [.recessive, .recessive, .recessive] =
      (Slc.gap { l.counts [.recessive, .recessive, .recessive] with rx := .ignoring, rxCells := [] },
        some (.error .truncated, [])) := by
  simp [Slc.hear, Slc.hearCell, Slc.receiveCell, Slc.count, Slc.counts, Slc.gap, hrx, hc]

/-- A start cell, eight data cells and a dominant stop cell. -/
theorem Slc.hear_framing {l : Slc} (hrx : l.rx = .receiving) (hc : l.rxCells = []) {data : List Level}
    (hlen : data.length = 8) :
    l.hear (.dominant :: (data ++ [.dominant])) =
      ({ l.counts (.dominant :: (data ++ [.dominant])) with rx := .ignoring, rxCells := [] },
        some (.error .framing, [])) := by
  have h1 : l.hear (.dominant :: (data ++ [.dominant])) =
      Slc.hear (data ++ [.dominant]) { l.count .dominant with rxCells := [.dominant] } := by
    rw [Slc.hear, Slc.hearCell, show (l.count .dominant).rx = .receiving from hrx]
    dsimp only
    rw [Slc.receiveCell, show (l.count .dominant).rxCells = [] from hc]
    dsimp only
    rw [Slc.gap_of_receiving (l := { l.count .dominant with rxCells := [.dominant] }) hrx]
  rw [h1, Slc.hear_datas data (l := { l.count .dominant with rxCells := [.dominant] }) (data := []) hrx rfl
    (by simp [hlen])]
  have hcount : l.counts (.dominant :: (data ++ [.dominant])) = ((l.count .dominant).counts data).count .dominant := by
    rw [show (.dominant :: (data ++ [.dominant]) : List Level) = ([.dominant] ++ data) ++ [.dominant] from rfl,
      Slc.counts_append, Slc.counts_append]
    rfl
  rw [hcount, Slc.hear, Slc.hearCell]
  rw [show ∀ x : Slc, (Slc.count .dominant { x with rxCells := .dominant :: ([] ++ data) }).rx = x.rx from fun _ => rfl]
  rw [show (Slc.counts data { l.count .dominant with rxCells := [.dominant] }).rx = .receiving from hrx]
  dsimp only
  rw [Slc.receiveCell]
  simp only [Slc.count, Slc.counts, List.nil_append, hlen, Nat.lt_irrefl, if_false, Slc.gap]
  simp [idleCell]

/-- The bytes of a frame before its check byte end no reception. -/
theorem receptionEnd_body {f : Frame} (h : f.payload.length ≤ 16) (n : Nat) (hn : n < f.body.length) :
    receptionEnd (f.body.take (n + 1)) = none := by
  have hl : (byte f.payload.length).toNat = f.payload.length := by
    rw [byte, BitVec.toNat_ofNat]
    omega
  cases n with
  | zero => rfl
  | succ n =>
    rw [Frame.body] at hn ⊢
    simp only [List.length_cons] at hn
    rw [List.take_succ_cons, List.take_succ_cons, receptionEnd, hl, if_neg (by omega), if_neg]
    rw [List.length_take]
    omega

/-- The bytes of a frame end the reception as a frame read whole. -/
theorem receptionEnd_bytes {f : Frame} (h : f.payload.length ≤ 16) : receptionEnd f.bytes = some .whole := by
  have hl : (byte f.payload.length).toNat = f.payload.length := by
    rw [byte, BitVec.toNat_ofNat]
    omega
  rw [Frame.bytes, Frame.body, List.cons_append, List.cons_append, receptionEnd, hl, if_neg (by omega),
    if_pos (by simp)]
  simp

/-- R171, R173: the cells of a frame are heard as that frame, read whole. -/
theorem Slc.hear_frame {l : Slc} {f : Frame} (hreads : l.reads = true) (hrx : l.rx = .waiting)
    (h : f.payload.length ≤ 16) (rest : List Level) :
    l.hear (f.cells ++ rest) =
      ({ l.counts f.cells with rx := .ignoring, rxBuffer := f.bytes, rxCells := [] }, some (.whole, rest)) := by
  have hcells : f.cells = cellsOf f.body ++ byteCells (checkByte f.body) := by
    rw [Frame.cells, Frame.bytes, cellsOf, List.flatMap_append]
    simp [cellsOf]
  obtain ⟨tail, htail⟩ : ∃ tail, f.cells = .dominant :: tail := ⟨_, rfl⟩
  let m : Slc := { l with rx := .receiving, rxBuffer := [], rxCells := [] }
  rw [htail, List.cons_append, Slc.hear_begin hreads hrx, ← List.cons_append, ← htail, hcells, List.append_assoc,
    Slc.hear_bytes f.body (l := { l with rx := .receiving, rxBuffer := [], rxCells := [] }) rfl rfl
      (fun n hn => receptionEnd_body h n hn)]
  rw [Slc.hear_byte (l := { m.counts (cellsOf f.body) with rxBuffer := [] ++ f.body, rxCells := [] }) rfl rfl]
  rw [show receptionEnd ([] ++ f.body ++ [checkByte f.body]) = some .whole from receptionEnd_bytes h, Slc.counts_append]
  rfl

/-- The acknowledge cell of a frame read whole. -/
theorem State.passCell_heard (f : Frame) (ack : Level) {s : State} (hreads : s.slc.reads = true) :
    (s.setSlc { s.slc.counts f.cells with rx := .ignoring, rxBuffer := f.bytes, rxCells := [] }).passCell ack =
      s.setSlc (s.slc.read f ack) := by
  obtain ⟨hi, hd⟩ := Slc.read_counts f ack s.slc
  have hi9 := (Slc.counts_frame f s.slc).1
  have hread : Slc.count ack { s.slc.counts f.cells with rx := .ignoring, rxBuffer := f.bytes, rxCells := [] } =
      s.slc.read f ack := by
    rw [Slc.read, Slc.counts_append]
    rfl
  have hn : (s.slc.read f ack).idleCount ≠ 12 := by
    rw [hi]
    cases ack <;> dsimp only <;> omega
  have hr : (s.slc.read f ack).dominantRun < 17 := by
    rw [hd]
    cases ack <;> decide
  rw [State.passCell]
  show (s.setSlc (Slc.count ack
    { s.slc.counts f.cells with rx := .ignoring, rxBuffer := f.bytes, rxCells := [] })).countsReached = _
  rw [hread, State.countsReached_of_reads (s := s.setSlc (s.slc.read f ack)) hreads (.inr hr)]
  show s.setSlc (s.slc.read f ack).gap = _
  rw [Slc.gap, if_neg]
  simp [hn]

/-- R174, R176, R177: a frame whose cells come while the line waits for one, by what Table 9-3 makes of it. -/
theorem State.receive_of_waiting {s : State} {f : Frame} (hreads : s.slc.reads = true) (hfl : s.slc.inFlight = none)
    (hrx : s.slc.rx = .waiting) (hrun : s.slc.dominantRun ≤ 7) (h : f.payload.length ≤ 16) (others : Level) :
    s.receive f others =
      match s.slc.examine s.cmh.buffer.isNone f with
      | .conflict => (s.setSlc (s.slc.read f others)).slcConflict
      | .checkError => (s.setSlc (s.slc.read f others)).slcCheckError
      | .claim floor want cls =>
        (s.setSlc (s.slc.read f (wired (if s.slc.line = .lineOk then .dominant else .recessive) others))).emit
          [.lsuClaim (Fin.ofNat 8 f.source) floor want cls]
      | .command =>
        (s.setSlc (s.slc.read f .dominant)).emit
          [.cmhCommand ⟨stationOf f.source, f.payload.head?, f.payload.drop 1⟩]
      | .discard => s.setSlc (s.slc.read f others) := by
  have hcome : s.slc.toCome f.cells = some f.cells := by simp [Slc.toCome, hfl, hrx]
  have hstuck : s.slc.noStuck (f.cells ++ [others]) s.slc.dominantRun := by
    rw [Slc.noStuck_append]
    refine ⟨Slc.noStuck_bytes _ _ _ hrun, Slc.noStuck_of_length _ _ _ ?_⟩
    rw [show f.cells.foldl runCell s.slc.dominantRun = 0 from (Slc.counts_frame f s.slc).2]
    show 0 + 1 < 17
    decide
  have hx : ∀ b, Slc.examine (s.setSlc
      { s.slc.counts f.cells with rx := .ignoring, rxBuffer := f.bytes, rxCells := [] }).slc b f =
      s.slc.examine b f := fun _ => rfl
  obtain ⟨_, hk⟩ := State.hear_of_slc (fun _ => some f) (f.cells ++ [others]) hreads hstuck
    (Slc.hear_frame hreads hrx h [others]) s
  rw [State.receive, hcome]
  dsimp only
  rw [hk, State.afterEnd_whole rfl, State.examined]
  dsimp only
  rw [hx, show (s.setSlc { s.slc.counts f.cells with rx := .ignoring, rxBuffer := f.bytes, rxCells := [] }).cmh =
    s.cmh from rfl]
  cases s.slc.examine s.cmh.buffer.isNone f <;> first | rfl | (simp only [State.passCell_heard f _ hreads, wired]; done) |
    (simp only [State.passCell_heard f _ hreads, wired]; rfl)

/-! ### What cells can do to the part -/

/-- What a cell, a counted error and an examination keep, a row of cells keeps. -/
theorem State.hear_keeps {P : State → Prop} (frame : List Byte → Option Frame)
    (hcell : ∀ c s, P s → P (s.hearCell c).1) (hfault : ∀ e s, P s → P (State.receptionFault e s))
    (hexamined : ∀ f ack bytes s, frame bytes = some f → P s → P (State.examined f ack s)) (cells : List Level)
    (kept s : State) (hk : P kept) (hs : P s) : P (State.hear frame cells kept s) := by
  fun_induction State.hear frame cells kept s with
  | case1 => exact hk
  | case2 c rest kept s t ht ih =>
    have := hcell c s hs
    rw [ht] at this
    exact ih (by split <;> assumption) this
  | case3 c rest kept s t fault ht ih =>
    have := hcell c s hs
    rw [ht] at this
    exact ih (hfault _ _ this) (hfault _ _ this)
  | case4 c kept s t ht ack more f hf ih =>
    have := hcell c s hs
    rw [ht] at this
    exact ih (hexamined _ _ _ _ hf this) (hexamined _ _ _ _ hf this)
  | case5 => exact hk

end Sys2Proof.Machine
end

