-- ==== Sys2Proof/Laws/Answers.lean ====
section
/-! SUPPORT. What a panel command comes to in a state that listens to it: it stands in the buffer, is decoded and taken,
and an answer given at once ends in the ANSWER slot (R184, R185). -/

namespace Sys2Proof.Machine

/-- What a state that listens provides. -/
structure Listening (s : State) (source : Fin 7) : Prop where
  quiet         : s.quiet = true
  bus           : s.bus = []
  line          : s.slc.line = .lineOk
  inFlight      : s.slc.inFlight = none
  waiting       : s.slc.rx = .waiting
  sound         : s.slc.lineSound = true
  answerSlot    : s.slc.answerSlot = none
  buffer        : s.cmh.buffer = none
  answerWaiting : s.cmh.answerWaiting = none
  outstanding   : s.cmh.outstanding = none
  moreFrames    : s.cmh.moreFrames = []
  own           : s.slc.own < 7
  foreign       : source.val ≠ s.slc.own

theorem State.listens_iff {s : State} {source : Fin 7} : s.listens source = true ↔ Listening s source := by
  constructor
  · intro h
    simp only [State.listens, Bool.and_eq_true, beq_iff_eq, Option.isNone_iff_eq_none, decide_eq_true_eq] at h
    obtain ⟨⟨⟨⟨⟨⟨⟨⟨⟨⟨hq, h1⟩, h2⟩, hw⟩, hl⟩, h3⟩, h4⟩, h5⟩, h6⟩, h7⟩, h8⟩ := h
    obtain ⟨hb, hd⟩ := State.quiet_iff.mp hq
    have hf := hd .fetchEventsNextFrame
    simp only [due, Cmh.frameDue, h5, h6, Option.isNone_none, Bool.and_true, Bool.not_eq_false',
      List.isEmpty_iff] at hf
    exact ⟨hq, hb, h1, h2, hw, hl, h3, h4, h5, h6, hf, h7, h8⟩
  · rintro ⟨hq, -, h1, h2, hw, hl, h3, h4, h5, h6, -, h7, h8⟩
    simp [State.listens, hq, h1, h2, hw, hl, h3, h4, h5, h6, h7, h8]

/-- A line that waits, with no own frame in flight, has at most the run of an acknowledge cell behind it. -/
theorem Slc.run_of_lineSound {l : Slc} (h : l.lineSound = true) (hf : l.inFlight = none) (hw : l.rx = .waiting) :
    l.dominantRun ≤ 1 := by
  simp only [Slc.lineSound, hf, hw, Bool.and_eq_true] at h
  simpa using h.2

/-- The command in the buffer is decoded, and refused, deferred or taken (R185). -/
def State.decoded (code : Option Byte) (payload : List Byte) (s : State) : State :=
  match s.cmh.decodeRefusal code payload, code with
  | some r, code => s.refuseDecoded code r
  | none, none => s
  | none, some k =>
    if isConfigCommand k && !s.stc.scanned then s.setCmh { s.cmh with deferred := true }
    else s.take k payload

theorem Slc.reads_of_lineOk {l : Slc} (h : l.line = .lineOk) : l.reads = true := by
  simp [Slc.reads, h]

/-- A COMMAND frame addressed to the own number from another station is handed to the CMH (Table 9-3). -/
theorem Slc.examine_command {l : Slc} {source : Fin 7} (hline : l.line = .lineOk) (hown : l.own < 7)
    (hforeign : source.val ≠ l.own) (code : Option Byte) (payload : List Byte) :
    l.examine true (l.commandFrame source code payload) = .command := by
  have h7 : ¬ source.val = 7 := by omega
  have ho : (l.own != 7) = true := bne_iff_ne.mpr (by omega)
  simp [Slc.examine, Slc.commandFrame, hforeign, h7, hline, Frame.addressed, ho]

/-- R174, R184: a panel command in a state that listens. -/
theorem State.panel_of_listens {s : State} {source : Fin 7} (h : s.listens source = true) (code : Option Byte)
    (payload : List Byte) (hcode : code = none → payload = []) (hlen : payload.length ≤ 15) :
    s.panel source code payload = ((s.taken source code payload).decoded code payload).settle (settleFuel - 1) := by
  obtain ⟨hq, hb, h1, h2, hw, hl, h3, h4, h5, h6, h7, h8, h9⟩ := State.listens_iff.mp h
  have hrun : s.slc.dominantRun ≤ 7 := le_trans (Slc.run_of_lineSound hl h2 hw) (by decide)
  have hx := Slc.examine_command h1 h8 h9 code payload
  have hs : stationOf source.val = source := by
    simp [stationOf]
  cases code with
  | none =>
    obtain rfl := hcode rfl
    rw [State.panel, State.event_of_quiet hq]
    simp only [Slc.commandFrame, Option.toList_none, List.nil_append] at hx
    rw [State.receive_of_waiting (Slc.reads_of_lineOk h1) h2 hw hrun (by simp), h4]
    dsimp only [Option.isNone_none]
    rw [hx]
    dsimp only
    rw [show settleFuel = (settleFuel - 1) + 1 from rfl,
      State.settle_cons (sig := .cmhCommand ⟨source, none, []⟩) (rest := []) (by simp [hb, hs, Signal.inOrder, Signal.rank])]
    simp only [handle, State.cmhCommand, State.decoded, State.taken, State.emit, State.setSlc, State.setCmh,
      Slc.commandFrame, hb]
    rfl
  | some k =>
    rw [State.panel, State.event_of_quiet hq]
    simp only [Slc.commandFrame, Option.toList_some, List.singleton_append] at hx
    rw [State.receive_of_waiting (Slc.reads_of_lineOk h1) h2 hw hrun (by simp; omega), h4]
    dsimp only [Option.isNone_none]
    rw [hx]
    dsimp only
    rw [show settleFuel = (settleFuel - 1) + 1 from rfl,
      State.settle_cons (sig := .cmhCommand ⟨source, some k, payload⟩) (rest := [])
        (by simp [hb, hs, Signal.inOrder, Signal.rank])]
    simp only [handle, State.cmhCommand, State.decoded, State.taken, State.emit, State.setSlc, State.setCmh,
      Slc.commandFrame, hb]
    rfl

/-- The buffer and the answer path of the state in which a command has been taken. -/
structure Answering (s : State) (c : Command) : Prop where
  line          : s.slc.discards = false
  answerSlot    : s.slc.answerSlot = none
  buffer        : s.cmh.buffer = some c
  answerWaiting : s.cmh.answerWaiting = none
  outstanding   : s.cmh.outstanding = none
  moreFrames    : s.cmh.moreFrames = []

theorem State.answering_taken {s : State} {source : Fin 7} (h : s.listens source = true) (code : Option Byte)
    (payload : List Byte) : Answering (s.taken source code payload) ⟨source, code, payload⟩ := by
  obtain ⟨-, -, h1, -, -, -, h3, -, h5, h6, h7, -, -⟩ := State.listens_iff.mp h
  exact ⟨by simp [State.taken, Slc.read, Slc.counts, Slc.discards, h1], h3, rfl, h5, h6, h7⟩

theorem State.bus_taken {s : State} {source : Fin 7} (h : s.listens source = true) (code : Option Byte)
    (payload : List Byte) : (s.taken source code payload).bus = [] :=
  (State.listens_iff.mp h).bus

/-- R184: the answer to the command in the buffer, with nothing else on its way, ends in the ANSWER slot. -/
theorem State.settle_answer {s : State} {c : Command} (h : Answering s c) (r : Result) (data : List Byte) (n : Nat)
    (hb : s.bus = [.cmhAnswer r data]) :
    s.settle (n + 2) = { s with bus := [] }.answered (c.reply r data) := by
  obtain ⟨h1, h2, h3, h4, h5, h6⟩ := h
  rw [State.settle_cons hb]
  have : handle (.cmhAnswer r data) { s with bus := [] } =
      { s with
        bus := [.slcAnswer (c.reply r data)]
        cmh := { s.cmh with buffer := none, outstanding := some (c.reply r data) } } := by
    simp only [handle, State.cmhAnswer, h3, State.produce, h4, h5, Option.isNone_none, Bool.and_self, if_true,
      State.hand, State.emit, State.setCmh, List.isEmpty_nil, h6]
    rfl
  rw [this, State.settle_cons (sig := .slcAnswer (c.reply r data)) (rest := []) rfl, State.settle_nil]
  · simp only [handle, State.slcAnswer, h1, h2, State.setSlc, State.answered, Option.isSome_none]
    rfl
  · simp only [handle, State.slcAnswer, h1, h2, State.setSlc, Option.isSome_none]
    rfl

end Sys2Proof.Machine
end

