-- ==== Sys2Proof/Laws/Frames.lean ====
section
/-! SUPPORT. The frame of every delivery: a block changes its own component only, posts events and delivers. -/

namespace Sys2Proof.Machine

/-- The blocks of Table 0-1 that take deliveries. -/
inductive Block where
  | clc | dsp | lsu | slc | sgc | sdu | rsq | stc | ilu | cmh
deriving DecidableEq, Repr

/-- An event queue that events have been posted to. -/
def Evq.Grown (q q' : Evq) : Prop := ∃ es, q' = q.appendAll es

theorem Evq.Grown.refl (q : Evq) : q.Grown q := ⟨[], rfl⟩

theorem Evq.Grown.trans {q q' q'' : Evq} (h : q.Grown q') (h' : q'.Grown q'') : q.Grown q'' := by
  obtain ⟨es, rfl⟩ := h
  obtain ⟨es', rfl⟩ := h'
  exact ⟨es ++ es', by simp [Evq.appendAll]⟩

theorem Evq.Grown.append (q : Evq) (c : EventCode) (n : Nat) (v : Word) : q.Grown (q.append c n v) :=
  ⟨[(c, n, v)], rfl⟩

/-- From one state to another by the doings of one block: it alone changes its component; events are posted and
deliveries made. -/
structure BlockStep (k : Block) (s t : State) : Prop where
  pending : t.pending = s.pending
  freeUse : t.freeUse = s.freeUse
  pins    : t.pins = s.pins
  clc     : k ≠ .clc → t.clc = s.clc
  dsp     : k ≠ .dsp → t.dsp = s.dsp
  lsu     : k ≠ .lsu → t.lsu = s.lsu
  slc     : k ≠ .slc → t.slc = s.slc
  sgc     : k ≠ .sgc → t.sgc = s.sgc
  sdu     : k ≠ .sdu → t.sdu = s.sdu
  rsq     : k ≠ .rsq → t.rsq = s.rsq
  stc     : k ≠ .stc → t.stc = s.stc
  ilu     : k ≠ .ilu → t.ilu = s.ilu
  cmh     : k ≠ .cmh → t.cmh = s.cmh
  evq     : s.evq.Grown t.evq

namespace BlockStep

variable {k : Block} {s t u : State}

protected theorem refl : BlockStep k s s :=
  ⟨rfl, rfl, rfl, fun _ => rfl, fun _ => rfl, fun _ => rfl, fun _ => rfl, fun _ => rfl, fun _ => rfl, fun _ => rfl,
    fun _ => rfl, fun _ => rfl, fun _ => rfl, .refl _⟩

protected theorem trans (h : BlockStep k s t) (h' : BlockStep k t u) : BlockStep k s u :=
  ⟨h'.pending.trans h.pending, h'.freeUse.trans h.freeUse, h'.pins.trans h.pins,
    fun n => (h'.clc n).trans (h.clc n), fun n => (h'.dsp n).trans (h.dsp n), fun n => (h'.lsu n).trans (h.lsu n),
    fun n => (h'.slc n).trans (h.slc n), fun n => (h'.sgc n).trans (h.sgc n), fun n => (h'.sdu n).trans (h.sdu n),
    fun n => (h'.rsq n).trans (h.rsq n), fun n => (h'.stc n).trans (h.stc n), fun n => (h'.ilu n).trans (h.ilu n),
    fun n => (h'.cmh n).trans (h.cmh n), h.evq.trans h'.evq⟩

theorem emit (h : BlockStep k s t) (sigs : List Signal) : BlockStep k s (t.emit sigs) := { h with }

theorem answer (h : BlockStep k s t) (r : Result) (d : List Byte) : BlockStep k s (t.answer r d) := { h with }

theorem refuse (h : BlockStep k s t) (r : Result) : BlockStep k s (t.refuse r) := { h with }

theorem post (h : BlockStep k s t) (c : EventCode) (n : Nat) (v : Word) : BlockStep k s (t.post c n v) :=
  { h with evq := h.evq.trans (.append _ c n v) }

theorem postAll (h : BlockStep k s t) (es : List (EventCode × Nat × Word)) : BlockStep k s (t.postAll es) := by
  rw [State.postAll_eq]
  exact { h with evq := h.evq.trans ⟨es, rfl⟩ }

theorem setClc (h : BlockStep .clc s t) (x : Clc) : BlockStep .clc s (t.setClc x) := { h with clc := fun n => (n rfl).elim }
theorem setDsp (h : BlockStep .dsp s t) (x : Dsp) : BlockStep .dsp s (t.setDsp x) := { h with dsp := fun n => (n rfl).elim }
theorem setLsu (h : BlockStep .lsu s t) (x : Lsu) : BlockStep .lsu s (t.setLsu x) := { h with lsu := fun n => (n rfl).elim }
theorem setSlc (h : BlockStep .slc s t) (x : Slc) : BlockStep .slc s (t.setSlc x) := { h with slc := fun n => (n rfl).elim }
theorem setSgc (h : BlockStep .sgc s t) (x : Sgc) : BlockStep .sgc s (t.setSgc x) := { h with sgc := fun n => (n rfl).elim }
theorem setSdu (h : BlockStep .sdu s t) (x : Sdu) : BlockStep .sdu s (t.setSdu x) := { h with sdu := fun n => (n rfl).elim }
theorem setRsq (h : BlockStep .rsq s t) (x : Rsq) : BlockStep .rsq s (t.setRsq x) := { h with rsq := fun n => (n rfl).elim }
theorem setStc (h : BlockStep .stc s t) (x : Stc) : BlockStep .stc s (t.setStc x) := { h with stc := fun n => (n rfl).elim }
theorem setIlu (h : BlockStep .ilu s t) (x : Ilu) : BlockStep .ilu s (t.setIlu x) := { h with ilu := fun n => (n rfl).elim }
theorem setCmh (h : BlockStep .cmh s t) (x : Cmh) : BlockStep .cmh s (t.setCmh x) := { h with cmh := fun n => (n rfl).elim }

theorem dspTo (h : BlockStep .dsp s t) (d : Dsp) (es : List (EventCode × Nat × Word)) :
    BlockStep .dsp s (t.dspTo d es) := ((h.setDsp d).postAll es).emit _

theorem clcTo (h : BlockStep .clc s t) (c : Clc) (after : List Signal) : BlockStep .clc s (t.clcTo c after) :=
  (h.setClc _).emit _

theorem lsuTo (h : BlockStep .lsu s t) (l : Lsu) (after : List Signal) : BlockStep .lsu s (t.lsuTo l after) :=
  (h.setLsu _).emit _

theorem lsuInputs (h : BlockStep .lsu s t) (l : Lsu) : BlockStep .lsu s (t.lsuInputs l) := h.lsuTo _ _

theorem sgcTo (h : BlockStep .sgc s t) (g : Sgc) : BlockStep .sgc s (t.sgcTo g) := (h.setSgc _).emit _

theorem sduTo (h : BlockStep .sdu s t) (d : Sdu) (before : List Signal) : BlockStep .sdu s (t.sduTo d before) :=
  (h.setSdu _).emit _

theorem rsqTo (h : BlockStep .rsq s t) (r : Rsq) (a b c : List Signal) : BlockStep .rsq s (t.rsqTo r a b c) :=
  (h.setRsq _).emit _

end BlockStep

open BlockStep

/-! ### The dispatcher -/

theorem State.dspDemands_block (w : Six Nat) (s : State) : BlockStep .dsp s (s.dspDemands w) := BlockStep.refl.dspTo _ _
theorem State.dspBoiler_block (w : Nat) (s : State) : BlockStep .dsp s (s.dspBoiler w) := BlockStep.refl.dspTo _ _
theorem State.dspLimit_block (l : Nat) (s : State) : BlockStep .dsp s (s.dspLimit l) := BlockStep.refl.dspTo _ _
theorem State.dspFan_block (n : Nat) (s : State) : BlockStep .dsp s (s.dspFan n) := BlockStep.refl.dspTo _ _
theorem State.dspLow_block (c : Bool) (s : State) : BlockStep .dsp s (s.dspLow c) := BlockStep.refl.dspTo _ _
theorem State.dspTrip_block (p : Place) (a : Word) (on : Bool) (s : State) : BlockStep .dsp s (s.dspTrip p a on) :=
  BlockStep.refl.dspTo _ _
theorem State.dspConfigured_block (r : Six Nat) (s : State) : BlockStep .dsp s (s.dspConfigured r) := by
  unfold State.dspConfigured; split
  · exact BlockStep.refl
  · exact BlockStep.refl.dspTo _ _

theorem State.dspSlotExpiry_block (s : State) : BlockStep .dsp s s.dspSlotExpiry := BlockStep.refl.dspTo _ _

/-! ### The climate controller -/

theorem State.clcUpdate_block (s : State) : BlockStep .clc s s.clcUpdate := by
  unfold State.clcUpdate; split
  · exact BlockStep.refl.clcTo _ _
  · exact BlockStep.refl

theorem State.clcControlExpiry_block (s : State) : BlockStep .clc s s.clcControlExpiry := by
  unfold State.clcControlExpiry; split
  · exact State.clcUpdate_block s
  · exact BlockStep.refl

theorem State.clcMeasure_block (a b c : Int) (s : State) : BlockStep .clc s (s.clcMeasure a b c) := by
  unfold State.clcMeasure; dsimp only; split <;> exact BlockStep.refl.clcTo _ _

theorem State.clcRunOnExpiry_block (s : State) : BlockStep .clc s s.clcRunOnExpiry := by
  unfold State.clcRunOnExpiry; split
  · exact BlockStep.refl.clcTo _ _
  · exact BlockStep.refl

theorem State.clcStep_block (l : LiveStep) (s : State) : BlockStep .clc s (s.clcStep l) := by
  unfold State.clcStep; dsimp only; split <;> exact BlockStep.refl.clcTo _ _

theorem State.clcRun_block (r : RunState) (s : State) : BlockStep .clc s (s.clcRun r) := by
  unfold State.clcRun; dsimp only
  split
  · exact BlockStep.refl.clcTo _ _
  · exact BlockStep.refl.clcTo _ _
  · split <;> exact BlockStep.refl.clcTo _ _
  · exact BlockStep.refl.clcTo _ _

theorem State.clcAdjust_block (sp : Option Int) (h f : Option Nat) (s : State) :
    BlockStep .clc s (s.clcAdjust sp h f) := BlockStep.refl.clcTo _ _

theorem State.clcTrip_block (p : Place) (a : Word) (on : Bool) (s : State) : BlockStep .clc s (s.clcTrip p a on) := by
  unfold State.clcTrip; dsimp only
  split
  · exact BlockStep.refl.clcTo _ _
  · split <;> exact BlockStep.refl.clcTo _ _

theorem State.clcProbe_block (b : Bool) (s : State) : BlockStep .clc s (s.clcProbe b) := BlockStep.refl.clcTo _ _

theorem State.clcVent_block (b : Bool) (s : State) : BlockStep .clc s (s.clcVent b) := by
  unfold State.clcVent; dsimp only
  split
  · exact BlockStep.refl.clcTo _ _
  · split
    · exact BlockStep.refl.clcTo _ _
    · exact BlockStep.refl.clcTo _ _
    · split <;> exact BlockStep.refl.clcTo _ _
    · split
      · exact BlockStep.refl.clcTo _ _
      · exact (BlockStep.refl.post _ _ _).clcTo _ _

theorem State.clcOpenExpiry_block (s : State) : BlockStep .clc s s.clcOpenExpiry := by
  unfold State.clcOpenExpiry; split
  · exact BlockStep.refl.clcTo _ _
  · exact BlockStep.refl

theorem State.clcCloseExpiry_block (s : State) : BlockStep .clc s s.clcCloseExpiry := by
  unfold State.clcCloseExpiry; split
  · exact (BlockStep.refl.post _ _ _).clcTo _ _
  · exact BlockStep.refl

theorem State.clcGenerator_block (g : GenState) (s : State) : BlockStep .clc s (s.clcGenerator g) :=
  BlockStep.refl.clcTo _ _
theorem State.clcDispatch_block (a b : Six Bool) (s : State) : BlockStep .clc s (s.clcDispatch a b) :=
  BlockStep.refl.clcTo _ _
theorem State.clcConfigured_block (r : LoadsRecord) (s : State) : BlockStep .clc s (s.clcConfigured r) :=
  BlockStep.refl.clcTo _ _

/-! ### The load share unit -/

theorem State.lsuElementWant_block (w : Nat) (s : State) : BlockStep .lsu s (s.lsuElementWant w) :=
  BlockStep.refl.lsuInputs _
theorem State.lsuBoilerWant_block (w : Nat) (s : State) : BlockStep .lsu s (s.lsuBoilerWant w) :=
  BlockStep.refl.lsuInputs _
theorem State.lsuFloorClass_block (f c : Nat) (s : State) : BlockStep .lsu s (s.lsuFloorClass f c) :=
  BlockStep.refl.lsuInputs _
theorem State.lsuConfigured_block (s : State) : BlockStep .lsu s s.lsuConfigured := BlockStep.refl.lsuInputs _

theorem State.lsuListenExpiry_block (s : State) : BlockStep .lsu s s.lsuListenExpiry := by
  unfold State.lsuListenExpiry; split
  · exact BlockStep.refl.lsuTo _ _
  · exact BlockStep.refl

theorem State.lsuPeriodExpiry_block (s : State) : BlockStep .lsu s s.lsuPeriodExpiry := by
  unfold State.lsuPeriodExpiry; split
  · exact BlockStep.refl.lsuTo _ _
  · exact BlockStep.refl

theorem State.lsuIntervalExpiry_block (s : State) : BlockStep .lsu s s.lsuIntervalExpiry := by
  unfold State.lsuIntervalExpiry; split
  · exact BlockStep.refl.lsuTo _ _
  · exact BlockStep.refl

theorem State.lsuHoldOffExpiry_block (s : State) : BlockStep .lsu s s.lsuHoldOffExpiry := by
  unfold State.lsuHoldOffExpiry; split
  · exact BlockStep.refl.lsuTo _ _
  · exact BlockStep.refl

theorem State.lsuSent_block (c : Claim) (s : State) : BlockStep .lsu s (s.lsuSent c) := by
  unfold State.lsuSent; split
  · exact BlockStep.refl
  · exact BlockStep.refl
  · exact BlockStep.refl.lsuTo _ _

theorem State.lsuAbandoned_block (s : State) : BlockStep .lsu s s.lsuAbandoned := by
  unfold State.lsuAbandoned; split
  · exact BlockStep.refl
  · exact BlockStep.refl
  · exact BlockStep.refl.lsuTo _ _

theorem State.lsuClaim_block (n : Fin 8) (f w k : Nat) (s : State) : BlockStep .lsu s (s.lsuClaim n f w k) := by
  unfold State.lsuClaim; split
  · dsimp only; split
    · exact (BlockStep.refl.post _ _ _).lsuTo _ _
    · split
      · exact (BlockStep.refl.post _ _ _).lsuTo _ _
      · exact BlockStep.refl.lsuTo _ _
  · exact BlockStep.refl.emit _

theorem State.lsuPeerSilent_block (n : Nat) (s : State) : BlockStep .lsu s (s.lsuPeerSilent n) := by
  unfold State.lsuPeerSilent; split
  · exact BlockStep.refl
  · split
    · exact BlockStep.refl
    · exact (BlockStep.refl.post _ _ _).lsuTo _ _

theorem State.lsuPeerLost_block (n : Nat) (s : State) : BlockStep .lsu s (s.lsuPeerLost n) := by
  unfold State.lsuPeerLost; split
  · exact BlockStep.refl
  · split
    · exact (BlockStep.refl.post _ _ _).lsuTo _ _
    · exact BlockStep.refl

theorem State.lsuLineOk_block (s : State) : BlockStep .lsu s s.lsuLineOk := by
  unfold State.lsuLineOk; split
  · exact BlockStep.refl.lsuTo _ _
  · split
    · exact BlockStep.refl
    · exact (BlockStep.refl.post _ _ _).lsuTo _ _
  · exact BlockStep.refl

theorem State.lsuIsolate_block (n : Nat) (l : Lsu) (s : State) : BlockStep .lsu s (s.lsuIsolate n l) :=
  (BlockStep.refl.post _ _ _).lsuTo _ _

theorem State.lsuLineFault_block (s : State) : BlockStep .lsu s s.lsuLineFault := by
  unfold State.lsuLineFault; split
  · exact BlockStep.refl
  · exact State.lsuIsolate_block _ _ _

theorem State.lsuSilenced_block (s : State) : BlockStep .lsu s s.lsuSilenced := by
  unfold State.lsuSilenced; dsimp only; split
  · exact BlockStep.refl.lsuTo _ _
  · exact State.lsuIsolate_block _ _ _

theorem State.takeReadPeers_block (p : List Byte) (s : State) : BlockStep .lsu s (s.takeReadPeers p) := by
  unfold State.takeReadPeers; split
  · exact BlockStep.refl.refuse _
  · exact BlockStep.refl.answer _ _

/-! ### The steam generator controller -/

theorem State.sgcEntry_block (s : State) : BlockStep .sgc s s.sgcEntry := by
  unfold State.sgcEntry; dsimp only; split
  · split
    · exact BlockStep.refl.sgcTo _
    · exact BlockStep.refl
  · split
    · exact BlockStep.refl.sgcTo _
    · exact BlockStep.refl
  · split
    · exact (BlockStep.refl.sgcTo _).emit _
    · exact BlockStep.refl
  · split
    · split
      · exact BlockStep.refl.sgcTo _
      · exact BlockStep.refl
    · exact BlockStep.refl
  · split
    · exact BlockStep.refl.sgcTo _
    · exact BlockStep.refl
  · exact BlockStep.refl

theorem State.sgcCooking_block (h : Option Nat) (s : State) : BlockStep .sgc s (s.sgcCooking h) :=
  BlockStep.refl.sgcTo _
theorem State.sgcGrant_block (b : Bool) (s : State) : BlockStep .sgc s (s.sgcGrant b) := BlockStep.refl.sgcTo _
theorem State.sgcDrainOrder_block (s : State) : BlockStep .sgc s s.sgcDrainOrder := BlockStep.refl.sgcTo _
theorem State.sgcHigh_block (b c : Bool) (s : State) : BlockStep .sgc s (s.sgcHigh b c) := BlockStep.refl.sgcTo _
theorem State.sgcBoiler_block (t : Int) (s : State) : BlockStep .sgc s (s.sgcBoiler t) := BlockStep.refl.sgcTo _
theorem State.sgcLow_block (a b : Bool) (s : State) : BlockStep .sgc s (s.sgcLow a b) := BlockStep.refl.sgcTo _
theorem State.sgcConfigured_block (r : LoadsRecord) (s : State) : BlockStep .sgc s (s.sgcConfigured r) :=
  BlockStep.refl.sgcTo _

theorem State.sgcProgram_block (r : ProgRequest) (s : State) : BlockStep .sgc s (s.sgcProgram r) := by
  unfold State.sgcProgram; dsimp only; split
  · split
    · exact (BlockStep.refl.sgcTo _).emit _
    · exact BlockStep.refl.sgcTo _
  · exact BlockStep.refl.sgcTo _

theorem State.sgcTank_block (b settled : Bool) (s : State) : BlockStep .sgc s (s.sgcTank b settled) := by
  unfold State.sgcTank; dsimp only; split
  · exact BlockStep.refl.sgcTo _
  · split
    · split <;> exact BlockStep.refl.sgcTo _
    · split <;> exact BlockStep.refl.sgcTo _

theorem State.sgcTrip_block (p : Place) (a : Word) (on : Bool) (s : State) : BlockStep .sgc s (s.sgcTrip p a on) := by
  unfold State.sgcTrip; dsimp only; split
  · split <;> exact BlockStep.refl.sgcTo _
  · split
    · split <;> exact BlockStep.refl.sgcTo _
    · exact BlockStep.refl.sgcTo _

theorem State.sgcFillTimeout_block (s : State) : BlockStep .sgc s s.sgcFillTimeout := by
  unfold State.sgcFillTimeout; dsimp only; split
  · split <;> exact (BlockStep.refl.post _ _ _).sgcTo _
  · exact BlockStep.refl

theorem State.sgcDrainExpiry_block (s : State) : BlockStep .sgc s s.sgcDrainExpiry := by
  unfold State.sgcDrainExpiry; dsimp only; split
  · split
    · exact (BlockStep.refl.post _ _ _).sgcTo _
    · split <;> exact BlockStep.refl.sgcTo _
  · exact BlockStep.refl

theorem State.sgcConfirm_block (s : State) : BlockStep .sgc s s.sgcConfirm := by
  unfold State.sgcConfirm; split
  · exact (BlockStep.refl.sgcTo _).answer _ _
  · exact BlockStep.refl.refuse _

/-! ### The scale and descale unit -/

theorem State.sduRefill_block (s : State) : BlockStep .sdu s s.sduRefill := (BlockStep.refl.postAll _).sduTo _ _
theorem State.sduScan_block (v : KeepValues) (k : ValueSource) (s : State) : BlockStep .sdu s (s.sduScan v k) :=
  BlockStep.refl.sduTo _ _
theorem State.sduComplete_block (s : State) : BlockStep .sdu s s.sduComplete := (BlockStep.refl.post _ _ _).sduTo _ _
theorem State.sduGenerator_block (g : GenState) (s : State) : BlockStep .sdu s (s.sduGenerator g) :=
  BlockStep.refl.sduTo _ _
theorem State.sduTank_block (b : Bool) (s : State) : BlockStep .sdu s (s.sduTank b) := BlockStep.refl.sduTo _ _
theorem State.sduRun_block (r : RunState) (s : State) : BlockStep .sdu s (s.sduRun r) := BlockStep.refl.sduTo _ _
theorem State.sduConfigured_block (r : LoadsRecord) (s : State) : BlockStep .sdu s (s.sduConfigured r) :=
  BlockStep.refl.sduTo _ _

theorem State.sduFillEnded_block (s : State) : BlockStep .sdu s s.sduFillEnded := by
  unfold State.sduFillEnded; split
  · exact BlockStep.refl.sduTo _ _
  · exact BlockStep.refl.sduTo _ _
  · exact BlockStep.refl

theorem State.sduDrainEnded_block (s : State) : BlockStep .sdu s s.sduDrainEnded := by
  unfold State.sduDrainEnded; dsimp only; split
  · exact BlockStep.refl.sduTo _ _
  · split
    · exact BlockStep.refl.sduTo _ _
    · exact (BlockStep.refl.post _ _ _).sduTo _ _
  · split
    · exact BlockStep.refl.sduTo _ _
    · exact State.sduComplete_block s
  · exact BlockStep.refl.sduTo _ _
  · exact BlockStep.refl

theorem State.sduWait_block (b : Bool) (s : State) : BlockStep .sdu s (s.sduWait b) := by
  unfold State.sduWait; dsimp only; split
  · split
    · exact (BlockStep.refl.post _ _ _).sduTo _ _
    · exact (BlockStep.refl.post _ _ _).sduTo _ _
    · exact (BlockStep.refl.post _ _ _).sduTo _ _
    · exact BlockStep.refl
  · split
    · exact BlockStep.refl.sduTo _ _
    · exact BlockStep.refl

theorem State.sduBoiler_block (t : Int) (s : State) : BlockStep .sdu s (s.sduBoiler t) := by
  unfold State.sduBoiler; dsimp only; split <;> exact BlockStep.refl.sduTo _ _

theorem State.sduSoakComplete_block (s : State) : BlockStep .sdu s s.sduSoakComplete := by
  unfold State.sduSoakComplete; split
  · exact BlockStep.refl.sduTo _ _
  · exact BlockStep.refl

theorem State.takeSetHardness_block (p : List Byte) (s : State) : BlockStep .sdu s (s.takeSetHardness p) :=
  (BlockStep.refl.sduTo _ _).answer _ _
theorem State.takeReadScale_block (s : State) : BlockStep .sdu s s.takeReadScale := BlockStep.refl.answer _ _

theorem State.takeDescaleStart_block (s : State) : BlockStep .sdu s s.takeDescaleStart := by
  unfold State.takeDescaleStart; split
  · exact BlockStep.refl.refuse _
  · split
    · exact BlockStep.refl.refuse _
    · exact ((BlockStep.refl.post _ _ _).sduTo _ _).answer _ _

theorem State.takeRinseStart_block (s : State) : BlockStep .sdu s s.takeRinseStart := by
  unfold State.takeRinseStart; split
  · exact BlockStep.refl.refuse _
  · split
    · exact ((BlockStep.refl.post _ _ _).sduTo _ _).answer _ _
    · exact BlockStep.refl.refuse _

theorem State.sduConfirm_block (s : State) : BlockStep .sdu s s.sduConfirm := by
  unfold State.sduConfirm; dsimp only; split
  · exact BlockStep.refl.refuse _
  · split
    · exact (BlockStep.refl.sduTo _ _).answer _ _
    · split
      · exact (BlockStep.refl.sduTo _ _).answer _ _
      · exact BlockStep.refl.refuse _

theorem State.takeDescaleAbort_block (s : State) : BlockStep .sdu s s.takeDescaleAbort := by
  unfold State.takeDescaleAbort; dsimp only; split
  · exact BlockStep.refl.refuse _
  · exact BlockStep.refl.refuse _
  · split <;> exact ((BlockStep.refl.post _ _ _).sduTo _ _).answer _ _

/-! ### The recipe sequencer -/

theorem State.rsqFinish_block (r : EndReason) (s : State) : BlockStep .rsq s (s.rsqFinish r) :=
  (BlockStep.refl.post _ _ _).rsqTo _ _ _ _

theorem State.rsqRunOnEnd_block (s : State) : BlockStep .rsq s s.rsqRunOnEnd := by
  unfold State.rsqRunOnEnd; split
  · exact BlockStep.refl.rsqTo _ _ _ _
  · exact BlockStep.refl

theorem State.rsqStepEnd_block (s : State) : BlockStep .rsq s s.rsqStepEnd := by
  unfold State.rsqStepEnd; split
  · exact BlockStep.refl.rsqTo _ _ _ _
  · exact State.rsqFinish_block _ s

theorem State.rsqActive_block (s : State) : BlockStep .rsq s s.rsqActive := by
  unfold State.rsqActive; dsimp only; split
  · exact (BlockStep.refl.rsqTo _ _ _ _).trans (State.rsqStepEnd_block _)
  · exact BlockStep.refl.rsqTo _ _ _ _

theorem State.rsqPromptOrActive_block (l : LiveStep) (s : State) : BlockStep .rsq s (s.rsqPromptOrActive l) := by
  unfold State.rsqPromptOrActive; split
  · exact State.rsqActive_block s
  · exact (BlockStep.refl.post _ _ _).rsqTo _ _ _ _

theorem State.rsqPreheatTest_block (s : State) : BlockStep .rsq s s.rsqPreheatTest := by
  unfold State.rsqPreheatTest; split
  · split
    · exact (BlockStep.refl.post _ _ _).trans (State.rsqPromptOrActive_block _ _)
    · exact BlockStep.refl
  · exact BlockStep.refl

theorem State.rsqDecide_block (l : LiveStep) (s : State) : BlockStep .rsq s (s.rsqDecide l) := by
  unfold State.rsqDecide; split
  · exact (BlockStep.refl.rsqTo _ _ _ _).trans (State.rsqPreheatTest_block _)
  · exact State.rsqPromptOrActive_block _ s

theorem State.rsqReasons_block (r : Reasons) (s : State) : BlockStep .rsq s (s.rsqReasons r) := by
  unfold State.rsqReasons; dsimp only; split
  · exact BlockStep.refl
  · split
    · exact (BlockStep.refl.post _ _ _).rsqTo _ _ _ _
    · split
      · exact (BlockStep.refl.post _ _ _).rsqTo _ _ _ _
      · exact BlockStep.refl.rsqTo _ _ _ _

theorem State.rsqResumed_block (s : State) : BlockStep .rsq s s.rsqResumed := by
  unfold State.rsqResumed; split
  · split
    · split
      · exact State.rsqStepEnd_block s
      · exact BlockStep.refl
    · exact State.rsqPreheatTest_block s
  · exact BlockStep.refl

theorem State.rsqProbePrompt_block (s : State) : BlockStep .rsq s s.rsqProbePrompt :=
  (BlockStep.refl.post _ _ _).trans (State.rsqReasons_block _ _)

theorem State.rsqProbe_block (b : Bool) (s : State) : BlockStep .rsq s (s.rsqProbe b) := by
  unfold State.rsqProbe; dsimp only; split
  · split
    · exact ((BlockStep.refl.rsqTo _ _ _ _).trans (State.rsqReasons_block _ _)).emit _
    · exact BlockStep.refl.rsqTo _ _ _ _
  · split
    · exact (BlockStep.refl.rsqTo _ _ _ _).trans (State.rsqProbePrompt_block _)
    · exact BlockStep.refl.rsqTo _ _ _ _

theorem State.rsqEntry_block (s : State) : BlockStep .rsq s s.rsqEntry := by
  unfold State.rsqEntry; split
  · split
    · exact State.rsqDecide_block _ s
    · exact BlockStep.refl
  · exact BlockStep.refl

theorem State.rsqEnter_block (l : LiveStep) (s : State) : BlockStep .rsq s (s.rsqEnter l) := by
  unfold State.rsqEnter; split
  · exact State.rsqProbePrompt_block s
  · exact State.rsqDecide_block _ s

theorem State.rsqBegin_block (r : RawStep) (s : State) : BlockStep .rsq s (s.rsqBegin r) := by
  unfold State.rsqBegin; split
  · split
    · exact BlockStep.refl.rsqTo _ _ _ _
    · exact BlockStep.refl
  · exact BlockStep.refl

theorem State.rsqBegun_block (s : State) : BlockStep .rsq s s.rsqBegun := by
  unfold State.rsqBegun; split
  · exact BlockStep.refl
  · rename_i l _
    split
    · exact BlockStep.refl
    · by_cases hk : l.endKind.isCore = true
      · simp only [hk, if_true]
        exact (BlockStep.refl.post _ _ _).trans (State.rsqEnter_block _ _)
      · simp only [hk]
        have h : BlockStep .rsq s (s.rsqReasons { s.rsq.reasons with probe := false }) := State.rsqReasons_block _ s
        exact (h.post _ _ _).trans (State.rsqEnter_block _ _)

theorem State.rsqStart_block (r : Rsq) (after : List Signal) (s : State) : BlockStep .rsq s (s.rsqStart r after) :=
  (BlockStep.refl.postAll _).rsqTo _ _ _ _

theorem State.takeStartManual_block (p : List Byte) (s : State) : BlockStep .rsq s (s.takeStartManual p) := by
  unfold State.takeStartManual; split
  · exact BlockStep.refl.refuse _
  · split
    · exact BlockStep.refl.refuse _
    · split
      · exact BlockStep.refl.refuse _
      · exact BlockStep.refl.refuse _
      · exact (State.rsqStart_block _ _ s).answer _ _

theorem State.takeRunRecipe_block (p : List Byte) (s : State) : BlockStep .rsq s (s.takeRunRecipe p) := by
  unfold State.takeRunRecipe; dsimp only; split
  · exact BlockStep.refl.refuse _
  · split
    · exact BlockStep.refl.rsqTo _ _ _ _
    · exact BlockStep.refl.refuse _

theorem State.rsqStartRead_block (ws : List Word) (s : State) : BlockStep .rsq s (s.rsqStartRead ws) := by
  unfold State.rsqStartRead; split
  · exact BlockStep.refl
  · dsimp only; split
    · exact (BlockStep.refl.setRsq _).refuse _
    · split
      · exact (BlockStep.refl.setRsq _).refuse _
      · split
        · exact (BlockStep.refl.setRsq _).refuse _
        · exact ((BlockStep.refl.setRsq _).trans (State.rsqStart_block _ _ _)).answer _ _

theorem State.rsqStepRead_block (ws : List Word) (s : State) : BlockStep .rsq s (s.rsqStepRead ws) := by
  unfold State.rsqStepRead; split
  · split
    · exact State.rsqBegin_block _ s
    · exact BlockStep.refl
  · exact BlockStep.refl

theorem State.rsqPreheat_block (b : Bool) (s : State) : BlockStep .rsq s (s.rsqPreheat b) :=
  (BlockStep.refl.rsqTo _ _ _ _).trans (State.rsqPreheatTest_block _)

theorem State.rsqCore_block (c : Option Int) (s : State) : BlockStep .rsq s (s.rsqCore c) := by
  unfold State.rsqCore; dsimp only; split
  · exact (BlockStep.refl.rsqTo _ _ _ _).trans (State.rsqStepEnd_block _)
  · exact BlockStep.refl.rsqTo _ _ _ _

theorem State.rsqTrip_block (p : Place) (a : Word) (on : Bool) (s : State) : BlockStep .rsq s (s.rsqTrip p a on) := by
  unfold State.rsqTrip; dsimp only; split
  · split
    · exact (BlockStep.refl.setRsq _).trans (State.rsqFinish_block _ _)
    · exact (BlockStep.refl.setRsq _).trans (State.rsqReasons_block _ _)
  · exact BlockStep.refl.setRsq _

theorem State.rsqTank_block (b : Bool) (s : State) : BlockStep .rsq s (s.rsqTank b) :=
  (BlockStep.refl.setRsq _).trans (State.rsqReasons_block _ _)
theorem State.rsqLocks_block (a b : Bool) (s : State) : BlockStep .rsq s (s.rsqLocks a b) := BlockStep.refl.setRsq _
theorem State.rsqDescale_block (b : Bool) (s : State) : BlockStep .rsq s (s.rsqDescale b) := BlockStep.refl.setRsq _
theorem State.rsqConfigured_block (r : LoadsRecord) (s : State) : BlockStep .rsq s (s.rsqConfigured r) :=
  BlockStep.refl.setRsq _

theorem State.rsqStepTimeEnd_block (s : State) : BlockStep .rsq s s.rsqStepTimeEnd := by
  unfold State.rsqStepTimeEnd; split
  · split
    · exact (BlockStep.refl.setRsq _).trans (State.rsqStepEnd_block _)
    · exact BlockStep.refl
  · exact BlockStep.refl

theorem State.rsqPauseExpiry_block (s : State) : BlockStep .rsq s s.rsqPauseExpiry := by
  unfold State.rsqPauseExpiry; split
  · exact State.rsqFinish_block _ s
  · exact BlockStep.refl

theorem State.rsqRunCap_block (s : State) : BlockStep .rsq s s.rsqRunCap := by
  unfold State.rsqRunCap; split
  · exact (BlockStep.refl.setRsq _).trans (State.rsqFinish_block _ _)
  · exact BlockStep.refl

theorem State.takeAdjust_block (p : List Byte) (s : State) : BlockStep .rsq s (s.takeAdjust p) := by
  unfold State.takeAdjust; split
  · exact BlockStep.refl.refuse _
  · exact BlockStep.refl.refuse _
  · exact BlockStep.refl.refuse _
  · split
    · exact BlockStep.refl.refuse _
    · split
      · exact BlockStep.refl.refuse _
      · exact (BlockStep.refl.rsqTo _ _ _ _).answer _ _

theorem State.takePause_block (s : State) : BlockStep .rsq s s.takePause := by
  unfold State.takePause; split
  · exact (State.rsqReasons_block _ s).answer _ _
  · exact BlockStep.refl.refuse _

theorem State.takeResume_block (s : State) : BlockStep .rsq s s.takeResume := by
  unfold State.takeResume; split
  · exact (State.rsqReasons_block _ s).answer _ _
  · exact BlockStep.refl.refuse _

theorem State.takeSkipStep_block (s : State) : BlockStep .rsq s s.takeSkipStep := by
  unfold State.takeSkipStep; split
  · exact BlockStep.refl.refuse _
  · split
    · exact BlockStep.refl.refuse _
    · exact (State.rsqStepEnd_block s).answer _ _

theorem State.takeStop_block (s : State) : BlockStep .rsq s s.takeStop := by
  unfold State.takeStop; split
  · exact (State.rsqFinish_block _ s).answer _ _
  · exact BlockStep.refl.refuse _

theorem State.rsqConfirm_block (s : State) : BlockStep .rsq s s.rsqConfirm := by
  unfold State.rsqConfirm; split
  · exact (State.rsqActive_block s).answer _ _
  · split
    · split
      · exact (State.rsqStepEnd_block s).answer _ _
      · exact BlockStep.refl.refuse _
    · exact BlockStep.refl.refuse _

/-! ### The store controller -/

theorem State.storeDone_block (r : StoreRequest) (s : State) : BlockStep .stc s (s.storeDone r) := by
  unfold State.storeDone; dsimp only; split
  · exact (BlockStep.refl.setStc _).answer _ _
  · exact (BlockStep.refl.setStc _).answer _ _
  · exact (BlockStep.refl.setStc _).answer _ _
  · exact (BlockStep.refl.setStc _).answer _ _
  · exact BlockStep.refl.setStc _
  · exact BlockStep.refl

theorem State.storeFailed_block (r : StoreRequest) (w : Option Nat) (s : State) : BlockStep .stc s (s.storeFailed r w) := by
  unfold State.storeFailed; dsimp only; split
  · exact (BlockStep.refl.setStc _).refuse _
  · exact (BlockStep.refl.setStc _).refuse _
  · split
    · exact BlockStep.refl.post _ _ _
    · exact (BlockStep.refl.post _ _ _).setStc _
  · exact BlockStep.refl.refuse _

theorem State.serve_block (r : StoreRequest) (s : State) : BlockStep .stc s (s.serve r) := by
  unfold State.serve; dsimp only; split
  · exact BlockStep.refl.setStc _
  · split
    · exact BlockStep.refl.setStc _
    · exact BlockStep.refl.refuse _
  · split
    · split
      · exact BlockStep.refl.setStc _
      · exact (BlockStep.refl.setStc _).refuse _
    · exact BlockStep.refl.refuse _
  · exact BlockStep.refl.setStc _
  · exact BlockStep.refl.answer _ _
  · exact BlockStep.refl.answer _ _
  · exact BlockStep.refl.setStc _
  · exact BlockStep.refl.setStc _
  · split <;> exact BlockStep.refl.setStc _

theorem State.serveNext_block (s : State) : BlockStep .stc s s.serveNext := by
  unfold State.serveNext; split
  · exact BlockStep.refl
  · exact (BlockStep.refl.setStc _).trans (State.serve_block _ _)

theorem State.stcRequest_block (r : StoreRequest) (s : State) : BlockStep .stc s (s.stcRequest r) := by
  unfold State.stcRequest; split
  · exact State.serve_block _ s
  · exact BlockStep.refl.setStc _

theorem State.storeOperationComplete_block (kept : List (Nat × Word)) (s : State) :
    BlockStep .stc s (s.storeOperationComplete kept) := by
  unfold State.storeOperationComplete; split
  · exact BlockStep.refl
  · dsimp only; split
    · split
      · exact BlockStep.refl.setStc _
      · exact ((BlockStep.refl.setStc _).trans (State.storeDone_block _ _)).trans (State.serveNext_block _)
    · split
      · exact ((BlockStep.refl.setStc _).trans (State.storeFailed_block _ _ _)).trans (State.serveNext_block _)
      · exact BlockStep.refl.setStc _

theorem State.stcScan_block (s : State) : BlockStep .stc s s.stcScan := by
  unfold State.stcScan; split
  · exact BlockStep.refl
  · dsimp only; split
    · exact (BlockStep.refl.setStc _).emit _
    · exact ((BlockStep.refl.setStc _).post _ _ _).emit _

theorem State.takeStoreOpen_block (p : List Byte) (s : State) : BlockStep .stc s (s.takeStoreOpen p) := by
  unfold State.takeStoreOpen; dsimp only; split
  · exact BlockStep.refl.refuse _
  · split
    · exact BlockStep.refl.refuse _
    · split
      · exact BlockStep.refl.refuse _
      · exact State.stcRequest_block _ s

theorem State.refuseStoreWrite_block (r : Result) (s : State) : BlockStep .stc s (s.refuseStoreWrite r) :=
  (BlockStep.refl.setStc _).refuse _

theorem State.takeStoreWrite_block (p : List Byte) (s : State) : BlockStep .stc s (s.takeStoreWrite p) := by
  unfold State.takeStoreWrite; dsimp only; split
  · exact BlockStep.refl.refuse _
  · split
    · exact State.refuseStoreWrite_block _ s
    · exact (BlockStep.refl.setStc _).trans (State.stcRequest_block _ _)

theorem State.takeStoreClose_block (p : List Byte) (s : State) : BlockStep .stc s (s.takeStoreClose p) := by
  unfold State.takeStoreClose; split
  · exact BlockStep.refl.refuse _
  · exact (BlockStep.refl.setStc _).trans (State.stcRequest_block _ _)

theorem State.takeStoreErase_block (p : List Byte) (s : State) : BlockStep .stc s (s.takeStoreErase p) := by
  unfold State.takeStoreErase; dsimp only; split
  · exact BlockStep.refl.refuse _
  · split
    · exact BlockStep.refl.refuse _
    · exact State.stcRequest_block _ s

theorem State.takeStoreRead_block (p : List Byte) (s : State) : BlockStep .stc s (s.takeStoreRead p) := by
  unfold State.takeStoreRead; dsimp only; split
  · exact BlockStep.refl.refuse _
  · exact State.stcRequest_block _ s

theorem State.takeStoreList_block (s : State) : BlockStep .stc s s.takeStoreList := State.stcRequest_block _ s

theorem State.storeAbandon_block (s : State) : BlockStep .stc s s.storeAbandon := by
  unfold State.storeAbandon; split
  · exact BlockStep.refl
  · split
    · exact BlockStep.refl
    · exact (BlockStep.refl.post _ _ _).setStc _

/-! ### The interlock unit -/

theorem State.tripSet_block (p : Place) (s : State) : BlockStep .ilu s (s.tripSet p) :=
  ((BlockStep.refl.post _ _ _).setIlu _).emit _
theorem State.tripCleared_block (p : Place) (c : Bool) (s : State) : BlockStep .ilu s (s.tripCleared p c) :=
  ((BlockStep.refl.post _ _ _).setIlu _).emit _

theorem State.evaluate_block (p : Place) (s : State) : BlockStep .ilu s (s.evaluate p) := by
  unfold State.evaluate; dsimp only; split
  · exact BlockStep.refl
  · split
    · exact BlockStep.refl.setIlu _
    · split
      · split
        · exact BlockStep.refl.setIlu _
        · split
          · exact (BlockStep.refl.setIlu _).trans (State.tripSet_block _ _)
          · exact BlockStep.refl.setIlu _
      · split
        · exact (BlockStep.refl.setIlu _).trans (State.tripCleared_block _ _ _)
        · exact BlockStep.refl.setIlu _

theorem State.iluTo_block (i : Ilu) (s : State) : BlockStep .ilu s (s.iluTo i) := by
  have h : ∀ (ps : List Place) (t : State), BlockStep .ilu s t → BlockStep .ilu s (ps.foldl (fun s p => s.evaluate p) t) := by
    intro ps
    induction ps with
    | nil => exact fun _ h => h
    | cons p rest ih => exact fun t h => ih _ (h.trans (State.evaluate_block p t))
  exact h _ _ (BlockStep.refl.setIlu i)

theorem State.iluSample_block (pins : Inputs Bool) (s : State) : BlockStep .ilu s (s.iluSample pins) :=
  (BlockStep.refl.emit _).trans (State.iluTo_block _ _)
theorem State.iluClimate_block (t b : Int) (f : Bool) (s : State) : BlockStep .ilu s (s.iluClimate t b f) :=
  State.iluTo_block _ s
theorem State.iluRun_block (r : RunState) (s : State) : BlockStep .ilu s (s.iluRun r) := State.iluTo_block _ s
theorem State.iluGenerator_block (g : GenState) (s : State) : BlockStep .ilu s (s.iluGenerator g) := State.iluTo_block _ s
theorem State.iluDescale_block (b : Bool) (s : State) : BlockStep .ilu s (s.iluDescale b) := State.iluTo_block _ s
theorem State.iluFan_block (n : Nat) (s : State) : BlockStep .ilu s (s.iluFan n) := State.iluTo_block _ s
theorem State.iluHeat_block (b : Bool) (s : State) : BlockStep .ilu s (s.iluHeat b) := State.iluTo_block _ s
theorem State.iluConfigured_block (s : State) : BlockStep .ilu s s.iluConfigured := State.iluTo_block _ s

theorem State.iluPersistence_block (p : Place) (s : State) : BlockStep .ilu s (s.iluPersistence p) := by
  unfold State.iluPersistence; dsimp only; split
  · exact State.tripSet_block _ s
  · exact BlockStep.refl

theorem State.takeConfigTerm_block (p : List Byte) (s : State) : BlockStep .ilu s (s.takeConfigTerm p) := by
  unfold State.takeConfigTerm; split
  · exact BlockStep.refl.refuse _
  · exact (BlockStep.refl.setIlu _).answer _ _

theorem State.takeClearTrip_block (p : List Byte) (s : State) : BlockStep .ilu s (s.takeClearTrip p) := by
  unfold State.takeClearTrip; dsimp only; split
  · split
    · exact BlockStep.refl.refuse _
    · split
      · exact BlockStep.refl.refuse _
      · exact (State.tripCleared_block _ _ s).answer _ _
  · exact BlockStep.refl.refuse _

/-! ### The share line controller -/

theorem State.enterSilenced_block (s : State) : BlockStep .slc s s.enterSilenced :=
  ((BlockStep.refl.post _ _ _).setSlc _).emit _

theorem State.slcConflict_block (s : State) : BlockStep .slc s s.slcConflict := by
  unfold State.slcConflict; dsimp only; split
  · exact (BlockStep.refl.setSlc _).trans (State.enterSilenced_block _)
  · exact BlockStep.refl.setSlc _

theorem State.slcCheckError_block (s : State) : BlockStep .slc s s.slcCheckError := BlockStep.refl.setSlc _

theorem State.receptionFault_block (f : ReceptionFault) (s : State) : BlockStep .slc s (s.receptionFault f) := by
  cases f
  · exact State.slcCheckError_block s
  · exact State.slcCheckError_block s
  · exact State.slcCheckError_block s
  · exact BlockStep.refl.setSlc _

theorem State.enterLineFault_block (s : State) : BlockStep .slc s s.enterLineFault :=
  ((BlockStep.refl.post _ _ _).setSlc _).emit _

theorem State.enterLineOk_block (s : State) : BlockStep .slc s s.enterLineOk := by
  unfold State.enterLineOk; split
  · exact ((BlockStep.refl.post _ _ _).setSlc _).emit _
  · exact (BlockStep.refl.setSlc _).emit _

theorem State.countsReached_block (s : State) : BlockStep .slc s s.countsReached := by
  unfold State.countsReached; dsimp only; split
  · exact State.enterLineFault_block s
  · split
    · exact State.enterLineOk_block s
    · exact BlockStep.refl.setSlc _

theorem State.passCell_block (c : Level) (s : State) : BlockStep .slc s (s.passCell c) :=
  (BlockStep.refl.setSlc _).trans (State.countsReached_block _)

theorem State.hearCell_block (c : Level) (s : State) : BlockStep .slc s (s.hearCell c).1 :=
  (BlockStep.refl.setSlc _).trans (State.countsReached_block _)

theorem State.examined_block (f : Frame) (others : Level) (s : State) : BlockStep .slc s (s.examined f others) := by
  unfold State.examined; dsimp only; split
  · exact (State.passCell_block _ s).trans (State.slcConflict_block _)
  · exact (State.passCell_block _ s).trans (State.slcCheckError_block _)
  · exact (State.passCell_block _ s).emit _
  · exact (State.passCell_block _ s).emit _
  · exact State.passCell_block _ s

theorem State.hear_block (frame : List Byte → Option Frame) (cells : List Level) (s : State) :
    BlockStep .slc s (State.hear frame cells s s) :=
  State.hear_keeps (P := BlockStep .slc s) frame (fun c _ h => h.trans (State.hearCell_block c _))
    (fun e _ h => h.trans (State.receptionFault_block e _)) (fun f ack _ _ _ h => h.trans (State.examined_block f ack _))
    cells s s BlockStep.refl BlockStep.refl

theorem State.receive_block (f : Frame) (others : Level) (s : State) : BlockStep .slc s (s.receive f others) := by
  unfold State.receive; split
  · exact BlockStep.refl
  · exact State.hear_block _ _ s

theorem State.slcReceptionError_block (cells : List Level) (s : State) : BlockStep .slc s (s.slcReceptionError cells) := by
  unfold State.slcReceptionError; split
  · exact BlockStep.refl
  · exact State.hear_block _ _ s

theorem State.slcStart_block (s : State) : BlockStep .slc s s.slcStart := by
  unfold State.slcStart; dsimp only; split
  · split
    · exact BlockStep.refl.setSlc _
    · exact BlockStep.refl
  · exact BlockStep.refl

theorem State.slcLoss_block (bit : Fin 5) (s : State) : BlockStep .slc s (s.slcLoss bit) := by
  unfold State.slcLoss; split
  · dsimp only; split
    · exact BlockStep.refl.setSlc _
    · exact BlockStep.refl
  · exact BlockStep.refl

theorem State.slcMismatch_block (cell : Nat) (s : State) : BlockStep .slc s (s.slcMismatch cell) := by
  unfold State.slcMismatch; split
  · split
    · exact ((BlockStep.refl.setSlc _).emit _).trans (State.slcConflict_block _)
    · exact BlockStep.refl
  · exact BlockStep.refl

theorem State.slcAcknowledge_block (d : Level) (s : State) : BlockStep .slc s (s.slcAcknowledge d) := by
  unfold State.slcAcknowledge; split
  · dsimp only; split
    · exact (BlockStep.refl.setSlc _).emit _
    · exact BlockStep.refl.setSlc _
    · exact (BlockStep.refl.setSlc _).emit _
  · exact BlockStep.refl

theorem State.slcLineFault_block (s : State) : BlockStep .slc s s.slcLineFault := by
  unfold State.slcLineFault; split
  · exact (BlockStep.refl.setSlc _).trans (State.enterLineFault_block _)
  · exact BlockStep.refl

theorem State.slcLineRestored_block (s : State) : BlockStep .slc s s.slcLineRestored := by
  unfold State.slcLineRestored; split
  · exact (BlockStep.refl.setSlc _).trans (State.enterLineOk_block _)
  · exact BlockStep.refl

theorem State.slcFirstGap_block (s : State) : BlockStep .slc s s.slcFirstGap := by
  unfold State.slcFirstGap; split
  · exact (BlockStep.refl.setSlc _).trans (State.enterLineOk_block _)
  · exact BlockStep.refl

theorem State.slcClaim_block (c : Claim) (s : State) : BlockStep .slc s (s.slcClaim c) := by
  unfold State.slcClaim; split
  · exact BlockStep.refl
  · exact BlockStep.refl.setSlc _

theorem State.slcStatus_block (p : List Byte) (s : State) : BlockStep .slc s (s.slcStatus p) := by
  unfold State.slcStatus; split
  · exact BlockStep.refl
  · exact BlockStep.refl.setSlc _

theorem State.slcAnswer_block (a : Answer) (s : State) : BlockStep .slc s (s.slcAnswer a) := by
  unfold State.slcAnswer; split
  · exact BlockStep.refl.emit _
  · split
    · exact BlockStep.refl
    · exact BlockStep.refl.setSlc _

theorem State.takeReadLineCounts_block (s : State) : BlockStep .slc s s.takeReadLineCounts := BlockStep.refl.answer _ _

/-! ### The command handler, but for the commands it routes -/

theorem State.hand_block (a : Answer) (s : State) : BlockStep .cmh s (s.hand a) := (BlockStep.refl.setCmh _).emit _

theorem State.produce_block (a : Answer) (more : List Answer) (s : State) : BlockStep .cmh s (s.produce a more) := by
  unfold State.produce; split
  · exact (BlockStep.refl.setCmh _).trans (State.hand_block _ _)
  · exact BlockStep.refl.setCmh _

theorem State.cmhAnswer_block (r : Result) (d : List Byte) (s : State) : BlockStep .cmh s (s.cmhAnswer r d) := by
  unfold State.cmhAnswer; split
  · exact BlockStep.refl
  · exact State.produce_block _ _ s

theorem State.cmhSlotEmpty_block (s : State) : BlockStep .cmh s s.cmhSlotEmpty := by
  unfold State.cmhSlotEmpty; split
  · exact BlockStep.refl
  · exact BlockStep.refl.setCmh _

theorem State.answerHandover_block (s : State) : BlockStep .cmh s s.answerHandover := by
  unfold State.answerHandover; split
  · exact BlockStep.refl
  · exact (BlockStep.refl.setCmh _).trans (State.hand_block _ _)

theorem State.nextFrame_block (s : State) : BlockStep .cmh s s.nextFrame := by
  unfold State.nextFrame; split
  · exact BlockStep.refl
  · exact (BlockStep.refl.setCmh _).trans (State.hand_block _ _)

theorem State.takeConfigLoads_block (p : List Byte) (s : State) : BlockStep .cmh s (s.takeConfigLoads p) := by
  unfold State.takeConfigLoads; split
  · exact BlockStep.refl.refuse _
  · exact (BlockStep.refl.setCmh _).answer _ _

theorem State.takeConfigDone_block (s : State) : BlockStep .cmh s s.takeConfigDone := by
  unfold State.takeConfigDone; split
  · exact BlockStep.refl.refuse _
  · exact BlockStep.refl.setCmh _

theorem State.configure_block (s : State) : BlockStep .cmh s s.configure := by
  unfold State.configure; split
  · exact BlockStep.refl
  · exact ((BlockStep.refl.setCmh _).emit _).answer _ _

theorem State.takeRestart_block (s : State) : BlockStep .cmh s s.takeRestart := BlockStep.refl.answer _ _

theorem State.fillStatus_block (s : State) : BlockStep .cmh s s.fillStatus := (BlockStep.refl.setCmh _).emit _

theorem State.cmhRunState_block (s : State) : BlockStep .cmh s s.cmhRunState := by
  unfold State.cmhRunState; split
  · exact BlockStep.refl.setCmh _
  · exact State.fillStatus_block s

theorem State.statusInterval_block (s : State) : BlockStep .cmh s s.statusInterval := by
  unfold State.statusInterval; split
  · dsimp only; split
    · exact (BlockStep.refl.setCmh _).trans (State.fillStatus_block _)
    · exact BlockStep.refl.setCmh _
  · exact BlockStep.refl

/-! ### Every delivery -/

/-- The block that takes a delivery. A command taken by the CMH goes on to the block of Table 10-2. -/
def Signal.block : Signal → Block
  | .dspDemands _ | .dspBoiler _ | .dspLimit _ | .dspFan _ | .dspLow _ _ | .dspTrip _ _ _ | .dspConfigured _ => .dsp
  | .clcDispatch _ _ | .clcRun _ | .clcStep _ | .clcUpdate | .clcAdjust _ _ _ | .clcTrip _ _ _ | .clcProbe _ _
  | .clcVent _ _ | .clcGenerator _ | .clcConfigured _ => .clc
  | .iluClimate _ _ _ | .iluRun _ | .iluGenerator _ | .iluDescale _ | .iluFan _ | .iluHeat _ | .iluConfigured => .ilu
  | .sgcCooking _ | .sgcGrant _ | .sgcProgram _ | .sgcDrainOrder | .sgcTank _ _ | .sgcLow _ _ | .sgcHigh _ _
  | .sgcBoiler _ | .sgcTrip _ _ _ | .sgcConfigured _ | .sgcEntry => .sgc
  | .sduRefill | .sduFillEnded | .sduDrainEnded | .sduWait _ | .sduGenerator _ | .sduBoiler _ | .sduTank _ _ | .sduRun _
  | .sduConfigured _ | .sduScan _ _ => .sdu
  | .rsqPreheat _ | .rsqCore _ | .rsqProbe _ _ | .rsqTrip _ _ _ | .rsqTank _ | .rsqRunOnEnd | .rsqLocks _ _
  | .rsqDescale _ | .rsqConfigured _ | .rsqResumed | .rsqBegin _ | .rsqBegun | .rsqEntry => .rsq
  | .lsuElementWant _ | .lsuBoilerWant _ | .lsuFloorClass _ _ | .lsuConfigured | .lsuClaim _ _ _ _ | .lsuSent _
  | .lsuAbandoned | .lsuLineOk | .lsuLineFault | .lsuSilenced => .lsu
  | .slcClaim _ | .slcAnswer _ | .slcStatus _ | .slcCheckError => .slc
  | .stcRequest _ => .stc
  | .cmhCommand _ | .cmhAnswer _ _ | .cmhSlotEmpty | .cmhRunState => .cmh

/-- A delivery is a command for the CMH to decode. -/
def Signal.isCommand : Signal → Bool
  | .cmhCommand _ => true
  | _ => false

/-- The frame of every delivery but a command: the block that takes it changes its own component only. -/
theorem handle_block (sig : Signal) (h : sig.isCommand = false) (s : State) : BlockStep sig.block s (handle sig s) := by
  cases sig with
  | dspDemands d => exact State.dspDemands_block d s
  | dspBoiler d => exact State.dspBoiler_block d s
  | dspLimit l => exact State.dspLimit_block l s
  | dspFan l => exact State.dspFan_block l s
  | dspLow c _ => exact State.dspLow_block c s
  | dspTrip p a on => exact State.dspTrip_block p a on s
  | dspConfigured r => exact State.dspConfigured_block r s
  | clcDispatch a b => exact State.clcDispatch_block a b s
  | clcRun r => exact State.clcRun_block r s
  | clcStep l => exact State.clcStep_block l s
  | clcUpdate => exact State.clcUpdate_block s
  | clcAdjust a b c => exact State.clcAdjust_block a b c s
  | clcTrip p a on => exact State.clcTrip_block p a on s
  | clcProbe b _ => exact State.clcProbe_block b s
  | clcVent b _ => exact State.clcVent_block b s
  | clcGenerator g => exact State.clcGenerator_block g s
  | clcConfigured r => exact State.clcConfigured_block r s
  | iluClimate t b f => exact State.iluClimate_block t b f s
  | iluRun r => exact State.iluRun_block r s
  | iluGenerator g => exact State.iluGenerator_block g s
  | iluDescale b => exact State.iluDescale_block b s
  | iluFan n => exact State.iluFan_block n s
  | iluHeat b => exact State.iluHeat_block b s
  | iluConfigured => exact State.iluConfigured_block s
  | sgcCooking v => exact State.sgcCooking_block v s
  | sgcGrant b => exact State.sgcGrant_block b s
  | sgcProgram r => exact State.sgcProgram_block r s
  | sgcDrainOrder => exact State.sgcDrainOrder_block s
  | sgcTank b c => exact State.sgcTank_block b c s
  | sgcLow a b => exact State.sgcLow_block a b s
  | sgcHigh b c => exact State.sgcHigh_block b c s
  | sgcBoiler t => exact State.sgcBoiler_block t s
  | sgcTrip p a on => exact State.sgcTrip_block p a on s
  | sgcConfigured r => exact State.sgcConfigured_block r s
  | sgcEntry => exact State.sgcEntry_block s
  | sduRefill => exact State.sduRefill_block s
  | sduFillEnded => exact State.sduFillEnded_block s
  | sduDrainEnded => exact State.sduDrainEnded_block s
  | sduWait b => exact State.sduWait_block b s
  | sduGenerator g => exact State.sduGenerator_block g s
  | sduBoiler t => exact State.sduBoiler_block t s
  | sduTank b _ => exact State.sduTank_block b s
  | sduRun r => exact State.sduRun_block r s
  | sduConfigured r => exact State.sduConfigured_block r s
  | sduScan v k => exact State.sduScan_block v k s
  | rsqPreheat b => exact State.rsqPreheat_block b s
  | rsqCore c => exact State.rsqCore_block c s
  | rsqProbe b _ => exact State.rsqProbe_block b s
  | rsqTrip p a on => exact State.rsqTrip_block p a on s
  | rsqTank b => exact State.rsqTank_block b s
  | rsqRunOnEnd => exact State.rsqRunOnEnd_block s
  | rsqLocks a b => exact State.rsqLocks_block a b s
  | rsqDescale b => exact State.rsqDescale_block b s
  | rsqConfigured r => exact State.rsqConfigured_block r s
  | rsqResumed => exact State.rsqResumed_block s
  | rsqBegin r => exact State.rsqBegin_block r s
  | rsqBegun => exact State.rsqBegun_block s
  | rsqEntry => exact State.rsqEntry_block s
  | lsuElementWant w => exact State.lsuElementWant_block w s
  | lsuBoilerWant w => exact State.lsuBoilerWant_block w s
  | lsuFloorClass f c => exact State.lsuFloorClass_block f c s
  | lsuConfigured => exact State.lsuConfigured_block s
  | lsuClaim n f w k => exact State.lsuClaim_block n f w k s
  | lsuSent c => exact State.lsuSent_block c s
  | lsuAbandoned => exact State.lsuAbandoned_block s
  | lsuLineOk => exact State.lsuLineOk_block s
  | lsuLineFault => exact State.lsuLineFault_block s
  | lsuSilenced => exact State.lsuSilenced_block s
  | slcClaim c => exact State.slcClaim_block c s
  | slcAnswer a => exact State.slcAnswer_block a s
  | slcStatus p => exact State.slcStatus_block p s
  | slcCheckError => exact State.slcCheckError_block s
  | stcRequest r => exact State.stcRequest_block r s
  | cmhAnswer r d => exact State.cmhAnswer_block r d s
  | cmhSlotEmpty => exact State.cmhSlotEmpty_block s
  | cmhRunState => exact State.cmhRunState_block s
  | cmhCommand c => simp [Signal.isCommand] at h

end Sys2Proof.Machine
end

