-- ==== Sys2Proof/Laws/Memory.lean ====
section
/-! SUPPORT. The nonvolatile memory: its canonical form is kept, and a read after a write. -/

namespace Sys2Proof.Machine

/-- Every entry lies above an address. -/
def Mem.above (a : Nat) (m : List MemCell) : Prop := ∀ c ∈ m, a < c.1

theorem Mem.wf_cons {a : Nat} {w : Word} {m : List MemCell} :
    Mem.wf ((a, w) :: m) = true ↔ a < memWords ∧ w ≠ erasedWord ∧ Mem.above a m ∧ Mem.wf m = true := by
  induction m generalizing a w with
  | nil => simp [Mem.wf, Mem.above]
  | cons c rest ih =>
    obtain ⟨b, v⟩ := c
    constructor
    · intro h
      simp only [Mem.wf, Bool.and_eq_true, decide_eq_true_eq, bne_iff_ne, ne_eq] at h
      obtain ⟨⟨⟨h1, h2⟩, h3⟩, h4⟩ := h
      have h5 : Mem.wf ((b, v) :: rest) = true := by simpa [Mem.wf] using h4
      refine ⟨h1, h2, ?_, h5⟩
      intro c hc
      rcases List.mem_cons.mp hc with rfl | hc
      · exact h3
      · exact lt_trans h3 ((ih.mp h5).2.2.1 c hc)
    · rintro ⟨h1, h2, h3, h4⟩
      have h5 : a < b := h3 (b, v) (by simp)
      have h6 : Mem.wf ((a, w) :: (b, v) :: rest) =
          (decide (a < memWords) && (w != erasedWord) && decide (a < b) && Mem.wf ((b, v) :: rest)) := rfl
      simp [h6, h1, h2, h4, h5]

/-- An address that lies below every entry reads as erased. -/
theorem Mem.read_of_above {m : List MemCell} {a : Nat} (h : Mem.above a m) : Mem.read m a = erasedWord := by
  induction m with
  | nil => rfl
  | cons c rest ih =>
    have h1 : a < c.1 := h c (by simp)
    rw [show c = (c.1, c.2) from rfl, Mem.read, if_neg (by omega)]
    exact ih fun d hd => h d (by simp [hd])

theorem Mem.above_put {m : List MemCell} {a b : Nat} {w : Word} (h : Mem.above b m) (hb : b < a) :
    Mem.above b (Mem.put m a w) := by
  induction m with
  | nil =>
    intro c hc
    simp only [Mem.put] at hc
    split at hc <;> simp_all
  | cons d rest ih =>
    obtain ⟨k, v⟩ := d
    have hk : b < k := h (k, v) (by simp)
    have hr : Mem.above b rest := fun c hc => h c (by simp [hc])
    intro c hc
    simp only [Mem.put] at hc
    split at hc
    · split at hc
      · exact h c hc
      · rcases List.mem_cons.mp hc with rfl | hc
        · exact hb
        · exact h c hc
    · split at hc
      · split at hc
        · exact hr c hc
        · rcases List.mem_cons.mp hc with rfl | hc
          · exact hb
          · exact hr c hc
      · rcases List.mem_cons.mp hc with rfl | hc
        · exact hk
        · exact ih hr c hc

/-- A write to a word of the memory keeps the canonical form. -/
theorem Mem.wf_put {m : List MemCell} {a : Nat} {w : Word} (h : Mem.wf m = true) (ha : a < memWords) :
    Mem.wf (Mem.put m a w) = true := by
  induction m with
  | nil =>
    by_cases hw : w = erasedWord
    · simp [Mem.put, hw, Mem.wf]
    · simp only [Mem.put, if_neg hw]
      exact Mem.wf_cons.mpr ⟨ha, hw, by simp [Mem.above], rfl⟩
  | cons d rest ih =>
    obtain ⟨b, v⟩ := d
    obtain ⟨h1, h2, h3, h4⟩ := Mem.wf_cons.mp h
    simp only [Mem.put]
    split
    · rename_i hab
      split
      · exact h
      · rename_i hw
        refine Mem.wf_cons.mpr ⟨ha, hw, ?_, h⟩
        intro c hc
        rcases List.mem_cons.mp hc with rfl | hc
        · exact hab
        · exact lt_trans hab (h3 c hc)
    · split
      · rename_i hab
        split
        · exact h4
        · rename_i hw
          subst hab
          exact Mem.wf_cons.mpr ⟨ha, hw, h3, h4⟩
      · rename_i hab hne
        exact Mem.wf_cons.mpr ⟨h1, h2, Mem.above_put h3 (by omega), ih h4⟩

/-- A read after a write: the word written at its address, and every other word as it was. -/
theorem Mem.read_put {m : List MemCell} {a : Nat} {w : Word} (h : Mem.wf m = true) (b : Nat) :
    Mem.read (Mem.put m a w) b = if b = a then w else Mem.read m b := by
  induction m with
  | nil =>
    by_cases hw : w = erasedWord <;> by_cases hb : b = a <;> simp [Mem.put, Mem.read, hw, hb, eq_comm]
    intro hab
    exact absurd hab.symm hb
  | cons d rest ih =>
    obtain ⟨k, v⟩ := d
    obtain ⟨-, -, h3, h4⟩ := Mem.wf_cons.mp h
    have hrest : b ≤ k → Mem.read rest b = erasedWord := fun hb =>
      Mem.read_of_above fun c hc => lt_of_le_of_lt hb (h3 c hc)
    simp only [Mem.put]
    split
    · rename_i hab
      by_cases hw : w = erasedWord
      · rw [if_pos hw]
        by_cases hb : b = a
        · subst hb
          rw [if_pos rfl, Mem.read, if_neg (by omega), hrest (by omega), hw]
        · rw [if_neg hb]
      · rw [if_neg hw, Mem.read]
        by_cases hb : b = a
        · simp [hb]
        · rw [if_neg (fun h => hb h.symm), if_neg hb]
    · split
      · rename_i hab
        subst hab
        by_cases hw : w = erasedWord
        · rw [if_pos hw]
          by_cases hb : b = a
          · rw [if_pos hb, hrest (by omega), hw]
          · rw [if_neg hb, Mem.read, if_neg (fun h => hb h.symm)]
        · rw [if_neg hw]
          by_cases hb : b = a
          · rw [if_pos hb, hb, Mem.read, if_pos rfl]
          · rw [if_neg hb, Mem.read, Mem.read, if_neg (fun h => hb h.symm), if_neg (fun h => hb h.symm)]
      · rename_i hab hne
        by_cases hk : k = b
        · subst hk
          rw [Mem.read, if_pos rfl, if_neg (by omega), Mem.read, if_pos rfl]
        · rw [Mem.read, if_neg hk, ih h4, Mem.read, if_neg hk]

/-! ### Writes, programs and erases keep the canonical form -/

theorem Mem.wf_write {m : List MemCell} {a : Nat} {w : Word} (h : Mem.wf m = true) :
    Mem.wf (Mem.write m a w) = true := by
  unfold Mem.write
  split
  · exact Mem.wf_put h ‹_›
  · exact h

theorem Mem.read_write {m : List MemCell} {a : Nat} {w : Word} (h : Mem.wf m = true) (ha : a < memWords) (b : Nat) :
    Mem.read (Mem.write m a w) b = if b = a then w else Mem.read m b := by
  rw [Mem.write, if_pos ha, Mem.read_put h]

theorem Mem.wf_program {m : List MemCell} {a : Nat} {v k : Word} (h : Mem.wf m = true) :
    Mem.wf (Mem.program m a v k) = true := Mem.wf_write h

/-- R141: a program clears bits only, and touches no other word. -/
theorem Mem.read_program {m : List MemCell} {a : Nat} {v k : Word} (h : Mem.wf m = true) (ha : a < memWords)
    (b : Nat) :
    Mem.read (Mem.program m a v k) b =
      if b = a then settleWord (Mem.read m a) (Mem.read m a &&& v) k else Mem.read m b :=
  Mem.read_write h ha b

theorem Mem.wf_eraseUpTo {m : List MemCell} {sector : Nat} {k : Nat → Word} (n : Nat) (h : Mem.wf m = true) :
    Mem.wf (Mem.eraseUpTo m sector k n) = true := by
  induction n with
  | zero => exact h
  | succ n ih => exact Mem.wf_write ih

/-- R141: an erase reaches the first words of its sector and no other word. -/
theorem Mem.read_eraseUpTo {m : List MemCell} {sector : Nat} {k : Nat → Word} (n : Nat) (h : Mem.wf m = true)
    (hs : memAddr sector n ≤ memWords) (b : Nat) :
    Mem.read (Mem.eraseUpTo m sector k n) b =
      if 128 * sector ≤ b ∧ b < 128 * sector + n then
        settleWord (Mem.read m b) erasedWord (k (b - 128 * sector)) else Mem.read m b := by
  induction n generalizing b with
  | zero => rw [if_neg (by omega)]; rfl
  | succ n ih =>
    have hn : memAddr sector n ≤ memWords := le_trans (Nat.le_succ _) hs
    have hlt : memAddr sector n < memWords := hs
    have hself : Mem.read (Mem.eraseUpTo m sector k n) (memAddr sector n) = Mem.read m (memAddr sector n) := by
      rw [ih hn, if_neg (by simp only [memAddr]; omega)]
    have haddr : memAddr sector n = 128 * sector + n := rfl
    rw [Mem.eraseUpTo, Mem.read_write (Mem.wf_eraseUpTo n h) hlt, hself, ih hn]
    by_cases hb : b = memAddr sector n
    · have hk : b - 128 * sector = n := by omega
      rw [if_pos hb, if_pos (by omega), hk, hb]
    · rw [if_neg hb]
      by_cases hin : 128 * sector ≤ b ∧ b < 128 * sector + n
      · rw [if_pos hin, if_pos (by omega)]
      · rw [if_neg hin, if_neg (by omega)]

end Sys2Proof.Machine
end

