-- ==== Sys2Proof/Laws/PerInstr.lean ====
section
/-! SUPPORT. Facts about every command as syntax, one lemma per constructor. -/

namespace Sys2Proof.Laws.FrameFits

open Sys2Proof

/-- R171: a well-formed panel command fits a COMMAND frame: its code byte and payload are at most 16 bytes. -/
def Statement (i : Instr) : Prop :=
  i.wellFormed = true → ∀ source code payload, i.panelCommand = some (source, code, payload) →
    (code.toList ++ payload).length ≤ 16

theorem of_other {i : Instr} (h : i.panelCommand = none) : Statement i :=
  fun _ _ _ _ h' => nomatch h.symm.trans h'

theorem of_payload {i : Instr} {source : Fin 7} {code : Byte} {payload : List Byte}
    (h : i.panelCommand = some (source, some code, payload)) (hw : i.wellFormed = payloadFits payload) :
    Statement i := by
  intro hi _ _ _ h'
  cases h.symm.trans h'
  have : payload.length ≤ 15 := by simpa [hw, payloadFits] using hi
  simp; omega

theorem unknownCommand (source : Fin 7) (code : Option Byte) (payload : List Byte) :
    Statement (.unknownCommand source code payload) := by
  intro hi _ _ _ h'
  cases h'
  cases code with
  | none =>
    have : payload = [] := by simpa [Instr.wellFormed] using hi
    simp [this]
  | some c =>
    have : payload.length ≤ 15 := by
      simp [Instr.wellFormed, payloadFits] at hi
      exact hi.2
    simp; omega

theorem powerOnReset (station budget : Fin 8) : Statement (.powerOnReset station budget) :=
  of_other rfl

theorem measurementExpiry (cavity core boiler : Int) : Statement (.measurementExpiry cavity core boiler) :=
  of_other rfl

theorem controlTimerExpiry : Statement .controlTimerExpiry := of_other rfl

theorem runOnTimerExpiry : Statement .runOnTimerExpiry := of_other rfl

theorem openDriveExpiry : Statement .openDriveExpiry := of_other rfl

theorem closeTravelTimeout : Statement .closeTravelTimeout := of_other rfl

theorem slotExpiry : Statement .slotExpiry := of_other rfl

theorem listenWindowExpiry : Statement .listenWindowExpiry := of_other rfl

theorem claimPeriodExpiry : Statement .claimPeriodExpiry := of_other rfl

theorem minimumIntervalExpiry : Statement .minimumIntervalExpiry := of_other rfl

theorem raiseHoldOffExpiry : Statement .raiseHoldOffExpiry := of_other rfl

theorem claimReceived (source : Fin 7) (floor want : Word) (cls : Byte) (ack : Level) :
    Statement (.claimReceived source floor want cls ack) :=
  of_other rfl

theorem peerSilent (station : Fin 7) : Statement (.peerSilent station) :=
  of_other rfl

theorem peerLost (station : Fin 7) : Statement (.peerLost station) :=
  of_other rfl

theorem fillTimeout : Statement .fillTimeout := of_other rfl

theorem drainTimerExpiry : Statement .drainTimerExpiry := of_other rfl

theorem soakComplete : Statement .soakComplete := of_other rfl

theorem startReadComplete : Statement .startReadComplete := of_other rfl

theorem stepReadComplete : Statement .stepReadComplete := of_other rfl

theorem stepTimeEnd : Statement .stepTimeEnd := of_other rfl

theorem pauseTimerExpiry : Statement .pauseTimerExpiry := of_other rfl

theorem runTimeCap : Statement .runTimeCap := of_other rfl

theorem wakeTimerExpiry : Statement .wakeTimerExpiry := of_other rfl

theorem storeOperationComplete (kept : List (Nat × Word)) : Statement (.storeOperationComplete kept) :=
  of_other rfl

theorem storeRequestServed : Statement .storeRequestServed := of_other rfl

theorem storeAbandoned : Statement .storeAbandoned := of_other rfl

theorem sampleExpiry (pins : Inputs Bool) : Statement (.sampleExpiry pins) :=
  of_other rfl

theorem persistenceExpiry (place : Fin 8) : Statement (.persistenceExpiry place) :=
  of_other rfl

theorem receptionError (cells : List Level) : Statement (.receptionError cells) :=
  of_other rfl

theorem frameDiscarded (bytes : List Byte) (ack : Level) : Statement (.frameDiscarded bytes ack) :=
  of_other rfl

theorem ownSourceFrameReceived (kind : FrameKind) (dest : Fin 8) (payload : List Byte) (ack : Level) :
    Statement (.ownSourceFrameReceived kind dest payload ack) :=
  of_other rfl

theorem transmitStart : Statement .transmitStart := of_other rfl

theorem arbitrationLoss (bit : Fin 5) : Statement (.arbitrationLoss bit) := of_other rfl

theorem conflictWhileSending (cell : Nat) : Statement (.conflictWhileSending cell) := of_other rfl

theorem acknowledgeCell (read : Level) : Statement (.acknowledgeCell read) :=
  of_other rfl

theorem lineFault : Statement .lineFault := of_other rfl

theorem lineRestored : Statement .lineRestored := of_other rfl

theorem firstIdleGap : Statement .firstIdleGap := of_other rfl

theorem configLoads (source : Fin 7) (payload : List Byte) : Statement (.configLoads source payload) :=
  of_payload rfl rfl

theorem configTerm (source : Fin 7) (payload : List Byte) : Statement (.configTerm source payload) :=
  of_payload rfl rfl

theorem configDone (source : Fin 7) (payload : List Byte) : Statement (.configDone source payload) :=
  of_payload rfl rfl

theorem configuredReached : Statement .configuredReached := of_other rfl

theorem deferredConfigCommand : Statement .deferredConfigCommand := of_other rfl

theorem startManual (source : Fin 7) (payload : List Byte) : Statement (.startManual source payload) :=
  of_payload rfl rfl

theorem runRecipe (source : Fin 7) (payload : List Byte) : Statement (.runRecipe source payload) :=
  of_payload rfl rfl

theorem adjust (source : Fin 7) (payload : List Byte) : Statement (.adjust source payload) :=
  of_payload rfl rfl

theorem pause (source : Fin 7) (payload : List Byte) : Statement (.pause source payload) :=
  of_payload rfl rfl

theorem resume (source : Fin 7) (payload : List Byte) : Statement (.resume source payload) :=
  of_payload rfl rfl

theorem confirm (source : Fin 7) (payload : List Byte) : Statement (.confirm source payload) :=
  of_payload rfl rfl

theorem skipStep (source : Fin 7) (payload : List Byte) : Statement (.skipStep source payload) :=
  of_payload rfl rfl

theorem stop (source : Fin 7) (payload : List Byte) : Statement (.stop source payload) :=
  of_payload rfl rfl

theorem storeOpen (source : Fin 7) (payload : List Byte) : Statement (.storeOpen source payload) :=
  of_payload rfl rfl

theorem storeWrite (source : Fin 7) (payload : List Byte) : Statement (.storeWrite source payload) :=
  of_payload rfl rfl

theorem storeClose (source : Fin 7) (payload : List Byte) : Statement (.storeClose source payload) :=
  of_payload rfl rfl

theorem storeErase (source : Fin 7) (payload : List Byte) : Statement (.storeErase source payload) :=
  of_payload rfl rfl

theorem storeRead (source : Fin 7) (payload : List Byte) : Statement (.storeRead source payload) :=
  of_payload rfl rfl

theorem storeList (source : Fin 7) (payload : List Byte) : Statement (.storeList source payload) :=
  of_payload rfl rfl

theorem setHardness (source : Fin 7) (payload : List Byte) : Statement (.setHardness source payload) :=
  of_payload rfl rfl

theorem descaleStart (source : Fin 7) (payload : List Byte) : Statement (.descaleStart source payload) :=
  of_payload rfl rfl

theorem rinseStart (source : Fin 7) (payload : List Byte) : Statement (.rinseStart source payload) :=
  of_payload rfl rfl

theorem descaleAbort (source : Fin 7) (payload : List Byte) : Statement (.descaleAbort source payload) :=
  of_payload rfl rfl

theorem readScale (source : Fin 7) (payload : List Byte) : Statement (.readScale source payload) :=
  of_payload rfl rfl

theorem fetchEvents (source : Fin 7) (payload : List Byte) : Statement (.fetchEvents source payload) :=
  of_payload rfl rfl

theorem fetchEventsNextFrame : Statement .fetchEventsNextFrame := of_other rfl

theorem clearTrip (source : Fin 7) (payload : List Byte) : Statement (.clearTrip source payload) :=
  of_payload rfl rfl

theorem readPeers (source : Fin 7) (payload : List Byte) : Statement (.readPeers source payload) :=
  of_payload rfl rfl

theorem readLineCounts (source : Fin 7) (payload : List Byte) : Statement (.readLineCounts source payload) :=
  of_payload rfl rfl

theorem restart (source : Fin 7) (payload : List Byte) : Statement (.restart source payload) :=
  of_payload rfl rfl

theorem restartTakesEffect (station budget : Fin 8) : Statement (.restartTakesEffect station budget) :=
  of_other rfl

theorem answerHandover : Statement .answerHandover := of_other rfl

theorem statusTimerExpiry : Statement .statusTimerExpiry := of_other rfl

theorem statusIntervalExpiry : Statement .statusIntervalExpiry := of_other rfl

end Sys2Proof.Laws.FrameFits
end

