-- ==== Sys2Proof/Tests/Slice0.lean ====
section
/-! SUPPORT. Tests: ill-formed commands refused, worked cases of the spec, and states that meet the hypotheses of the
statements, at the boundary of each clause. -/

open Sys2Proof Sys2Proof.Machine

namespace Sys2Proof.Tests

/-! ## Well-formedness: each check refuses an ill-formed term -/

theorem test_wellFormed_kept_word_outside_sector :
    (Instr.storeOperationComplete [(128, 1)]).wellFormed = false := by decide
theorem test_wellFormed_kept_words_in_order :
    (Instr.storeOperationComplete [(4, 1), (4, 2)]).wellFormed = false := by decide
theorem test_wellFormed_frame_check_byte : (Instr.frameDiscarded [0x27, 0, 0] .recessive).wellFormed = false := by decide +kernel
theorem test_wellFormed_frame_length : (Instr.frameDiscarded [0x27, 17, 0] .recessive).wellFormed = false := by decide
theorem test_wellFormed_frame_too_short : (Instr.frameDiscarded [0x27] .recessive).wellFormed = false := by decide
theorem test_wellFormed_reception_start : (Instr.receptionError [.recessive]).wellFormed = false := by decide
theorem test_wellFormed_reception_length :
    (Instr.receptionError (List.replicate 227 .dominant)).wellFormed = false := by decide +kernel
theorem test_wellFormed_conflict_in_source : (Instr.conflictWhileSending 5).wellFormed = false := by decide
theorem test_wellFormed_conflict_after_check : (Instr.conflictWhileSending 190).wellFormed = false := by decide
theorem test_wellFormed_own_source_payload :
    (Instr.ownSourceFrameReceived .claim 7 (List.replicate 17 0) .recessive).wellFormed = false := by decide
theorem test_wellFormed_panel_payload : (Instr.storeWrite 1 (List.replicate 16 0)).wellFormed = false := by decide
theorem test_wellFormed_unknown_of_known_code :
    (Instr.unknownCommand 1 (some 0x01) []).wellFormed = false := by decide
theorem test_wellFormed_unknown_without_code : (Instr.unknownCommand 1 none [0]).wellFormed = false := by decide
theorem test_wellFormed_unknown : (Instr.unknownCommand 1 (some 0x05) []).wellFormed = true := by decide

/-! ## Worked cases of the spec -/

/-- Section 9.9: the two claim headers. -/
theorem test_claim_headers :
    (Frame.mk .claim 4 7 []).header = 0x27 ∧ (Frame.mk .claim 1 7 []).header = 0x0F := by decide

/-- R171 and Table 9-7: the ten cells of the header 0Fh. -/
theorem test_header_cells :
    byteCells 0x0F = [.dominant, .dominant, .dominant, .dominant, .dominant, .recessive, .recessive, .recessive,
      .recessive, .recessive] := by decide

/-- Section 7.8: the keep record of (6146, 5, clear, 2). -/
theorem test_keep_record :
    (KeepValues.mk 6146 5 false 2).words = [0x7E01, 0x1802, 0x0005, 0x0002, 0x69F5] := by decide

/-- Section 10.6.3: step 0 of recipe 42. -/
theorem test_step_words :
    (parseStep [0x8810, 0x0640, 0xC00C, 60, 1200]).map (·.1) =
      some ⟨some .combi, 1600, 2, some .auto, some .time, true, false, 12, some 60, some 1200, none, none⟩ := by decide

/-- Table 7-5: the record of recipe 42. -/
def record42 : List Word :=
  [0x030A, 0x526F, 0x6173, 0x7420, 0x6C6F, 0x6166, 0x8810, 0x0640, 0xC00C, 60, 1200, 0x2D20, 1900, 0x2000, 720,
    0x3808, 800, 0x5000, 900, 10]

theorem test_record_length :
    (parseRecord record42).map (fun r => (r.length, r.steps.map fun x => (x.1.offset, x.1.length))) =
      some (20, [(6, 5), (11, 4), (15, 5)]) := by decide

/-- Table 3-6: the shares of the oven and the coffee unit. -/
theorem test_share_within_budget :
    shareOf 184 ⟨3, 101, 1⟩ [⟨0, 80, 0⟩, ⟨0, 66, 1⟩, ⟨5, 25, 2⟩] = 60 ∧
      shareOf 184 ⟨0, 66, 1⟩ [⟨0, 80, 0⟩, ⟨3, 101, 1⟩, ⟨5, 25, 2⟩] = 38 := by decide

/-- Table 3-7: the scaled floor of the oven. -/
theorem test_share_beyond_budget : shareOf 115 ⟨40, 40, 1⟩ [⟨80, 80, 0⟩, ⟨10, 10, 2⟩] = 35 := by decide

/-- Section 3.9: the allowance at 2.01 s. -/
theorem test_share_after_raise :
    shareOf 184 ⟨3, 125, 1⟩ [⟨0, 80, 0⟩, ⟨0, 66, 1⟩, ⟨5, 25, 2⟩] = 65 := by decide

/-- The example build (section 2.1), with the generator, the probe and the vent. -/
def exampleBuild : LoadsRecord := ⟨⟨45, 55, 50, 50, 90, 90⟩, true, true, true⟩

/-- Section 1.5, Table 1-4: the first PI update. -/
def piClc : Clc :=
  { Clc.afterReset with
    window := [1646, 1652, 1648, 1654], temp := 1650, setpoint := some 1800, mode := some .hotAirBottom
    integral := 400, lastEffort := 700, run := .running, rated := exampleBuild.rated, configured := true
    controlTimer := some 0, blocked := Six.all false }

theorem test_pi_update :
    piClc.piUpdate.integral = 414 ∧ piClc.piUpdate.lastEffort = 526 := by decide

/-- Section 2.8: the dispatcher before its first expiry. -/
def walkLoad (rated demand : Nat) : DspLoad := { DspLoad.afterReset with rated := rated, demand := demand, blocked := false }

def walkDsp : Dsp :=
  { Dsp.afterReset with
    loads := ⟨walkLoad 45 0, walkLoad 55 320, walkLoad 50 800, walkLoad 50 800, walkLoad 90 0, DspLoad.afterReset⟩
    limit := 60, configured := true, fan := 2 }

def expiries : Nat → Dsp → Dsp
  | 0, d => d
  | n + 1, d => expiries n d.expire

/-- Table 2-4: RING_A on at expiry 2, RING_B at expiry 6, BOTTOM at expiry 12. -/
theorem test_slot_walk :
    ((expiries 2 walkDsp).loads.ringA.on, (expiries 2 walkDsp).loads.ringA.acc) = (true, 600) ∧
      ((expiries 6 walkDsp).loads.ringB.on, (expiries 6 walkDsp).loads.ringA.acc) = (true, 800) ∧
      ((expiries 12 walkDsp).loads.bottom.on, (expiries 12 walkDsp).loads.ringA.starveCount) = (true, 5) := by decide

/-! ## States that meet the hypotheses of the statements -/

/-- The line is LINE_OK and the scan is made; nothing else has happened since reset. -/
def lineState : State :=
  { State.reset with
    slc := { State.reset.slc with line := .lineOk, rx := .waiting }
    stc := { State.reset.stc with scanned := true, wakeTimer := none, table := List.replicate 24 .empty } }

/-- The part is CONFIGURED as well. -/
def onState : State := { lineState with cmh := { lineState.cmh with configured := true } }

theorem test_states_listen :
    lineState.listens 1 = true ∧ onState.listens 6 = true ∧ onState.listens 0 = false ∧ onState.fresh = true ∧
      onState.stc.free = true := by decide

/-! ### The machine as a whole -/

theorem test_witness_StepTakesFrontCommand :
    ({ State.reset with pending := [.slotExpiry] } : State).pending = .slotExpiry :: [] := rfl

theorem test_witness_PowerOnResetLeavesResetState : (6 : Fin 8) ≠ 7 := by decide

theorem test_witness_RestartIsPowerOnResetButForItsEvent :
    ({ State.reset with cmh := { State.reset.cmh with restartDue := true } } : State).cmh.restartDue = true ∧
      (6 : Fin 8) ≠ 7 := by decide

/-- A state in SHARING, with a claim sent and a peer. -/
def sharingLsu : Lsu :=
  { onState.lsu with
    mode := .sharing, lc := some ⟨3, 3, 3⟩, claimPeriod := some 0, minInterval := some 0
    peers := [⟨1, false, 0, 80, 0, 0⟩] }.refresh

def sharingState : State := { onState with lsu := sharingLsu, dsp := { onState.dsp with limit := 3 } }

def isolatedState : State :=
  { onState with
    lsu := { onState.lsu with mode := .isolated, limit := 3 }
    dsp := { onState.dsp with limit := 3 } }

theorem test_witness_invariants :
    Mem.wf onState.stc.mem = true ∧ onState.evq.bounded = true ∧ onState.dsp.sound = true ∧
      onState.peersSound = true ∧ onState.fresh = true ∧ onState.tripsDelivered = true ∧
      onState.ilu.builtInSound = true ∧ onState.rsq.indexed = true ∧ ∃ t, step onState = .next t :=
  ⟨by decide, by decide, by decide, by decide, by decide, by decide, by decide, by decide, _, rfl⟩

theorem test_witness_AppliedLimitKeepsToClaims :
    (∀ s ∈ [onState, sharingState, isolatedState], s.limitSound = true ∧ s.claimsSound = true) ∧
      (∃ t, step onState = .next t) ∧ (∃ t, step sharingState = .next t) ∧ ∃ t, step isolatedState = .next t :=
  ⟨by decide, ⟨_, rfl⟩, ⟨_, rfl⟩, _, rfl⟩

theorem test_witness_BuiltInTripsHoldLoadsOff :
    onState.tripsDelivered = true ∧ onState.dsp.sound = true ∧ ∃ t, step onState = .next t :=
  ⟨by decide, by decide, _, rfl⟩

theorem test_witness_LoadsSwitchOnOnlyAtSlotExpiry :
    onState.quiet = true ∧ (∃ t, exec .slotExpiry onState = .next t) ∧
      (∃ t, exec .controlTimerExpiry onState = .next t) ∧ Instr.controlTimerExpiry ≠ .slotExpiry :=
  ⟨by decide, ⟨_, rfl⟩, ⟨_, rfl⟩, by decide⟩

theorem test_witness_OnlyStoreOperationsChangeMemory :
    onState.quiet = true ∧ ∃ t, exec .wakeTimerExpiry onState = .next t := ⟨by decide, _, rfl⟩

theorem test_witness_SettledMattersKeptUntilReset :
    onState.quiet = true ∧ onState.cmh.configured = true ∧ onState.stc.scanned = true ∧
      ∃ t, exec .lineFault onState = .next t := ⟨by decide, by decide, by decide, _, rfl⟩

/-- A state with a trip active at a place. -/
def tripState (p : Place) (term : TermState) : State :=
  { onState with ilu := { onState.ilu with terms := onState.ilu.terms.set p term } }

theorem test_witness_LatchedTripsStayUntilCleared :
    (∀ p ∈ ([1, 2, 3] : List Place),
      (tripState p ⟨false, some false, none, true⟩).quiet = true ∧
        ((tripState p ⟨false, some false, none, true⟩).ilu.terms.get p).active = true) ∧
      Instr.slotExpiry.wellFormed = true ∧
      ∃ t, exec .slotExpiry (tripState 1 ⟨false, some false, none, true⟩) = .next t :=
  ⟨by decide, by decide, _, rfl⟩

theorem test_witness_SharesSumWithinBudget :
    ∀ c ∈ ([⟨0, 80, 0⟩, ⟨40, 40, 1⟩] : List Claim), c.floor ≤ c.want := by decide

/-! ### Climate and dispatcher -/

/-- A state with a window of readings, bad readings and a run-on. -/
def climateState (window : List Int) (bad : Nat) (runOn : Option Nat) (fitted : Bool) : State :=
  { onState with
    clc := { onState.clc with
      window := window, badCount := bad, runOn := runOn, configured := fitted, probeFitted := fitted
      probeIn := fitted } }

theorem test_witness_MeasurementTakesReadings :
    (climateState [] 1 none false).quiet = true ∧ (climateState [1, 2, 3, 800] 2 (some 5) true).quiet = true ∧
      (climateState [] 1 none false).clc.window = [] ∧
      (climateState [1, 2, 3, 800] 2 (some 5) true).clc.window = [1, 2, 3, 800] ∧
      (∀ r ∈ ([-400, 4000] : List Int), -400 ≤ r ∧ r ≤ 4000) ∧
      (∀ r ∈ ([-401, 4001] : List Int), r < -400 ∨ 4000 < r) := by decide

/-- A state about to take a PI update with the error `e`. -/
def piState (e : Int) : State := { onState with clc := { piClc with setpoint := some (1650 + e) } }

theorem test_witness_ControlTimerTakesPiUpdate :
    ∀ e ∈ ([201, 200, -100, -101] : List Int),
      (piState e).quiet = true ∧ (piState e).clc.controlTimer.isSome = true ∧
        (piState e).clc.mode = some .hotAirBottom ∧ (piState e).clc.setpoint = some (1650 + e) ∧
        (piState e).clc.run = .running ∧ (piState e).clc.window ≠ [] := by decide

theorem test_witness_RunOnEndsAtItsTimer :
    (climateState [] 0 (some 600000) true).quiet = true ∧ (climateState [] 0 (some 600000) true).clc.runOn.isSome = true ∧
      ({ onState with rsq := { onState.rsq with run := .finishing } } : State).rsq.run = .finishing := by decide

/-- A state with the vent in a drive. -/
def ventState (v : VentState) : State := { onState with clc := { onState.clc with vent := v, ventTimer := some 0 } }

theorem test_witness_OpenDriveRunsAndEnds :
    (ventState .opening).quiet = true ∧ (ventState .opening).fresh = true ∧ (ventState .opening).clc.vent = .opening ∧
      (ventState .opening).clc.ventTimer.isSome = true ∧ Clc.afterReset.configured = false := by decide

theorem test_witness_CloseTravelTimeoutOpensVent :
    (ventState .closing).quiet = true ∧ (ventState .closing).fresh = true ∧ (ventState .closing).clc.vent = .closing ∧
      (ventState .closing).clc.ventTimer.isSome = true := by decide

/-- The state of section 2.8 before its second, sixth and seventh expiry: RING_A and RING_B are equal candidates at the
second, and the first in order is switched on. -/
theorem test_witness_SlotExpiryTakesFiveSteps :
    (∀ n ∈ [1, 5, 6], ({ onState with dsp := expiries n walkDsp } : State).quiet = true) ∧
      (expiries 1 walkDsp).loads.ringA.acc + 800 = (expiries 1 walkDsp).loads.ringB.acc + 800 ∧
      (expiries 2 walkDsp).loads.ringA.on = true ∧ (expiries 2 walkDsp).loads.ringB.on = false := by decide

theorem test_witness_LoadsSwitchAndShedInOrder :
    let d := { walkDsp with loads := { walkDsp.loads with
      ringA := { walkLoad 50 800 with acc := 1000 }, ringB := { walkLoad 50 800 with acc := 1000 } } }
    (d.loads.get .ringA).candidate = true ∧ d.energisedSum + (d.loads.get .ringA).rated ≤ d.headroom ∧
      (∀ l ∈ Load.all, (d.loads.get l).candidate = true →
        (d.loads.get l).acc = (d.loads.get .ringA).acc ∧ Load.ringA.index ≤ l.index) ∧
      (∀ l ∈ Load.all, (walkDsp.loads.get l).candidate = false) ∧
      50 - 3 < (expiries 12 walkDsp).energisedSum ∧ (expiries 12 walkDsp).energisedSum ≤ 58 - 3 ∧
      ((expiries 12 walkDsp).loads.get .bottom).on = true := by decide +kernel

/-! ### Sharing the circuit -/

theorem test_witness_ShareTimersFillClaimSlot :
    let l := { lineState with lsu := { lineState.lsu with mode := .listening, listen := some 0 } }
    l.quiet = true ∧ l.fresh = true ∧ l.lsu.listen.isSome = true ∧ sharingState.quiet = true ∧
      sharingState.fresh = true ∧ sharingState.lsu.claimPeriod.isSome = true ∧
      sharingState.lsu.minInterval.isSome = true ∧ sharingState.lsu.mode = .sharing := by decide

theorem test_witness_RaiseHoldOffClearsPendingClaim :
    let s := { sharingState with lsu := { sharingState.lsu with holdOff := some 0, pc := some ⟨3, 101, 1⟩ } }
    s.quiet = true ∧ s.fresh = true ∧ s.lsu.holdOff.isSome = true ∧ s.lsu.pc = some ⟨3, 101, 1⟩ := by decide

theorem test_witness_ReceivedClaimRenewsPeer :
    sharingState.quiet = true ∧ sharingState.fresh = true ∧ sharingState.slc.lineSound = true ∧
      sharingState.slc.line = .lineOk ∧ sharingState.slc.inFlight = none ∧ sharingState.slc.rx = .waiting ∧ (1 : Fin 7).val ≠ sharingState.slc.own ∧
      ((1023 : Word).toNat ≤ (1023 : Word).toNat ∧ (1023 : Word).toNat ≤ 1023 ∧ (3 : Byte).toNat ≤ 3) ∧
      (1023 : Word).toNat < (1024 : Word).toNat ∧ 3 < (4 : Byte).toNat := by decide

theorem test_witness_PeersFallSilentAndAreLost :
    let silent := { sharingState with lsu := { sharingState.lsu with peers := [⟨1, true, 0, 80, 0, 63500⟩] }.refresh }
    sharingState.quiet = true ∧ sharingState.fresh = true ∧
      findPeer 1 sharingState.lsu.peers = some ⟨1, false, 0, 80, 0, 0⟩ ∧ silent.quiet = true ∧ silent.fresh = true ∧
      findPeer 1 silent.lsu.peers = some ⟨1, true, 0, 80, 0, 63500⟩ := by decide

/-! ### Water -/

/-- A state with the generator in a state of its own. -/
def waterState (g : Sgc) : State := { onState with sgc := g.refresh }

theorem test_witness_FillAndDrainTimersEnd :
    (∀ st ∈ [GenState.filling, .refilling],
      let s := waterState { onState.sgc with state := st, fillTimer := some 0, fitted := true, source := .run }
      s.quiet = true ∧ s.fresh = true ∧ s.sgc.state = st ∧ s.sgc.fillTimer.isSome = true ∧
        s.sgc.pumpOff.any = false) ∧
      (∀ x ∈ [(false, true), (false, false), (true, true)],
        let s := waterState { onState.sgc with
          state := .draining, drainTimer := some 0, fitted := true, extended := x.1, low := x.2 }
        s.quiet = true ∧ s.fresh = true ∧ s.sgc.state = .draining ∧ s.sgc.drainTimer.isSome = true ∧
          s.sgc.extended = x.1 ∧ s.sgc.low = x.2) := by decide

theorem test_witness_SoakCompleteEntersDrain :
    let s := { onState with sdu := { onState.sdu with pstate := .soak, soaking := true, request := .warm } }
    s.quiet = true ∧ s.sdu.pstate = .soak ∧ s.sdu.soaking = true ∧ s.sdu.request = .warm := by decide

/-- R100, R103: 5369 SU and 7 SU reach 21 x 256 (section 7.6). -/
theorem test_witness_RefillAddsScale :
    let s : State := { onState with
      sgc := { onState.sgc with state := .refilling, high := true }
      sdu := { onState.sdu with scale := 5369, hardness := 5 } }
    let f : State := { s with sgc := { s.sgc with state := .filling } }
    s.sgc.state = .refilling ∧ s.sgc.high = true ∧ f.sgc.state = .filling ∧ f.sgc.high = true ∧
      Signal.sduRefill ∉ f.bus ∧ 1 ≤ s.sdu.hardness ∧ s.sdu.hardness ≤ 7 ∧
      (handle .sduRefill s).sdu.scale = 5376 := by decide

/-! ### Recipes -/

/-- A live step of end kind `k`. -/
def stepOf (k : EndKind) : LiveStep :=
  ⟨.hotAir, some 1900, 3, .opened, k, false, false, 0, 0, 900, 720, 0, false⟩

/-- A state with a live run of `count` steps at step `index`. -/
def runState (run : RunState) (k : EndKind) (phase : Phase) (index count : Nat) : State :=
  { onState with rsq := { onState.rsq with
      run := run, source := .slot 3, live := some (stepOf k), phase := phase, index := index, stepCount := count
      table := [⟨6, 5⟩, ⟨11, 4⟩, ⟨15, 5⟩] } }

/-- The words of the sector of recipe 42. -/
def sector42 : List Word := 0xA55A :: 42 :: record42

/-- A CONFIGURED oven of the example build at rest. -/
def ovenState : State :=
  { onState with rsq := { onState.rsq with
      configured := true, rated := exampleBuild.rated, generator := true, probeFitted := true } }

def startState : State :=
  { ovenState with
    stc := { ovenState.stc with readDone := some (.start sector42) }
    rsq := { ovenState.rsq with startSlot := some 3 } }

theorem test_witness_StartReadStartsRun :
    startState.bus = [] ∧ startState.stc.readDone = some (.start sector42) ∧ startState.rsq.startSlot = some 3 ∧
      startState.rsq.abortTrips.any = false ∧ startState.rsq.rinse = false ∧
      ∃ record, parseRecord (sector42.drop 2) = some record ∧
        (∀ x ∈ record.steps, ∀ m, x.2.mode = some m →
          startState.rsq.usable m = true ∧ (m.isSteam = true → startState.rsq.steamLocked = false)) ∧
        (∀ x ∈ record.steps, ∀ k, x.2.endKind = some k → k.isCore = true → startState.rsq.probeFitted = true) :=
  ⟨rfl, rfl, rfl, by decide, rfl, (parseRecord record42).get (by decide), by decide, by
    intro x hx m hm
    exact ⟨by cases m <;> decide, fun _ => rfl⟩, fun _ _ _ _ _ => rfl⟩

/-- The words of step 2 of recipe 42. -/
def step2Words : List Word := record42.drop 15

theorem test_witness_StepReadBeginsStep :
    let s := { runState .running .time .entry 2 3 with
      stc := { onState.stc with readDone := some (.step step2Words) }
      rsq := { (runState .running .time .entry 2 3).rsq with readPending := true } }
    s.bus = [] ∧ s.stc.readDone = some (.step step2Words) ∧ s.rsq.run = .running ∧ s.rsq.readPending = true ∧
      (∃ step l, parseStep step2Words = some (step, []) ∧ step.toLive = some l) ∧
      ({ s with rsq := { s.rsq with run := .finishing } } : State).rsq.run = .finishing :=
  ⟨rfl, rfl, rfl, rfl, ⟨_, _, rfl, rfl⟩, rfl⟩

/-- A step of end kind `k` begun, or in a phase, at index 0 of 3, with the probe, the preheat condition and a core
reading. -/
def phaseState (run : RunState) (k : EndKind) (phase : Phase) (probe preheat : Bool) (core : Option Int) : State :=
  { runState run k phase 0 3 with
    rsq := { (runState run k phase 0 3).rsq with probe := probe, preheat := preheat, core := core } }

/-- R126, R127, R129: the step waits for the probe; is preheated; ends at its target of 72.0 C, and not below. -/
theorem test_witness_StepReadBeginsStep_phases :
    (∀ k ∈ [EndKind.time, .core], ∀ phase ∈ [Phase.entry, .preheat, .active], ∀ run ∈ [RunState.running, .paused],
      let s := phaseState run k phase true true (some 720)
      s.rsq.run = run ∧ s.rsq.live = some (stepOf k) ∧ s.rsq.readPending = false ∧ s.rsq.phase = phase) ∧
      (handle .rsqBegun (phaseState .running .core .entry false false none)).evq.queue.map (·.code) =
        [.powerOn, .stepBegun, .prompt, .runPaused] ∧
      (handle .rsqBegun (phaseState .running .core .entry true false (some 719))).rsq.phase = .active ∧
      (handle .rsqBegun (phaseState .running .core .entry true false (some 720))).rsq.index = 1 := by decide

theorem test_witness_LiveCopyClampsValues :
    let r : RawStep := ⟨some .combi, 2301, 3, some .auto, some .timeOrCore, true, false, 12, some 9, some 43201, some 299,
      some 101⟩
    ∃ l, r.toLive = some l ∧ l.setpoint = some 2300 ∧ l.humidity = 10 ∧ l.duration = 43200 ∧ l.core = 300 ∧
      l.floor = 100 := ⟨_, rfl, by decide⟩

theorem test_witness_StepTimeEndsStep :
    ∀ i ∈ [1, 2],
      (runState .running .time .active i 3).quiet = true ∧
        (runState .running .time .active i 3).rsq.live = some (stepOf .time) ∧
        (runState .running .time .active i 3).rsq.run = .running ∧
        (runState .running .time .active i 3).rsq.phase = .active ∧ (stepOf .time).endKind = .time := by decide

theorem test_witness_RunEndsInFinishing :
    (runState .paused .time .active 0 3).quiet = true ∧ (runState .paused .time .active 0 3).rsq.run = .paused ∧
      (runState .running .time .active 0 3).quiet = true ∧
      (runState .running .time .active 0 3).rsq.run = .running ∧
      (runState .running .time .active 0 3).listens 1 = true ∧
      (runState .running .time .active 0 3).cmh.configured = true := by decide

/-- A state at a prompt of the SDU. -/
def promptState (p : ProgState) (resume : Option ProgState) (tank : Bool) : State :=
  { onState with
    sdu := { onState.sdu with pstate := p, resume := resume, tank := tank, program := .descale }
    sgc := { onState.sgc with
      state := if resume.isSome then .waitTank else .empty, tank := tank
      source := if resume.isSome then .program else .none } }

theorem test_witness_ConfirmIsRouted :
    (∀ x ∈ [(ProgState.promptSolution, true), (.promptWater, true), (.promptSolution, false)],
      let s := promptState x.1 none x.2
      s.listens 1 = true ∧ s.cmh.configured = true ∧ s.sdu.pstate = x.1 ∧ s.sdu.resume = none ∧ s.sdu.tank = x.2) ∧
      (∀ tank ∈ [true, false],
        let s := promptState .promptSolution (some .draw) tank
        s.listens 1 = true ∧ s.sdu.resume ≠ none ∧ s.sgc.state = .waitTank ∧ s.sgc.tank = tank) ∧
      (∀ s ∈ [runState .running .confirm .waitConfirm 0 3, runState .paused .confirm .active 1 3, onState],
        s.listens 1 = true ∧ s.cmh.configured = true ∧ s.fresh = true ∧ s.sdu.pstate ≠ .promptSolution ∧
          s.sdu.pstate ≠ .promptWater ∧ s.sgc.state ≠ .waitTank) ∧
      (runState .running .confirm .waitConfirm 0 3).rsq.phase = .waitConfirm ∧
      (runState .paused .confirm .active 1 3).rsq.index + 1 < 3 ∧ onState.rsq.run = .idle := by decide

/-- The setpoint 250.1 C is above the range of mode 3, and 250.0 C is in it. -/
theorem test_witness_AdjustAppliesPresentValues :
    let s := runState .running .time .active 0 3
    s.listens 1 = true ∧ s.cmh.configured = true ∧ s.rsq.run = .running ∧ s.rsq.readPending = false ∧
      s.rsq.live = some (stepOf .time) ∧
      (∃ a, adjustmentOf [0x0D, 0x09, 0xC5, 0, 3, 0, 1] = some a ∧ a.unused (stepOf .time) = false ∧
        a.setpoint = some 2501) ∧
      ∃ a, adjustmentOf [0x0D, 0x09, 0xC4, 0, 3, 0, 1] = some a ∧ a.unused (stepOf .time) = false ∧
        a.setpoint = some 2500 :=
  ⟨by decide, by decide, rfl, rfl, rfl, ⟨_, rfl, by decide, by decide⟩, _, rfl, by decide, by decide⟩

/-- A paused run with the reasons PANEL and DOOR. -/
def pausedState (door panel : Bool) : State :=
  { runState .paused .time .active 0 3 with
    rsq := { (runState .paused .time .active 0 3).rsq with reasons := ⟨door, false, false, false, panel⟩ } }

theorem test_witness_PauseAndResumeFollowPanel :
    (∀ s ∈ [runState .running .time .active 0 3, pausedState true false, pausedState true true, pausedState false true],
      s.listens 1 = true ∧ s.cmh.configured = true ∧ (s.rsq.run = .running ∨ s.rsq.run = .paused)) ∧
      (runState .running .time .active 0 3).rsq.reasons.any = false ∧ (pausedState true false).rsq.reasons.any = true ∧
      (pausedState true false).rsq.reasons.panel = false ∧ (pausedState false true).rsq.reasons.panel = true := by decide

theorem test_witness_SkipStepEndsStep :
    (∀ i ∈ [1, 2], (runState .running .time .entry i 3).listens 1 = true ∧
      (runState .running .time .entry i 3).rsq.readPending = false) ∧
      ({ runState .running .time .entry 0 3 with
        rsq := { (runState .running .time .entry 0 3).rsq with readPending := true } } : State).listens 1 = true := by
  decide

/-- Step 1 of recipe 42 as a START_MANUAL payload. -/
def manualPayload : List Byte := [0x2D, 0x20, 0x07, 0x6C, 0x20, 0x00, 0x02, 0xD0]

theorem test_witness_StartManualStartsRun :
    ovenState.listens 1 = true ∧ ovenState.cmh.configured = true ∧ lengthAllowed 0x10 manualPayload.length = true ∧
      ovenState.rsq.run = .idle ∧ ovenState.rsq.descaleActive = false ∧ ovenState.rsq.abortTrips.any = false ∧
      ovenState.rsq.rinse = false ∧ ovenState.rsq.probeFitted = true ∧ ovenState.rsq.usable .hotAir = true ∧
      ∃ step l, manualStep manualPayload = some step ∧ step.mode = some .hotAir ∧ step.toLive = some l ∧
        l.endKind = .core :=
  ⟨by decide, rfl, by decide, rfl, rfl, by decide, rfl, rfl, by decide, _, _, rfl, rfl, rfl, rfl⟩

/-- The slot states of a store with slot 24 VALID. -/
def validState : State :=
  { ovenState with stc := { ovenState.stc with table := (List.replicate 23 .empty) ++ [.valid] } }

theorem test_witness_RunRecipeReadsRecord :
    validState.listens 1 = true ∧ validState.cmh.configured = true ∧ validState.rsq.run = .idle ∧
      validState.rsq.descaleActive = false ∧ validState.rsq.abortTrips.any = false ∧ validState.fresh = true ∧
      validState.stc.free = true ∧ validState.stc.table.length = 24 ∧ validState.stc.slotState 24 = .valid ∧
      validState.stc.slotState 1 ≠ .valid ∧ (24 : Byte).toNat ≤ 24 ∧ 24 < (25 : Byte).toNat := by decide

/-! ### The store -/

/-- A store right after reset over a memory. -/
def scanState (mem : List MemCell) : State := { State.reset with stc := { State.reset.stc with mem := mem } }

/-- Record 42 in slot 1, a started sector in slot 24, and a keep record at the last place. -/
def scanMemory : List MemCell :=
  (KeepValues.words ⟨6146, 5, false, 2⟩).zipIdx.map (fun p => (120 + p.2, p.1)) ++
    sector42.zipIdx.map (fun p => (128 + p.2, p.1)) ++ [(3199, 0)]

theorem test_witness_ScanBuildsStore :
    (∀ mem ∈ [[], scanMemory, [(0, 0)]],
      (scanState mem).quiet = true ∧ (scanState mem).stc.scanned = false ∧
        (scanState mem).stc.wakeTimer.isSome = true) ∧
      (∀ i, i < 128 → Mem.read scanMemory (128 * 2 + i) = 0xFFFF#16) ∧
      (Mem.read scanMemory 128 = 0xA55A#16 ∧ Mem.read scanMemory 129 = 42#16 ∧
        (parseRecord (sectorWords scanMemory 1 2 126)).isSome = true) ∧
      (Mem.read scanMemory (128 * 24 + 127) ≠ 0xFFFF#16 ∧ Mem.read scanMemory (128 * 24) ≠ 0xA55A#16) ∧
      keepOfWords (keepWords scanMemory 24) = some ⟨6146, 5, false, 2⟩ ∧
      (∀ p, p < 25 → (keepWords [] p).any (· != 0xFFFF#16) = false) ∧
      ((keepWords [(0, 0)] 0).any (· != 0xFFFF#16) = true ∧
        ∀ p, p < 25 → keepOfWords (keepWords [(0, 0)] p) = none) := by decide +kernel

theorem test_keep_values_at_their_bounds :
    ∀ v ∈ ([⟨0, 1, true, 0⟩, ⟨65535, 7, false, 65535⟩] : List KeepValues), keepOfWords v.words = some v := by
  decide +kernel

/-- A state with a memory operation in flight. -/
def opState (request : StoreRequest) (erasing : Option Nat) (words : List MemCell) (retried : Bool) : State :=
  { onState with stc := { onState.stc with
      op := some ⟨request, erasing, words, retried, 1⟩, ctx := some ⟨1, 42, none, none⟩ } }

/-- The requests that program words, the store's four. -/
def wordRequests : List StoreRequest := [.openSlot 24 999, .write 0 [0], .close 1, .keepWrite ⟨0, 4, false, 0⟩]

theorem test_witness_WordProgramsVerify :
    (∀ r ∈ wordRequests, ∀ a ∈ [0, 3199], ∀ rest ∈ [[], [(7, 0)]], ∀ retried ∈ [false, true],
      let s := opState r none ((a, 0) :: rest) retried
      s.quiet = true ∧ Mem.wf s.stc.mem = true ∧ s.stc.ctx.isSome = true ∧ s.stc.requests = [] ∧
        s.stc.op = some ⟨r, none, (a, 0) :: rest, retried, 1⟩) ∧
      (Mem.read [] 0 &&& 0#16 ||| Mem.read [] 0 &&& keptBits [] 0) = 0#16 ∧
      (Mem.read [] 0 &&& 0#16 ||| Mem.read [] 0 &&& keptBits [(0, 1)] 0) ≠ 0#16 ∧
      (Instr.storeOperationComplete [(0, 1)]).wellFormed = true := by decide +kernel

theorem test_witness_SectorErasesVerify :
    (∀ r ∈ ([.openSlot 24 999, .erase 24, .keepWrite ⟨0, 4, false, 0⟩] : List StoreRequest), ∀ sector ∈ [0, 24],
      ∀ words ∈ [[], [(7, 0)]], ∀ retried ∈ [false, true],
      let s := opState r (some sector) words retried
      s.quiet = true ∧ Mem.wf s.stc.mem = true ∧ s.stc.requests = [] ∧
        s.stc.op = some ⟨r, some sector, words, retried, 1⟩) ∧
      (∀ i, i < 128 → ~~~(~~~(Mem.read [(0, 0)] i) &&& keptBits [] i) = 0xFFFF#16) ∧
      ~~~(~~~(Mem.read [(0, 0)] 0) &&& keptBits [(0, 1)] 0) ≠ 0xFFFF#16 := by decide +kernel

theorem test_witness_StoreRequestsAreServedInOrder :
    let v : KeepValues := ⟨0, 4, false, 0⟩
    let busy := opState (.erase 24) (some 24) [] false
    busy.stc.free = false ∧ (∀ x, StoreRequest.keepWrite x ∉ busy.stc.requests) ∧ State.reset.stc.free = false ∧
      (∀ x, StoreRequest.keepWrite x ∉ [StoreRequest.erase 1]) ∧
      (∀ r ∈ ([.keepWrite v, .startRead 1, .stepRead 1 6 5] : List StoreRequest), ∀ pos ∈ [0, 120, 125],
        let s := { onState with stc := { onState.stc with requests := [r], keepPos := pos } }
        s.bus = [] ∧ s.stc.scanned = true ∧ s.stc.op = none ∧ s.stc.readDone = none) :=
  ⟨by decide, by simp [opState, onState, lineState, State.reset, State.afterReset, Stc.afterReset], by decide,
    by simp, by decide⟩

/-- A state with an open write context on slot 1. -/
def ctxState (highest : Option Nat) : State :=
  { onState with stc := { onState.stc with
      ctx := some ⟨1, 42, highest, some 0⟩, mem := sector42.tail.zipIdx.map fun p => (129 + p.2, p.1) } }

/-- R148: a STORE_WRITE of seven words is refused, and restarts the inactivity timer of the open context. -/
theorem test_seven_words_restart_timer :
    let s := ctxState none
    let t := State.cmhCommand ⟨1, some 0x21, List.replicate 15 0⟩
      { s with stc := { s.stc with ctx := s.stc.ctx.map fun c => { c with timer := some 1 } } }
    t.stc.ctx.bind (·.timer) = some 30000 ∧ t.bus = [.cmhAnswer .badField []] ∧ t.stc.op = none := by decide +kernel

theorem test_witness_StoreCommandsBeginOperations :
    (∀ s ∈ [onState, ctxState none, ctxState (some 19)],
      s.listens 1 = true ∧ s.cmh.configured = true ∧ s.stc.free = true ∧ s.quiet = true) ∧
      onState.stc.ctx = none ∧ (ctxState none).stc.ctx.isSome = true ∧
      (List.replicate 7 (0 : Word)).length = 7 ∧ (126 < (126 : Byte).toNat + [(0 : Word)].length ∧ (125 : Byte).toNat + [(0 : Word)].length ≤ 126) ∧
      (parseRecord (sectorWords (ctxState (some 19)).stc.mem 1 2 126)).map (·.length) = some (20 : Byte).toNat ∧
      (24 : Byte).toNat ≤ 24 ∧ (wordOf 3 231).toNat = 999 ∧ (wordOf 3 232).toNat = 1000 := by decide +kernel

theorem test_witness_ReadingCommandsAnswer :
    (∀ s ∈ [validState, sharingState], s.listens 1 = true ∧ s.cmh.configured = true ∧ s.stc.free = true ∧
      s.stc.table.length = 24 ∧ s.cmh.restartDue = false ∧ s.cmh.outstanding = none) ∧
      (122 : Byte).toNat ≤ 122 ∧ 122 < (123 : Byte).toNat ∧ 3 ≤ (3 : Byte).toNat ∧ (5 : Byte).toNat ≤ 5 ∧
      5 < (6 : Byte).toNat := by decide

/-! ### Inputs, interlocks and trips -/

/-- The door sampled closed three times, CUTOUT sampled tripped three times, and LOW sampled sixteen times. -/
def sampleState : State :=
  { onState with ilu := { onState.ilu with
      sampleTimer := 0
      inputs := { onState.ilu.inputs with
        door := ⟨some true, 3, false, false⟩, cutout := ⟨some false, 3, false, false⟩
        levelLow := ⟨some true, 15, false, false⟩, probe := ⟨some true, 3, false, true⟩ } } }

/-- A configurable term of a function over DOOR OPEN, with a mode. -/
def doorTerm (fn : TermFn) (persistence : Nat) (latched : Bool) : Term :=
  ⟨⟨1, false⟩, ⟨0, fn != .and⟩, ⟨0, fn == .or || fn == .xor⟩, fn, false, persistence, latched, 0x013F⟩

/-- The term of T0 evaluated, with an output, over a door that has settled. -/
def termState (x : Term) (open_ : Bool) (term : TermState) : State :=
  { tripState 4 term with ilu := { (tripState 4 term).ilu with
      t0 := some x
      inputs := { onState.ilu.inputs with door := ⟨some (!open_), 3, open_, true⟩ }
      terms := { onState.ilu.terms with p0 := ⟨false, some (!open_), none, !open_⟩, p4 := term } } }

/-- R157, R160, R163, R164: the fourth agreeing sample settles an input; it opens or closes the door, and the term over it
starts its persistence, sets its trip, or clears it. -/
theorem test_witness_SamplesFilterInputs :
    sampleState.quiet = true ∧ sampleState.ilu.builtInSound = true ∧ sampleState.ilu.inputs.door.last = some true ∧
      sampleState.ilu.inputs.probe.filtered = false ∧
      (∀ fn ∈ [TermFn.and, .or, .xor, .latch], ∀ persistence ∈ [0, 5], ∀ opens ∈ [true, false],
        let s := termState (doorTerm fn persistence false) opens ⟨false, some (!opens), none, !opens⟩
        s.quiet = true ∧ s.ilu.builtInSound = true ∧ s.ilu.held 4 = some (doorTerm fn persistence false) ∧
          (s.ilu.terms.get 4).output = some (!opens)) ∧
      (∀ persistence ∈ [0, 5],
        ((termState (doorTerm .and persistence false) true ⟨false, some false, none, false⟩).iluSample
          ⟨false, true, true, true, true, true, true, true⟩).ilu.terms.p4 =
            ⟨false, some true, if persistence = 0 then none else some 500, persistence == 0⟩) := by decide +kernel

theorem test_witness_TripsAreSetAndCleared :
    let waiting := tripState 4 ⟨false, some true, some 0, false⟩
    waiting.quiet = true ∧ (waiting.ilu.terms.get 4).timer.isSome = true ∧
      (waiting.ilu.terms.get 4).output = some true ∧ (waiting.ilu.terms.get 4).active = false ∧
      (∀ p ∈ ([1, 7] : List Place), ∀ t ∈ ([⟨false, some false, none, false⟩, ⟨false, some true, none, true⟩,
          ⟨false, some false, none, true⟩] : List TermState),
        (tripState p t).listens 1 = true ∧ (tripState p t).cmh.configured = true ∧
          (tripState p t).ilu.terms.get p = t) ∧
      lineState.listens 1 = true ∧ lineState.cmh.configured = false ∧ 7 < (8 : Byte).toNat ∧
      ({ onState with sgc := { onState.sgc with fitted := true } } : State).sgc.fitted = true ∧
      ({ onState with sgc := { onState.sgc with state := .fault } } : State).sgc.state = .fault ∧
      (termState (doorTerm .latch 0 true) true ⟨false, some true, none, true⟩).ilu.held 4 =
        some (doorTerm .latch 0 true) ∧ onState.ilu.terms.p2.output = some false := by decide

/-! ### The share line -/

/-- A state of the line with some conflicts in a row, and maybe a frame in flight at its start cell. -/
def conflictState (line : LineState) (consecutive : Nat) (frame : Option TxFrame) : State :=
  { onState with slc := { onState.slc with
      line := line, consecutive := consecutive, conflicts := 65535
      inFlight := frame.map fun f => ⟨f, (f.toFrame 0).bytes, 0⟩ } }

/-- One frame of each slot kind. -/
def slotFrames : List TxFrame := [.claim ⟨3, 101, 1⟩, .answer ⟨1, 0x40, .ok, [0, 0]⟩, .status onState.statusPayload]

/-- The last cell of a check byte is its stop cell, which is recessive; cell 7 is the destination's, recessive in a frame
to all. -/
theorem test_witness_LineErrorsAndConflictsAreCounted :
    (∀ line ∈ [LineState.lineOk, .silenced], ∀ n ∈ [0, 1, 2, 3],
      (conflictState line n none).quiet = true ∧ (conflictState line n none).slc.inFlight = none ∧
        (conflictState line n none).slc.rx = .waiting ∧ (conflictState line n none).slc.lineSound = true) ∧
      (∀ f ∈ slotFrames, ∀ n ∈ [1, 2],
        (conflictState .lineOk n (some f)).quiet = true ∧ (conflictState .lineOk n (some f)).slc.inFlight.isSome = true ∧
          (cellsOf (f.toFrame 0).bytes)[10 * (f.toFrame 0).bytes.length - 1]? = some .recessive) ∧
      (cellsOf ((TxFrame.claim ⟨3, 101, 1⟩).toFrame 0).bytes)[6]? = some .recessive ∧
      (∀ f ∈ ([⟨.claim, 1, 6, [0, 3, 0, 3, 3]⟩, ⟨.claim, 1, 7, [0]⟩, ⟨.command, 1, 7, [0x40]⟩,
          ⟨.answer, 1, 0, [0x40, 0]⟩, ⟨.command, 1, 2, [0x40]⟩] : List Frame),
        Frame.ofBytes f.bytes = some f ∧ f.source ≠ onState.slc.own ∧ f.source < 7) := by decide +kernel

/-- The four ways of R173 in which a reception ends as an error, the last with a wrong check byte after 16 payload
bytes. -/
theorem test_witness_LineErrorsAndConflictsAreCounted_faults :
    (∀ n : Byte, ([] : List Byte)[1]? = some n → n.toNat ≤ 16 ∧ 0 < n.toNat + 3) ∧
      (∀ n : Byte, ([0x0F, 16, 0] : List Byte)[1]? = some n →
        n.toNat ≤ 16 ∧ ([0x0F, 16, 0] : List Byte).length < n.toNat + 3) ∧
      16 < (17 : Byte).toNat ∧ checkByte (0x0F :: 16 :: List.replicate 16 0) ≠ 0x97 ∧
      (∀ n, ((cellsOf [0xFF]).take n).foldl idleCell 2 < 12 ∧ ((cellsOf [0xFF]).take n).foldl runCell 15 < 17) :=
  ⟨by simp, by rintro n h; cases h; decide, by decide, by decide +kernel, by
    intro n
    by_cases h : n < 10
    · exact (by decide : ∀ n, n < 10 → ((cellsOf [0xFF]).take n).foldl idleCell 2 < 12 ∧
        ((cellsOf [0xFF]).take n).foldl runCell 15 < 17) n h
    · rw [List.take_of_length_le (by rw [show (cellsOf [0xFF]).length = 10 by decide]; omega)]
      decide⟩

/-- A state with frames in the slots given, in an idle gap. -/
def slotState (claim : Option Claim) (answer : Option Answer) (idle : Nat) : State :=
  { onState with slc := { onState.slc with
      claimSlot := claim, answerSlot := answer, statusSlot := some onState.statusPayload, idleCount := idle } }

/-- Cell 1 of an ANSWER and of a STATUS frame is driven recessive, and cell 5 of a claim of an odd station. -/
theorem test_witness_FramesAreSentFromSlots :
    (∀ claim ∈ [none, some ⟨3, 101, 1⟩], ∀ answer ∈ [none, some ⟨1, 0x40, .ok, []⟩], ∀ idle ∈ [11, 12],
      (slotState claim answer idle).quiet = true ∧ (slotState claim answer idle).slc.line = .lineOk ∧
        (slotState claim answer idle).slc.inFlight = none ∧ (slotState claim answer idle).slc.rx ≠ .receiving ∧
        (slotState claim answer idle).slc.idleCount = idle) ∧
      (∀ f ∈ slotFrames, (conflictState .lineOk 1 (some f)).quiet = true) ∧ onState.slc.own = 0 ∧
      (cellsOf ((TxFrame.answer ⟨1, 0x40, .ok, []⟩).toFrame 0).bytes)[1]? = some .recessive ∧
      (cellsOf ((TxFrame.claim ⟨3, 101, 1⟩).toFrame 1).bytes)[5]? = some .recessive ∧
      sharingState.lsu.mode = .sharing ∧ isolatedState.lsu.mode ≠ .sharing := by decide +kernel

/-- Section 9.9: the oven of station 4 sends its claim, the hob of station 1 sends its own. -/
def ovenSends : State :=
  { onState with slc := { onState.slc with
      own := 4, inFlight := some ⟨.claim ⟨3, 101, 1⟩, (TxFrame.toFrame 4 (.claim ⟨3, 101, 1⟩)).bytes, 0⟩ } }

/-- Table 9-7: the oven loses at cell 3, with the frame back in its slot and four header cells of the hob read. -/
theorem test_arbitration_lost :
    (ovenSends.slcLoss 2).slc.claimSlot = some ⟨3, 101, 1⟩ ∧ (ovenSends.slcLoss 2).slc.arbitrationLosses = 1 ∧
      (ovenSends.slcLoss 2).slc.rxCells = (byteCells 0x0F).take 4 ∧ ovenSends.slcLoss 1 = ovenSends := by decide +kernel

/-- Section 9.9: the hob's claim is then read whole and acknowledged, with the idle count at 0. -/
theorem test_winner_received :
    let t := (ovenSends.slcLoss 2).receive ⟨.claim, 1, 7, [0, 0, 0, 80, 0]⟩ .recessive
    t.bus = [.lsuClaim 1 0 80 0] ∧ t.slc.idleCount = 0 ∧ t.slc.rx = .ignoring := by decide +kernel

/-- Section 9.9: two cells after the acknowledge cell the idle count is 2, and ten more make the gap. -/
theorem test_idle_gap_after_frame :
    let l := ((onState.slc.read ⟨.claim, 1, 7, [0, 0, 0, 80, 0]⟩ .dominant).counts [.recessive, .recessive])
    l.idleCount = 2 ∧ l.tick.idleCount = 12 ∧ l.tick.rx = .waiting := by decide +kernel

/-- A line that is not read for frames, with the counts given. -/
def ignoredLine (line : LineState) (idle run : Nat) : State :=
  { onState with slc := { onState.slc with line := line, rx := .ignoring, idleCount := idle, dominantRun := run } }

/-- Cells of the two levels. -/
def levels (dominant recessive : Nat) : List Level :=
  List.replicate dominant .dominant ++ List.replicate recessive .recessive

/-- R181: 17 dominant cells end a reception as a framing fault at the tenth and make a stuck line at the last. -/
theorem test_stuck_line_while_waiting :
    let t := onState.slcReceptionError (levels 17 0)
    t.slc.line = .lineFault ∧ t.slc.checkErrors = 1 ∧ t.bus = [.cmhSlotEmpty, .lsuLineFault] ∧
      t.evq = onState.evq.append .lineFault 0 1 := by decide +kernel

/-- R181, R182: a dominant cell before the twelfth recessive cell restarts the count. -/
theorem test_idle_count_restarts :
    ((ignoredLine .lineFault 11 0).slcReceptionError (levels 1 11)).slc.line = .lineFault ∧
      ((ignoredLine .lineFault 11 0).slcReceptionError (levels 1 12)).slc.line = .lineOk ∧
      ((ignoredLine .syncing 11 0).slcReceptionError (levels 1 11)).slc.line = .syncing ∧
      ((ignoredLine .syncing 11 0).slcReceptionError (levels 1 12)).slc.line = .lineOk := by decide +kernel

theorem test_witness_LineStatesFollowTheLine_counts :
    (∀ s ∈ [ignoredLine .syncing 0 16, ignoredLine .lineOk 0 16, ignoredLine .syncing 11 0, ignoredLine .lineFault 11 0,
        ignoredLine .lineFault 0 17],
      s.quiet = true ∧ s.slc.inFlight = none ∧ s.slc.rx = .ignoring) ∧
      (ignoredLine .syncing 0 16).slc.lineSound = true ∧ ((ignoredLine .syncing 0 16).slc.counts (levels 1 0)).dominantRun = 17 ∧
      ((ignoredLine .lineFault 0 17).slc.counts (levels 1 12)).idleCount = 12 ∧
      ((ignoredLine .syncing 11 0).slc.counts (levels 1 12)).idleCount = 12 ∧
      (∀ n, n < 13 → ((levels 1 12).take n).foldl idleCell 11 < 12 ∧ ((levels 1 12).take n).foldl runCell 0 < 17) ∧
      (∃ t, step { ignoredLine .syncing 0 16 with pending := [.receptionError (levels 1 0)] } = .next t) :=
  ⟨by decide, by decide, by decide, by decide, by decide, by decide, _, rfl⟩

theorem test_witness_LineStatesFollowTheLine :
    (∀ line ∈ [LineState.syncing, .lineOk, .lineFault, .silenced],
      (conflictState line 0 none).quiet = true ∧ (conflictState line 0 none).pending = []) ∧
      (∀ f ∈ slotFrames, ∃ g, (conflictState .lineOk 0 (some f)).slc.inFlight = some g ∧ g.cell < g.cells.length) ∧
      State.reset.lsu.mode = .waiting ∧ sharingState.lsu.mode ≠ .isolated ∧ isolatedState.lsu.mode = .isolated ∧
      isolatedState.lsu.silenced = false :=
  ⟨by decide, by
    intro f hf
    exact ⟨_, rfl, (by decide +kernel : ∀ f ∈ slotFrames, 0 < (cellsOf (f.toFrame 0).bytes).length) f hf⟩,
    by decide, by decide, by decide, by decide⟩

/-! ### Commands, status and events -/

theorem test_witness_DecodingRefusesByFirstTest :
    (∀ i ∈ [Instr.unknownCommand 1 none [], .unknownCommand 1 (some 0x05) [], .stop 1 [0], .stop 1 [],
        .configLoads 1 (List.replicate 7 0), .configDone 1 [], .storeWrite 1 (List.replicate 15 0), .storeWrite 1 []],
      i.wellFormed = true ∧ i.panelCommand.isSome = true) ∧
      lengthAllowed 0x21 15 = false ∧ lengthAllowed 0x21 0 = false ∧ (ctxState none).listens 1 = true ∧
      (ctxState none).stc.ctx.isSome = true ∧ lengthAllowed 0x17 1 = false ∧ lengthAllowed 0x17 0 = true ∧ lengthAllowed 0x01 7 = true ∧
      lengthAllowed 0x03 0 = true ∧ lineState.listens 1 = true ∧ lineState.cmh.configured = false ∧
      onState.listens 1 = true ∧ onState.cmh.configured = true := by decide

/-- A CONFIG_TERM payload for term `n`, of zeros otherwise. -/
def termPayload (n : Byte) : List Byte := [n, 0, 0, 0, 0, 0, 0, 0]

theorem test_witness_ConfigurationIsReached :
    let held := { lineState with cmh := { lineState.cmh with loads := some exampleBuild } }
    let early := { lineState with stc := State.reset.stc };
    (∀ s ∈ [lineState, held], s.listens 1 = true ∧ s.cmh.configured = false ∧ s.stc.scanned = true) ∧
      lineState.cmh.loads = none ∧ held.cmh.loads ≠ none ∧
      early.listens 1 = true ∧ early.cmh.configured = false ∧ early.stc.scanned = false ∧
      (loadsOf [45, 55, 50, 50, 90, 90, 7]) = some exampleBuild ∧ (150 : Byte).toNat ≤ 150 ∧ 150 < (151 : Byte).toNat ∧
      (∀ n ∈ ([0, 1, 2, 3] : List Byte), ((termOf (termPayload n)).map fun x => x.1.val) = some n.toNat) ∧
      termOf (termPayload 4) = none ∧
      (let done := { held with
          cmh := { held.cmh with doneHeld := true, buffer := some ⟨1, some 0x03, []⟩ }
          ilu := { held.ilu with inputs := { held.ilu.inputs with
            door := ⟨some true, 4, true, true⟩, tank := ⟨some true, 4, true, true⟩
            levelLow := ⟨some true, 16, true, true⟩, levelHigh := ⟨some true, 16, true, true⟩
            tray := ⟨some true, 4, true, true⟩, cutout := ⟨some true, 4, true, true⟩
            probe := ⟨some true, 4, true, true⟩, ventClosed := ⟨some true, 4, true, true⟩ } } };
        done.bus = [] ∧ done.cmh.doneHeld = true ∧ done.cmh.loads = some exampleBuild ∧ done.stc.scanned = true ∧
          done.ilu.allSettled = true) ∧
      (let deferred := { lineState with cmh := { lineState.cmh with
          deferred := true, buffer := some ⟨1, some 0x01, [45, 55, 50, 50, 90, 90, 7]⟩ } };
        deferred.bus = [] ∧ deferred.cmh.deferred = true ∧ deferred.stc.scanned = true) := by decide

/-- A state with `n` events queued and 255 lost. -/
def eventState (n : Nat) : State :=
  { onState with evq := { onState.evq with queue := List.replicate n ⟨.peerJoined, 1, 0, 2⟩, lost := 255 } }

theorem test_witness_EventsAreFetchedInFrames :
    (∀ n ∈ [0, 1, 2, 16], (eventState n).listens 1 = true) ∧
      (∀ line ∈ [LineState.lineOk, .syncing], ∀ more ∈ [[], [⟨1, 0x40, .ok, []⟩]],
        let s := { conflictState line 0 none with
          cmh := { onState.cmh with moreFrames := ⟨1, 0x40, .ok, []⟩ :: more } }
        let w := { conflictState line 0 none with cmh := { onState.cmh with answerWaiting := some ⟨1, 0x40, .ok, []⟩ } }
        s.bus = [] ∧ s.cmh.outstanding = none ∧ s.cmh.answerWaiting = none ∧ s.slc.answerSlot = none ∧
          w.bus = [] ∧ w.cmh.outstanding = none ∧ w.cmh.moreFrames = [] ∧ w.slc.answerSlot = none) := by decide

theorem test_witness_StatusFramesFollowTimers :
    (∀ held ∈ [true, false],
      let s := { onState with cmh := { onState.cmh with intervalTimer := some 0, changeHeld := held, statusTimer := 0 } }
      s.quiet = true ∧ s.cmh.intervalTimer.isSome = true ∧ s.cmh.changeHeld = held) ∧
      onState.cmh.intervalTimer = none ∧ onState.rsq.index < 256 ∧ onState.clc.setpoint = none ∧
      onState.clc.core = none ∧ onState.lsu.limit < 65536 ∧ onState.evq.queue.length ≤ 16 ∧
      (runState .running .time .active 0 3).rsq.live = some (stepOf .time) ∧ (stepOf .time).duration < 65536 ∧
      ((runState .running .time .active 0 3).statusPayload.drop 9).take 2 = [3, 0x84] := by decide

/-- A CONFIGURED oven with a generator, at a state of the program. -/
def scaleState (p : ProgState) (resume : Option ProgState) (rinse : Bool) : State :=
  { onState with sdu := { onState.sdu with fitted := true, pstate := p, resume := resume, rinse := rinse } }

theorem test_witness_ScaleCommandsSteerPrograms :
    (∀ s ∈ [onState, scaleState .idle none false, scaleState .idle none true, scaleState .promptSolution none false,
        scaleState .promptSolution (some .draw) false, scaleState .abortDrain none false, scaleState .soak none true],
      s.listens 1 = true ∧ s.cmh.configured = true) ∧
      onState.sdu.fitted = false ∧ (scaleState .idle none false).sdu.run = .idle ∧
      (scaleState .idle none false).sdu.gen = .empty := by decide

end Sys2Proof.Tests
end

section
/-! SUPPORT. Derived values (Tables 1-2, 4-4, 6-5; R16 to R18, R48, R59, R61, R65, R84, R85, R133): when the values of a
block stand as their rules give them, and that every doing of a block keeps them so. -/

namespace Sys2Proof.Machine

/-! ### Values up to date, block by block -/

/-- R16 to R18: fan level, preheat condition and heat-limited indication stand as their rules give them. -/
def Clc.Fresh (c : Clc) : Prop := c.refresh = c

/-- R48, R59, R61, R65: the demand claim, the allowance and the applied limit stand as their rules give them. -/
def Lsu.Fresh (l : Lsu) : Prop := l.refresh = l ∧ l.dc = l.demandClaim

/-- R84, R85: the BOILER demand and the boiler want stand as their rules give them. -/
def Sgc.Fresh (g : Sgc) : Prop := g.refresh = g

/-- R133: the cooking request stands as its rule gives it. -/
def Rsq.Fresh (r : Rsq) : Prop := r.cooking = r.cookingNow

/-- The derived values of a block are up to date; six blocks hold none. -/
def Block.Fresh : Block → State → Prop
  | .clc, s => s.clc.Fresh
  | .lsu, s => s.lsu.Fresh
  | .sgc, s => s.sgc.Fresh
  | .rsq, s => s.rsq.Fresh
  | _, _ => True

/-- The derived values of every block are up to date. -/
def State.AllFresh (s : State) : Prop := ∀ k : Block, k.Fresh s

theorem State.fresh_iff {s : State} : s.fresh = true ↔ s.AllFresh := by
  simp only [State.fresh, Bool.and_eq_true, decide_eq_true_eq]
  constructor
  · rintro ⟨⟨⟨⟨hclc, hlsu⟩, hdc⟩, hsgc⟩, hrsq⟩ k
    cases k
    case clc => exact hclc
    case lsu => exact ⟨hlsu, hdc⟩
    case sgc => exact hsgc
    case rsq => exact hrsq
    all_goals exact True.intro
  · intro h
    exact ⟨⟨⟨⟨h .clc, (h .lsu).1⟩, (h .lsu).2⟩, h .sgc⟩, h .rsq⟩

/-- Freshness of a block depends on its own component only. -/
theorem BlockStep.fresh_other {k j : Block} {s t : State} (h : BlockStep k s t) (hkj : k ≠ j) (hs : j.Fresh s) :
    j.Fresh t := by
  cases j
  case clc => rwa [Block.Fresh, h.clc hkj]
  case lsu => rwa [Block.Fresh, h.lsu hkj]
  case sgc => rwa [Block.Fresh, h.sgc hkj]
  case rsq => rwa [Block.Fresh, h.rsq hkj]
  all_goals exact True.intro

/-- The doings of one block keep all derived values up to date where they keep its own. -/
theorem BlockStep.keeps_fresh {k : Block} {s t : State} (h : BlockStep k s t) (hk : k.Fresh s → k.Fresh t)
    (hs : s.AllFresh) : t.AllFresh := by
  intro j
  by_cases hkj : k = j
  · exact hkj ▸ hk (hs k)
  · exact h.fresh_other hkj (hs j)

/-- The queue of commands, the bus, the pins and the event queue do not enter the derived values. -/
theorem State.AllFresh.of_same {s t : State} (hs : s.AllFresh) (hclc : t.clc = s.clc) (hlsu : t.lsu = s.lsu)
    (hsgc : t.sgc = s.sgc) (hrsq : t.rsq = s.rsq) : t.AllFresh := by
  intro j
  cases j
  case clc => rw [Block.Fresh, hclc]; exact hs .clc
  case lsu => rw [Block.Fresh, hlsu]; exact hs .lsu
  case sgc => rw [Block.Fresh, hsgc]; exact hs .sgc
  case rsq => rw [Block.Fresh, hrsq]; exact hs .rsq
  all_goals exact True.intro

/-! ### The climate controller -/

/-- What the CLC takes is brought up to date as it is taken. -/
theorem State.clcTo_fresh {c : Clc} {after : List Signal} {s : State} : (s.clcTo c after).clc.Fresh := rfl

theorem State.clcUpdate_fresh {s : State} (h : s.clc.Fresh) : s.clcUpdate.clc.Fresh := by
  unfold State.clcUpdate; split
  · exact State.clcTo_fresh
  · exact h

theorem State.clcControlExpiry_fresh {s : State} (h : s.clc.Fresh) : s.clcControlExpiry.clc.Fresh := by
  unfold State.clcControlExpiry; split
  · exact State.clcUpdate_fresh h
  · exact h

theorem State.clcMeasure_fresh (cavity core boiler : Int) (s : State) :
    (s.clcMeasure cavity core boiler).clc.Fresh := by
  unfold State.clcMeasure; dsimp only; split <;> exact State.clcTo_fresh

theorem State.clcRunOnExpiry_fresh {s : State} (h : s.clc.Fresh) : s.clcRunOnExpiry.clc.Fresh := by
  unfold State.clcRunOnExpiry; split
  · exact State.clcTo_fresh
  · exact h

theorem State.clcStep_fresh (l : LiveStep) (s : State) : (s.clcStep l).clc.Fresh := by
  unfold State.clcStep; dsimp only; split <;> exact State.clcTo_fresh

theorem State.clcRun_fresh (r : RunState) (s : State) : (s.clcRun r).clc.Fresh := by
  cases r
  case finishing => unfold State.clcRun; dsimp only; split <;> exact State.clcTo_fresh
  all_goals exact State.clcTo_fresh

theorem State.clcTrip_fresh (p : Place) (a : Word) (on : Bool) (s : State) : (s.clcTrip p a on).clc.Fresh := by
  unfold State.clcTrip; dsimp only; split
  · exact State.clcTo_fresh
  · split <;> exact State.clcTo_fresh

theorem State.clcVent_fresh (closed : Bool) (s : State) : (s.clcVent closed).clc.Fresh := by
  unfold State.clcVent; dsimp only; split
  · exact State.clcTo_fresh
  · split
    · exact State.clcTo_fresh
    · exact State.clcTo_fresh
    · exact State.clcTo_fresh
    · split <;> exact State.clcTo_fresh

theorem State.clcOpenExpiry_fresh {s : State} (h : s.clc.Fresh) : s.clcOpenExpiry.clc.Fresh := by
  unfold State.clcOpenExpiry; split
  · exact State.clcTo_fresh
  · exact h

theorem State.clcCloseExpiry_fresh {s : State} (h : s.clc.Fresh) : s.clcCloseExpiry.clc.Fresh := by
  unfold State.clcCloseExpiry; split
  · exact State.clcTo_fresh
  · exact h

/-! ### The load share unit -/

/-- The LSU brings the allowance and the limit up to date; the demand claim is as fresh as in the state it takes. -/
theorem State.lsuTo_fresh {new : Lsu} {after : List Signal} {s : State} (h : new.dc = new.demandClaim) :
    (s.lsuTo new after).lsu.Fresh := ⟨rfl, h⟩

theorem State.lsuInputs_fresh (new : Lsu) (s : State) : (s.lsuInputs new).lsu.Fresh := State.lsuTo_fresh rfl

theorem State.lsuListenExpiry_fresh {s : State} (h : s.lsu.Fresh) : s.lsuListenExpiry.lsu.Fresh := by
  unfold State.lsuListenExpiry; split
  · exact State.lsuTo_fresh h.2
  · exact h

theorem State.lsuPeriodExpiry_fresh {s : State} (h : s.lsu.Fresh) : s.lsuPeriodExpiry.lsu.Fresh := by
  unfold State.lsuPeriodExpiry; split
  · exact State.lsuTo_fresh h.2
  · exact h

theorem State.lsuIntervalExpiry_fresh {s : State} (h : s.lsu.Fresh) : s.lsuIntervalExpiry.lsu.Fresh := by
  unfold State.lsuIntervalExpiry; split
  · exact State.lsuTo_fresh h.2
  · exact h

theorem State.lsuHoldOffExpiry_fresh {s : State} (h : s.lsu.Fresh) : s.lsuHoldOffExpiry.lsu.Fresh := by
  unfold State.lsuHoldOffExpiry; split
  · exact State.lsuTo_fresh h.2
  · exact h

/-- R63 leaves the demand claim and its inputs. -/
theorem Lsu.takeSent_dc (l : Lsu) (c : Claim) :
    (l.takeSent c).dc = l.dc ∧ (l.takeSent c).demandClaim = l.demandClaim := by
  unfold Lsu.takeSent; dsimp only; split <;> exact ⟨rfl, rfl⟩

theorem State.lsuSent_fresh (c : Claim) {s : State} (h : s.lsu.Fresh) : (s.lsuSent c).lsu.Fresh := by
  obtain ⟨hdc, hclaim⟩ := Lsu.takeSent_dc s.lsu c
  unfold State.lsuSent; split
  · exact h
  · exact h
  · exact State.lsuTo_fresh (hdc.trans (h.2.trans hclaim.symm))

theorem State.lsuAbandoned_fresh {s : State} (h : s.lsu.Fresh) : s.lsuAbandoned.lsu.Fresh := by
  unfold State.lsuAbandoned; split
  · exact h
  · exact h
  · exact State.lsuTo_fresh h.2

theorem State.lsuClaim_fresh (n : Fin 8) (f w k : Nat) {s : State} (h : s.lsu.Fresh) :
    (s.lsuClaim n f w k).lsu.Fresh := by
  unfold State.lsuClaim; split
  · dsimp only; split
    · exact State.lsuTo_fresh h.2
    · split <;> exact State.lsuTo_fresh h.2
  · exact h

theorem State.lsuPeerSilent_fresh (n : Nat) {s : State} (h : s.lsu.Fresh) : (s.lsuPeerSilent n).lsu.Fresh := by
  unfold State.lsuPeerSilent; split
  · exact h
  · split
    · exact h
    · exact State.lsuTo_fresh h.2

theorem State.lsuPeerLost_fresh (n : Nat) {s : State} (h : s.lsu.Fresh) : (s.lsuPeerLost n).lsu.Fresh := by
  unfold State.lsuPeerLost; split
  · exact h
  · split
    · exact State.lsuTo_fresh h.2
    · exact h

theorem State.lsuLineOk_fresh {s : State} (h : s.lsu.Fresh) : s.lsuLineOk.lsu.Fresh := by
  unfold State.lsuLineOk; split
  · exact State.lsuTo_fresh h.2
  · split
    · exact h
    · exact State.lsuTo_fresh h.2
  · exact h

theorem State.lsuLineFault_fresh {s : State} (h : s.lsu.Fresh) : s.lsuLineFault.lsu.Fresh := by
  unfold State.lsuLineFault; split
  · exact h
  · exact State.lsuTo_fresh h.2

theorem State.lsuSilenced_fresh {s : State} (h : s.lsu.Fresh) : s.lsuSilenced.lsu.Fresh := by
  unfold State.lsuSilenced; dsimp only; split <;> exact State.lsuTo_fresh h.2

theorem State.takeReadPeers_fresh {payload : List Byte} {s : State} (h : s.lsu.Fresh) :
    (s.takeReadPeers payload).lsu.Fresh := by
  unfold State.takeReadPeers; split <;> exact h

/-! ### The steam generator controller -/

/-- What the SGC takes is brought up to date as it is taken. -/
theorem State.sgcTo_fresh {g : Sgc} {s : State} : (s.sgcTo g).sgc.Fresh := rfl

theorem State.sgcEntry_fresh {s : State} (h : s.sgc.Fresh) : s.sgcEntry.sgc.Fresh := by
  unfold State.sgcEntry; dsimp only; split
  · split
    · exact State.sgcTo_fresh
    · exact h
  · split
    · exact State.sgcTo_fresh
    · exact h
  · split
    · rw [State.emit_sgc]; exact State.sgcTo_fresh
    · exact h
  · split
    · split
      · exact State.sgcTo_fresh
      · exact h
    · exact h
  · split
    · exact State.sgcTo_fresh
    · exact h
  · exact h

theorem State.sgcProgram_fresh (r : ProgRequest) (s : State) : (s.sgcProgram r).sgc.Fresh := by
  unfold State.sgcProgram; dsimp only; split
  · split
    · rw [State.emit_sgc]; exact State.sgcTo_fresh
    · exact State.sgcTo_fresh
  · exact State.sgcTo_fresh

theorem State.sgcTank_fresh (present settled : Bool) (s : State) : (s.sgcTank present settled).sgc.Fresh := by
  unfold State.sgcTank; dsimp only; split
  · exact State.sgcTo_fresh
  · split
    · split <;> exact State.sgcTo_fresh
    · split <;> exact State.sgcTo_fresh

theorem State.sgcTrip_fresh (p : Place) (a : Word) (on : Bool) (s : State) : (s.sgcTrip p a on).sgc.Fresh := by
  unfold State.sgcTrip; dsimp only; split
  · split <;> exact State.sgcTo_fresh
  · split
    · split <;> exact State.sgcTo_fresh
    · exact State.sgcTo_fresh

theorem State.sgcFillTimeout_fresh {s : State} (h : s.sgc.Fresh) : s.sgcFillTimeout.sgc.Fresh := by
  unfold State.sgcFillTimeout; dsimp only; split
  · exact State.sgcTo_fresh
  · exact h

theorem State.sgcDrainExpiry_fresh {s : State} (h : s.sgc.Fresh) : s.sgcDrainExpiry.sgc.Fresh := by
  unfold State.sgcDrainExpiry; dsimp only; split
  · split
    · exact State.sgcTo_fresh
    · split <;> exact State.sgcTo_fresh
  · exact h

theorem State.sgcConfirm_fresh {s : State} (h : s.sgc.Fresh) : s.sgcConfirm.sgc.Fresh := by
  unfold State.sgcConfirm; split
  · rw [State.answer_sgc]; exact State.sgcTo_fresh
  · exact h

/-! ### The recipe sequencer -/

/-- What the RSQ takes is brought up to date as it is taken. -/
theorem State.rsqTo_fresh {r : Rsq} {before mid after : List Signal} {s : State} :
    (s.rsqTo r before mid after).rsq.Fresh := rfl

theorem State.rsqFinish_fresh {e : EndReason} {s : State} : (s.rsqFinish e).rsq.Fresh := State.rsqTo_fresh

theorem State.rsqRunOnEnd_fresh {s : State} (h : s.rsq.Fresh) : s.rsqRunOnEnd.rsq.Fresh := by
  unfold State.rsqRunOnEnd; split
  · exact State.rsqTo_fresh
  · exact h

theorem State.rsqStepEnd_fresh {s : State} : s.rsqStepEnd.rsq.Fresh := by
  unfold State.rsqStepEnd; split
  · exact State.rsqTo_fresh
  · exact State.rsqFinish_fresh

theorem State.rsqActive_fresh {s : State} : s.rsqActive.rsq.Fresh := by
  unfold State.rsqActive; dsimp only; split
  · exact State.rsqStepEnd_fresh
  · exact State.rsqTo_fresh

theorem State.rsqPromptOrActive_fresh {l : LiveStep} {s : State} : (s.rsqPromptOrActive l).rsq.Fresh := by
  unfold State.rsqPromptOrActive; split
  · exact State.rsqActive_fresh
  · exact State.rsqTo_fresh

theorem State.rsqPreheatTest_fresh {s : State} (h : s.rsq.Fresh) : s.rsqPreheatTest.rsq.Fresh := by
  unfold State.rsqPreheatTest; split
  · split
    · exact State.rsqPromptOrActive_fresh
    · exact h
  · exact h

theorem State.rsqDecide_fresh {l : LiveStep} {s : State} : (s.rsqDecide l).rsq.Fresh := by
  unfold State.rsqDecide; split
  · exact State.rsqPreheatTest_fresh (State.rsqTo_fresh)
  · exact State.rsqPromptOrActive_fresh

theorem State.rsqReasons_fresh (r : Reasons) {s : State} (h : s.rsq.Fresh) : (s.rsqReasons r).rsq.Fresh := by
  unfold State.rsqReasons; dsimp only; split
  · exact h
  · split
    · exact State.rsqTo_fresh
    · split <;> exact State.rsqTo_fresh

theorem State.rsqResumed_fresh {s : State} (h : s.rsq.Fresh) : s.rsqResumed.rsq.Fresh := by
  unfold State.rsqResumed; split
  · split
    · split
      · exact State.rsqStepEnd_fresh
      · exact h
    · exact State.rsqPreheatTest_fresh h
  · exact h

theorem State.rsqProbePrompt_fresh {s : State} (h : s.rsq.Fresh) : s.rsqProbePrompt.rsq.Fresh :=
  State.rsqReasons_fresh _ (s := s.post _ _ _) h

theorem State.rsqProbe_fresh (present : Bool) (s : State) : (s.rsqProbe present).rsq.Fresh := by
  have h : (s.rsqTo { s.rsq with probe := present } [] [] []).rsq.Fresh := State.rsqTo_fresh
  unfold State.rsqProbe; dsimp only; split
  · split
    · exact State.rsqReasons_fresh _ h
    · exact h
  · split
    · exact State.rsqProbePrompt_fresh h
    · exact h

theorem State.rsqEntry_fresh {s : State} (h : s.rsq.Fresh) : s.rsqEntry.rsq.Fresh := by
  unfold State.rsqEntry; split
  · split
    · exact State.rsqDecide_fresh
    · exact h
  · exact h

theorem State.rsqEnter_fresh (l : LiveStep) {s : State} (h : s.rsq.Fresh) : (s.rsqEnter l).rsq.Fresh := by
  unfold State.rsqEnter; split
  · exact State.rsqProbePrompt_fresh h
  · exact State.rsqDecide_fresh

theorem State.rsqBegin_fresh (step : RawStep) {s : State} (h : s.rsq.Fresh) : (s.rsqBegin step).rsq.Fresh := by
  unfold State.rsqBegin; split
  · split
    · exact State.rsqTo_fresh
    · exact h
  · exact h

theorem State.rsqBegun_fresh {s : State} (h : s.rsq.Fresh) : s.rsqBegun.rsq.Fresh := by
  unfold State.rsqBegun; split
  · exact h
  · next l _ =>
    split
    · exact h
    · refine State.rsqEnter_fresh l (s := State.post _ _ _ _) ?_
      show (ite _ s _ : State).rsq.Fresh
      split
      · exact h
      · exact State.rsqReasons_fresh _ h

theorem State.rsqStart_fresh {r : Rsq} {after : List Signal} {s : State} : (s.rsqStart r after).rsq.Fresh :=
  State.rsqTo_fresh

theorem State.takeStartManual_fresh (payload : List Byte) {s : State} (h : s.rsq.Fresh) :
    (s.takeStartManual payload).rsq.Fresh := by
  unfold State.takeStartManual; split
  · exact h
  · split
    · exact h
    · split
      · exact h
      · exact h
      · rw [State.answer_rsq]; exact State.rsqStart_fresh

theorem State.takeRunRecipe_fresh (payload : List Byte) {s : State} (h : s.rsq.Fresh) :
    (s.takeRunRecipe payload).rsq.Fresh := by
  unfold State.takeRunRecipe; dsimp only; split
  · exact h
  · split
    · exact State.rsqTo_fresh
    · exact h

theorem State.rsqStartRead_fresh (ws : List Word) {s : State} (h : s.rsq.Fresh) : (s.rsqStartRead ws).rsq.Fresh := by
  unfold State.rsqStartRead; split
  · exact h
  · dsimp only; split
    · exact h
    · split
      · exact h
      · split
        · exact h
        · rw [State.answer_rsq]; exact State.rsqStart_fresh

theorem State.rsqStepRead_fresh (ws : List Word) {s : State} (h : s.rsq.Fresh) : (s.rsqStepRead ws).rsq.Fresh := by
  unfold State.rsqStepRead; split
  · split
    · exact State.rsqBegin_fresh _ h
    · exact h
  · exact h

theorem State.rsqPreheat_fresh (on : Bool) (s : State) : (s.rsqPreheat on).rsq.Fresh :=
  State.rsqPreheatTest_fresh (State.rsqTo_fresh)

theorem State.rsqCore_fresh (c : Option Int) (s : State) : (s.rsqCore c).rsq.Fresh := by
  unfold State.rsqCore; dsimp only; split
  · exact State.rsqStepEnd_fresh
  · exact State.rsqTo_fresh

/-- The trips that the RSQ holds do not enter the cooking request. -/
theorem Rsq.takeTrip_fresh (p : Place) (a : Word) (on : Bool) {r : Rsq} (h : r.Fresh) : (r.takeTrip p a on).Fresh := by
  unfold Rsq.takeTrip; split <;> exact h

theorem State.rsqTrip_fresh (p : Place) (a : Word) (on : Bool) {s : State} (h : s.rsq.Fresh) :
    (s.rsqTrip p a on).rsq.Fresh := by
  have ht := Rsq.takeTrip_fresh p a on h
  unfold State.rsqTrip; dsimp only; split
  · split
    · exact State.rsqFinish_fresh
    · exact State.rsqReasons_fresh _ ht
  · exact ht

theorem State.rsqTank_fresh (waiting : Bool) {s : State} (h : s.rsq.Fresh) : (s.rsqTank waiting).rsq.Fresh :=
  State.rsqReasons_fresh _ (s := s.setRsq { s.rsq with tankWait := waiting }) h

theorem State.rsqStepTimeEnd_fresh {s : State} (h : s.rsq.Fresh) : s.rsqStepTimeEnd.rsq.Fresh := by
  unfold State.rsqStepTimeEnd; split
  · split
    · exact State.rsqStepEnd_fresh
    · exact h
  · exact h

theorem State.rsqPauseExpiry_fresh {s : State} (h : s.rsq.Fresh) : s.rsqPauseExpiry.rsq.Fresh := by
  unfold State.rsqPauseExpiry; split
  · exact State.rsqFinish_fresh
  · exact h

theorem State.rsqRunCap_fresh {s : State} (h : s.rsq.Fresh) : s.rsqRunCap.rsq.Fresh := by
  unfold State.rsqRunCap; split
  · exact State.rsqFinish_fresh
  · exact h

theorem State.takeAdjust_fresh (payload : List Byte) {s : State} (h : s.rsq.Fresh) :
    (s.takeAdjust payload).rsq.Fresh := by
  unfold State.takeAdjust; split
  · exact h
  · exact h
  · exact h
  · split
    · exact h
    · split
      · exact h
      · rw [State.answer_rsq]; exact State.rsqTo_fresh

theorem State.takePause_fresh {s : State} (h : s.rsq.Fresh) : s.takePause.rsq.Fresh := by
  unfold State.takePause; split
  · rw [State.answer_rsq]; exact State.rsqReasons_fresh _ h
  · exact h

theorem State.takeResume_fresh {s : State} (h : s.rsq.Fresh) : s.takeResume.rsq.Fresh := by
  unfold State.takeResume; split
  · rw [State.answer_rsq]; exact State.rsqReasons_fresh _ h
  · exact h

theorem State.takeSkipStep_fresh {s : State} (h : s.rsq.Fresh) : s.takeSkipStep.rsq.Fresh := by
  unfold State.takeSkipStep; split
  · exact h
  · split
    · exact h
    · rw [State.answer_rsq]; exact State.rsqStepEnd_fresh

theorem State.takeStop_fresh {s : State} (h : s.rsq.Fresh) : s.takeStop.rsq.Fresh := by
  unfold State.takeStop; split
  · rw [State.answer_rsq]; exact State.rsqFinish_fresh
  · exact h

theorem State.rsqConfirm_fresh {s : State} (h : s.rsq.Fresh) : s.rsqConfirm.rsq.Fresh := by
  unfold State.rsqConfirm; split
  · rw [State.answer_rsq]; exact State.rsqActive_fresh
  · split
    · split
      · rw [State.answer_rsq]; exact State.rsqStepEnd_fresh
      · exact h
    · exact h

/-! ### Every delivery -/

/-- Every delivery but a command leaves the derived values of the block that takes it up to date. -/
theorem handle_fresh (sig : Signal) (h : sig.isCommand = false) {s : State} (hs : sig.block.Fresh s) :
    sig.block.Fresh (handle sig s) := by
  cases sig with
  | clcDispatch => exact State.clcTo_fresh
  | clcRun r => exact State.clcRun_fresh r s
  | clcStep l => exact State.clcStep_fresh l s
  | clcUpdate => exact State.clcUpdate_fresh hs
  | clcAdjust => exact State.clcTo_fresh
  | clcTrip p a on => exact State.clcTrip_fresh p a on s
  | clcProbe => exact State.clcTo_fresh
  | clcVent closed _ => exact State.clcVent_fresh closed s
  | clcGenerator => exact State.clcTo_fresh
  | clcConfigured => exact State.clcTo_fresh
  | sgcCooking => exact State.sgcTo_fresh
  | sgcGrant => exact State.sgcTo_fresh
  | sgcProgram r => exact State.sgcProgram_fresh r s
  | sgcDrainOrder => exact State.sgcTo_fresh
  | sgcTank present settled => exact State.sgcTank_fresh present settled s
  | sgcLow => exact State.sgcTo_fresh
  | sgcHigh => exact State.sgcTo_fresh
  | sgcBoiler => exact State.sgcTo_fresh
  | sgcTrip p a on => exact State.sgcTrip_fresh p a on s
  | sgcConfigured => exact State.sgcTo_fresh
  | sgcEntry => exact State.sgcEntry_fresh hs
  | rsqPreheat on => exact State.rsqPreheat_fresh on s
  | rsqCore c => exact State.rsqCore_fresh c s
  | rsqProbe present _ => exact State.rsqProbe_fresh present s
  | rsqTrip p a on => exact State.rsqTrip_fresh p a on hs
  | rsqTank waiting => exact State.rsqTank_fresh waiting hs
  | rsqRunOnEnd => exact State.rsqRunOnEnd_fresh hs
  | rsqLocks => exact hs
  | rsqDescale => exact hs
  | rsqConfigured => exact hs
  | rsqResumed => exact State.rsqResumed_fresh hs
  | rsqBegin step => exact State.rsqBegin_fresh step hs
  | rsqBegun => exact State.rsqBegun_fresh hs
  | rsqEntry => exact State.rsqEntry_fresh hs
  | lsuElementWant => exact State.lsuInputs_fresh _ s
  | lsuBoilerWant => exact State.lsuInputs_fresh _ s
  | lsuFloorClass => exact State.lsuInputs_fresh _ s
  | lsuConfigured => exact State.lsuInputs_fresh _ s
  | lsuClaim n f w k => exact State.lsuClaim_fresh n f w k hs
  | lsuSent c => exact State.lsuSent_fresh c hs
  | lsuAbandoned => exact State.lsuAbandoned_fresh hs
  | lsuLineOk => exact State.lsuLineOk_fresh hs
  | lsuLineFault => exact State.lsuLineFault_fresh hs
  | lsuSilenced => exact State.lsuSilenced_fresh hs
  | cmhCommand => cases h
  | _ => exact True.intro

/-! ### Commands -/

/-- FETCH_EVENTS takes entries from the event queue; the rest is the CMH's doing. -/
theorem State.takeFetchEvents_block (s : State) : ∃ q, BlockStep .cmh (s.setEvq q) s.takeFetchEvents := by
  unfold State.takeFetchEvents; split
  · exact ⟨s.evq, BlockStep.refl⟩
  · dsimp only; split
    · exact ⟨_, BlockStep.refl⟩
    · exact ⟨_, State.produce_block _ _ _⟩

/-- What taking a command does: the doings of one block, which keep its derived values up to date, after entries may
have been taken from the event queue (FETCH_EVENTS). Neither the CLC nor the DSP takes commands (Table 10-2). -/
def State.CommandStep (s t : State) : Prop :=
  ∃ q k, k ≠ Block.clc ∧ k ≠ Block.dsp ∧ BlockStep k (s.setEvq q) t ∧ (k.Fresh (s.setEvq q) → k.Fresh t)

theorem BlockStep.command {k : Block} {s t : State} (h : BlockStep k s t) (hk : k ≠ .clc ∧ k ≠ .dsp)
    (hf : k.Fresh s → k.Fresh t) : s.CommandStep t := ⟨s.evq, k, hk.1, hk.2, h, hf⟩

theorem State.takeConfirm_command (s : State) : s.CommandStep s.takeConfirm := by
  unfold State.takeConfirm; split
  · split
    · exact (State.sgcConfirm_block s).command (by decide) State.sgcConfirm_fresh
    · exact (State.sduConfirm_block s).command (by decide) id
  · split
    · exact (State.sgcConfirm_block s).command (by decide) State.sgcConfirm_fresh
    · exact (State.rsqConfirm_block s).command (by decide) State.rsqConfirm_fresh

/-- Table 10-2: a command is taken by one block. -/
theorem State.take_command (code : Byte) (payload : List Byte) (s : State) : s.CommandStep (s.take code payload) := by
  unfold State.take
  split
  · exact (State.takeConfigLoads_block payload s).command (by decide) id
  · exact (State.takeConfigTerm_block payload s).command (by decide) id
  · exact (State.takeConfigDone_block s).command (by decide) id
  · exact (State.takeStartManual_block payload s).command (by decide) (State.takeStartManual_fresh payload)
  · exact (State.takeRunRecipe_block payload s).command (by decide) (State.takeRunRecipe_fresh payload)
  · exact (State.takeAdjust_block payload s).command (by decide) (State.takeAdjust_fresh payload)
  · exact (State.takePause_block s).command (by decide) State.takePause_fresh
  · exact (State.takeResume_block s).command (by decide) State.takeResume_fresh
  · exact State.takeConfirm_command s
  · exact (State.takeSkipStep_block s).command (by decide) State.takeSkipStep_fresh
  · exact (State.takeStop_block s).command (by decide) State.takeStop_fresh
  · exact (State.takeStoreOpen_block payload s).command (by decide) id
  · exact (State.takeStoreWrite_block payload s).command (by decide) id
  · exact (State.takeStoreClose_block payload s).command (by decide) id
  · exact (State.takeStoreErase_block payload s).command (by decide) id
  · exact (State.takeStoreRead_block payload s).command (by decide) id
  · exact (State.takeStoreList_block s).command (by decide) id
  · exact (State.takeSetHardness_block payload s).command (by decide) id
  · exact (State.takeDescaleStart_block s).command (by decide) id
  · exact (State.takeRinseStart_block s).command (by decide) id
  · exact (State.takeDescaleAbort_block s).command (by decide) id
  · exact (State.takeReadScale_block s).command (by decide) id
  · obtain ⟨q, hq⟩ := State.takeFetchEvents_block s
    exact ⟨q, .cmh, by decide, by decide, hq, id⟩
  · exact (State.takeClearTrip_block payload s).command (by decide) id
  · exact (State.takeReadPeers_block payload s).command (by decide) State.takeReadPeers_fresh
  · exact (State.takeReadLineCounts_block s).command (by decide) id
  · exact (State.takeRestart_block s).command (by decide) id
  · exact (BlockStep.refl (k := .cmh)).command (by decide) id

theorem State.refuseDecoded_command (code : Option Byte) (r : Result) (s : State) :
    s.CommandStep (s.refuseDecoded code r) := by
  unfold State.refuseDecoded; split
  · exact (State.refuseStoreWrite_block r s).command (by decide) id
  · exact (BlockStep.refl (k := .cmh)).refuse r |>.command (by decide) id

/-- A command enters the buffer, and is then refused, deferred or taken (R184, R185). -/
theorem State.cmhCommand_command (c : Command) (s : State) :
    (s.setCmh { s.cmh with buffer := some c }).CommandStep (s.cmhCommand c) := by
  unfold State.cmhCommand; dsimp only; split
  · exact State.refuseDecoded_command _ _ _
  · exact (BlockStep.refl (k := .cmh)).command (by decide) id
  · split
    · exact ((BlockStep.refl (k := .cmh)).setCmh _).command (by decide) id
    · exact State.take_command _ _ _

theorem State.takeDeferred_command (s : State) :
    (s.setCmh { s.cmh with deferred := false }).CommandStep s.takeDeferred := by
  unfold State.takeDeferred; dsimp only; split
  · exact State.take_command _ _ _
  · exact (BlockStep.refl (k := .cmh)).command (by decide) id

theorem State.CommandStep.keeps_fresh {s t : State} (h : s.CommandStep t) (hs : s.AllFresh) : t.AllFresh := by
  obtain ⟨q, _, _, _, hblock, hfresh⟩ := h
  exact hblock.keeps_fresh hfresh (hs.of_same (t := s.setEvq q) rfl rfl rfl rfl)

/-- A command changes neither the CLC nor the DSP (Table 10-2). -/
theorem State.CommandStep.clc_dsp {s t : State} (h : s.CommandStep t) : t.clc = s.clc ∧ t.dsp = s.dsp := by
  obtain ⟨_, _, hclc, hdsp, hblock, _⟩ := h
  exact ⟨hblock.clc hclc, hblock.dsp hdsp⟩

/-- What every delivery but a command keeps, and what entering and taking a command keeps, every delivery keeps. -/
theorem KeptByDeliveries.of_handle {P : State → Prop} (hbus : ∀ s rest, P s → P { s with bus := rest })
    (hbuffer : ∀ s c, P s → P (s.setCmh c)) (hcommand : ∀ s t, s.CommandStep t → P s → P t)
    (hsignal : ∀ sig s, sig.isCommand = false → P s → P (handle sig s)) : KeptByDeliveries P where
  delivered s sig rest _ hs := by
    have hs' := hbus s rest hs
    cases sig with
    | cmhCommand c => exact hcommand _ _ (State.cmhCommand_command c { s with bus := rest }) (hbuffer _ _ hs')
    | _ => exact hsignal _ _ rfl hs'

/-! ### Every step -/

/-- Table 3-11: under every budget the allowance of the claim (3, 3, 3) is 3. -/
theorem Lsu.afterReset_fresh (pins : Straps) : (Lsu.afterReset pins).Fresh := by
  obtain ⟨station, budget⟩ := pins
  refine ⟨?_, rfl⟩
  fin_cases budget <;> rfl

/-- Tables 1-8, 3-11, 4-7 and 6-9: the derived values are up to date after reset, whatever the straps. -/
theorem State.afterReset_fresh (cause : EventCode) (pins : Straps) (mem : List MemCell) (freeUse : Nat)
    (pending : List Instr) : (State.afterReset cause pins mem freeUse pending).AllFresh := by
  intro k
  cases k
  case clc => exact (rfl : Clc.afterReset.refresh = Clc.afterReset)
  case lsu => exact Lsu.afterReset_fresh pins
  case sgc => exact (rfl : Sgc.afterReset.refresh = Sgc.afterReset)
  case rsq => exact (rfl : Rsq.afterReset.cooking = Rsq.afterReset.cookingNow)
  all_goals exact True.intro

theorem State.resetBy_fresh (cause : EventCode) (pins : Straps) (s : State) : (s.resetBy cause pins).AllFresh := by
  unfold State.resetBy; dsimp only; split
  · exact (State.enterSilenced_block _).keeps_fresh id (State.afterReset_fresh _ _ _ _ _)
  · exact State.afterReset_fresh _ _ _ _ _

/-- R18 asks only whether the run-on timer runs, which a millisecond does not change. -/
theorem Clc.tick_fresh {c : Clc} (h : c.Fresh) : c.tick.Fresh := by
  have hfan : c.tick.fanFor = c.fanFor := by
    simp only [Clc.fanFor, Clc.tick, Option.isSome_map]
  have hrefresh : c.tick.refresh = { c.tick with
      fanLevel := c.refresh.fanLevel, preheat := c.refresh.preheat, heatLimited := c.refresh.heatLimited } := by
    rw [Clc.refresh, hfan]
    rfl
  rw [Clc.Fresh, hrefresh, show c.refresh = c from h]
  rfl

/-- R58 counts a claim whatever the age of its entry. -/
theorem Lsu.tick_fresh {l : Lsu} (h : l.Fresh) : l.tick.Fresh := by
  have hpeers : l.tick.countedPeers = l.countedPeers := by
    simp only [Lsu.countedPeers, Lsu.tick, List.map_map]
    rfl
  have hallow : l.tick.allowanceNow = l.allowanceNow := by
    rw [Lsu.allowanceNow, hpeers]
    rfl
  have hrefresh : l.tick.refresh = { l.tick with allowance := l.refresh.allowance, limit := l.refresh.limit } := by
    rw [Lsu.refresh, hallow]
    rfl
  refine ⟨?_, h.2⟩
  rw [hrefresh, h.1]
  rfl

theorem Sgc.tick_fresh {g : Sgc} (h : g.Fresh) : g.tick.Fresh := by
  have hrefresh : g.tick.refresh = { g.tick with demand := g.refresh.demand, want := g.refresh.want } := rfl
  rw [Sgc.Fresh, hrefresh, show g.refresh = g from h]
  rfl

theorem Rsq.tick_fresh {r : Rsq} (h : r.Fresh) : r.tick.Fresh := h

theorem State.tick_fresh {s : State} (h : s.AllFresh) : s.tick.AllFresh := by
  intro k
  cases k
  case clc => exact Clc.tick_fresh (h .clc)
  case lsu => exact Lsu.tick_fresh (h .lsu)
  case sgc => exact Sgc.tick_fresh (h .sgc)
  case rsq => exact Rsq.tick_fresh (h .rsq)
  all_goals exact True.intro

/-- A follow-up step keeps the derived values up to date. -/
theorem perform_fresh (k : FollowUp) {s : State} (h : s.AllFresh) : (perform k s).AllFresh := by
  cases k
  case restartTakesEffect => exact State.resetBy_fresh _ _ s
  case startReadComplete =>
    unfold perform; dsimp only; split
    · exact (State.rsqStartRead_block _ _).keeps_fresh (State.rsqStartRead_fresh _) (h.of_same rfl rfl rfl rfl)
    · exact h
  case stepReadComplete =>
    unfold perform; dsimp only; split
    · exact (State.rsqStepRead_block _ _).keeps_fresh (State.rsqStepRead_fresh _) (h.of_same rfl rfl rfl rfl)
    · exact h
  case storeRequestServed => exact s.serveNext_block.keeps_fresh id h
  case deferredConfigCommand => exact (State.takeDeferred_command s).keeps_fresh (h.of_same rfl rfl rfl rfl)
  case configuredReached => exact s.configure_block.keeps_fresh id h
  case answerHandover => exact s.answerHandover_block.keeps_fresh id h
  case fetchEventsNextFrame => exact s.nextFrame_block.keeps_fresh id h

theorem keptByDeliveries_allFresh : KeptByDeliveries State.AllFresh :=
  .of_handle (fun _ _ h => h.of_same rfl rfl rfl rfl) (fun _ _ h => h.of_same rfl rfl rfl rfl)
    (fun _ _ hcommand h => hcommand.keeps_fresh h)
    (fun sig s hsig h => (handle_block sig hsig s).keeps_fresh (handle_fresh sig hsig) h)

/-- The derived values stay up to date through everything a step consists of. -/
theorem kept_allFresh : Kept State.AllFresh where
  toKeptByDeliveries := keptByDeliveries_allFresh
  pending _ _ h := h.of_same rfl rfl rfl rfl
  pins _ _ h := h.of_same rfl rfl rfl rfl
  performed k _ h := perform_fresh k h
  reset pins s _ := State.resetBy_fresh _ pins s
  tick _ h := State.tick_fresh h
  clcMeasure a b c s h := (s.clcMeasure_block a b c).keeps_fresh (fun _ => s.clcMeasure_fresh a b c) h
  clcControlExpiry s h := s.clcControlExpiry_block.keeps_fresh State.clcControlExpiry_fresh h
  clcRunOnExpiry s h := s.clcRunOnExpiry_block.keeps_fresh State.clcRunOnExpiry_fresh h
  clcOpenExpiry s h := s.clcOpenExpiry_block.keeps_fresh State.clcOpenExpiry_fresh h
  clcCloseExpiry s h := s.clcCloseExpiry_block.keeps_fresh State.clcCloseExpiry_fresh h
  dspSlotExpiry s h := s.dspSlotExpiry_block.keeps_fresh id h
  lsuListenExpiry s h := s.lsuListenExpiry_block.keeps_fresh State.lsuListenExpiry_fresh h
  lsuPeriodExpiry s h := s.lsuPeriodExpiry_block.keeps_fresh State.lsuPeriodExpiry_fresh h
  lsuIntervalExpiry s h := s.lsuIntervalExpiry_block.keeps_fresh State.lsuIntervalExpiry_fresh h
  lsuHoldOffExpiry s h := s.lsuHoldOffExpiry_block.keeps_fresh State.lsuHoldOffExpiry_fresh h
  lsuPeerSilent n s h := (State.lsuPeerSilent_block n s).keeps_fresh (State.lsuPeerSilent_fresh n) h
  lsuPeerLost n s h := (State.lsuPeerLost_block n s).keeps_fresh (State.lsuPeerLost_fresh n) h
  sgcFillTimeout s h := s.sgcFillTimeout_block.keeps_fresh State.sgcFillTimeout_fresh h
  sgcDrainExpiry s h := s.sgcDrainExpiry_block.keeps_fresh State.sgcDrainExpiry_fresh h
  sduSoakComplete s h := s.sduSoakComplete_block.keeps_fresh id h
  rsqStepTimeEnd s h := s.rsqStepTimeEnd_block.keeps_fresh State.rsqStepTimeEnd_fresh h
  rsqPauseExpiry s h := s.rsqPauseExpiry_block.keeps_fresh State.rsqPauseExpiry_fresh h
  rsqRunCap s h := s.rsqRunCap_block.keeps_fresh State.rsqRunCap_fresh h
  stcScan s h := s.stcScan_block.keeps_fresh id h
  storeOperationComplete kept s h := (State.storeOperationComplete_block kept s).keeps_fresh id h
  storeAbandon s h := s.storeAbandon_block.keeps_fresh id h
  iluSample pins s h := (State.iluSample_block pins s).keeps_fresh id h
  iluPersistence p s h := (State.iluPersistence_block p s).keeps_fresh id h
  receive f others s _ h := (State.receive_block f others s).keeps_fresh id h
  slcReceptionError cells s h := (State.slcReceptionError_block cells s).keeps_fresh id h
  slcStart s h := s.slcStart_block.keeps_fresh id h
  slcLoss bit s h := (State.slcLoss_block bit s).keeps_fresh id h
  slcMismatch cell s h := (State.slcMismatch_block cell s).keeps_fresh id h
  slcAcknowledge read s h := (State.slcAcknowledge_block read s).keeps_fresh id h
  slcLineFault s h := s.slcLineFault_block.keeps_fresh id h
  slcLineRestored s h := s.slcLineRestored_block.keeps_fresh id h
  slcFirstGap s h := s.slcFirstGap_block.keeps_fresh id h
  fillStatus s h := s.fillStatus_block.keeps_fresh id h
  statusInterval s h := s.statusInterval_block.keeps_fresh id h

/-- Settles O10: every doing of a block leaves its derived values up to date, and no step does anything else. -/
theorem derivedValuesStayFresh : Obligations.DerivedValuesStayFresh := by
  intro s t hs ht
  exact State.fresh_iff.mpr (kept_allFresh.step (State.fresh_iff.mp hs) ht)

end Sys2Proof.Machine
end

section
/-! SUPPORT. The climate controller: what its operations leave as it is, what it delivers, and the obligations about its
timers (R1 to R5, R9 to R13, R19 to R23). -/

namespace Sys2Proof.Machine

/-! ### Deliveries on the bus -/

theorem Signal.rank_le (sig : Signal) : sig.rank ≤ 3 := by
  unfold Signal.rank; split <;> decide

/-- Putting deliveries in order loses none and adds none. -/
theorem Signal.mem_inOrder {sig : Signal} {sigs : List Signal} : sig ∈ Signal.inOrder sigs ↔ sig ∈ sigs := by
  have hrank := Signal.rank_le sig
  simp only [Signal.inOrder, List.mem_append, List.mem_filter, beq_iff_eq, ← and_or_left]
  exact and_iff_left (by omega)

theorem State.mem_emit_bus {sig : Signal} {sigs : List Signal} {s : State} :
    sig ∈ (s.emit sigs).bus ↔ sig ∈ s.bus ∨ sig ∈ sigs := by
  rw [State.emit_bus, Signal.mem_inOrder, List.mem_append]

theorem mem_sigIf {sig sig' : Signal} {c : Bool} : sig ∈ sigIf c sig' ↔ c = true ∧ sig = sig' := by
  unfold sigIf
  split <;> simp_all

theorem State.emit_nil {s : State} (h : s.bus = []) : s.emit [] = s := by
  have hnil : Signal.inOrder (s.bus ++ []) = s.bus := by rw [h]; rfl
  rw [State.emit, hnil]

/-! ### The CLC takes a state of its own -/

/-- The deliveries of `clcTo`: the reports of the refreshed values, and what it is given besides. -/
theorem State.mem_clcTo_bus {sig : Signal} {c : Clc} {after : List Signal} {s : State} :
    sig ∈ (s.clcTo c after).bus ↔ sig ∈ s.bus ∨ sig ∈ Clc.reports s.clc c.refresh ∨ sig ∈ after := by
  rw [State.clcTo, State.mem_emit_bus, List.mem_append]
  rfl

/-- R18: a changed fan level is delivered to the DSP and the ILU. -/
theorem Clc.fan_mem_reports {old new : Clc} (h : new.fanLevel ≠ old.fanLevel) :
    Signal.dspFan new.fanLevel ∈ Clc.reports old new ∧ Signal.iluFan new.fanLevel ∈ Clc.reports old new := by
  have hne : (old.fanLevel != new.fanLevel) = true := bne_iff_ne.mpr (Ne.symm h)
  simp [Clc.reports, hne]

/-- Where the CLC takes a state whose derived values are those it has, it delivers what it is given and no more. -/
theorem State.clcTo_of_fresh {c : Clc} (hc : c.Fresh) {s : State} (hfan : c.fanLevel = s.clc.fanLevel)
    (hpreheat : c.preheat = s.clc.preheat) (after : List Signal) :
    s.clcTo c after = (s.setClc c).emit after := by
  have hreports : Clc.reports s.clc c = [] := by
    simp [Clc.reports, sigIf, hfan, hpreheat]
  simp only [State.clcTo, show c.refresh = c from hc, hreports, List.nil_append]

/-! ### Vent drives, R21 to R23 -/

/-- The vent does not enter the derived values. -/
theorem Clc.Fresh.withVent {c : Clc} (h : c.Fresh) (v : VentState) (timer : Option Nat) :
    Clc.Fresh { c with vent := v, ventTimer := timer } := by
  have hrefresh : Clc.refresh { c with vent := v, ventTimer := timer } =
      { c.refresh with vent := v, ventTimer := timer } := rfl
  rw [Clc.Fresh, hrefresh, show c.refresh = c from h]

/-- The end of a drive changes the vent state and its timer, and delivers nothing. -/
theorem State.clcTo_withVent {s : State} (hbus : s.bus = []) (h : s.clc.Fresh) (v : VentState) (timer : Option Nat) :
    s.clcTo { s.clc with vent := v, ventTimer := timer } [] =
      s.setClc { s.clc with vent := v, ventTimer := timer } := by
  rw [State.clcTo_of_fresh (h.withVent v timer) rfl rfl]
  exact State.emit_nil hbus

/-- R21: VENT_CLOSED is not watched in OPENING; its filtered value is taken. -/
theorem State.clcVent_opening {s : State} (hvent : s.clc.vent = .opening) (closed : Bool) :
    s.clcVent closed = s.clcTo { s.clc with ventIn := closed } [] := by
  unfold State.clcVent
  dsimp only
  split
  · rfl
  · rw [hvent]

/-- Settles O23: an open drive ends with nothing left to deliver, and filtered VENT_CLOSED is passed over in OPENING. -/
theorem openDriveRunsAndEnds : Obligations.OpenDriveRunsAndEnds := by
  refine ⟨fun c h => ?_, fun s hq hf hvent htimer => ?_, fun s closed settled hvent => ?_⟩
  · have hdead : c.ventDead = false := by
      obtain h | h := h <;> simp [Clc.ventDead, h]
    simp [Clc.openVent, hdead]
  · have hbus := (State.quiet_iff.mp hq).1
    have hend : s.clcOpenExpiry = s.setClc { s.clc with vent := .opened, ventTimer := none } := by
      rw [State.clcOpenExpiry, if_pos (by simp [hvent, htimer]),
        State.clcTo_withVent hbus (State.fresh_iff.mp hf .clc)]
    rw [exec, execOpenDriveExpiry, State.event_of_quiet hq, hend, State.settle_nil (by exact hbus)]
    rfl
  · rw [handle, State.clcVent_opening hvent]
    exact ⟨hvent, rfl⟩

/-- Settles O24: a close drive ends in OPEN with its event, and nothing is left to deliver. -/
theorem closeTravelTimeoutOpensVent : Obligations.CloseTravelTimeoutOpensVent := by
  intro s hq hf hvent htimer
  have hbus := (State.quiet_iff.mp hq).1
  have hend : s.clcCloseExpiry =
      (s.post .ventFault 0 0).setClc { s.clc with vent := .opened, ventTimer := none } := by
    rw [State.clcCloseExpiry, if_pos (by simp [hvent, htimer])]
    exact State.clcTo_withVent (s := s.post .ventFault 0 0) hbus (State.fresh_iff.mp hf .clc) _ _
  rw [exec, execCloseTravelTimeout, State.event_of_quiet hq, hend, State.settle_nil (by exact hbus)]
  rfl

/-! ### The run-on, R19 and R137 -/

/-- R18, R19: the fan of a FINISHING run stands at 0 without a run-on. -/
theorem Clc.fanFor_finishing {c : Clc} (hrun : c.run = .finishing) (hoff : c.runOn = none) : c.fanFor = 0 := by
  simp [Clc.fanFor, hrun, hoff]

theorem State.clcRunOnExpiry_running {s : State} (h : s.clc.runOn.isSome = true) :
    s.clcRunOnExpiry = s.clcTo { s.clc with runOn := none } [.rsqRunOnEnd] := if_pos h

/-- Settles O22: the run-on stops with its report to the RSQ, where a FINISHING run becomes IDLE. -/
theorem runOnEndsAtItsTimer : Obligations.RunOnEndsAtItsTimer := by
  constructor
  · intro s hq hrun
    have hexpiry := State.clcRunOnExpiry_running hrun
    refine ⟨s.clcRunOnExpiry, by rw [← State.event_of_quiet hq]; rfl, by rw [hexpiry]; rfl,
      by rw [hexpiry]; rfl, ?_, ?_, ?_⟩
    · intro hfin
      rw [hexpiry]
      exact Clc.fanFor_finishing hfin rfl
    · intro hfan
      rw [hexpiry] at hfan ⊢
      obtain ⟨hdsp, hilu⟩ := Clc.fan_mem_reports hfan
      exact ⟨State.mem_clcTo_bus.mpr (.inr (.inl hdsp)), State.mem_clcTo_bus.mpr (.inr (.inl hilu))⟩
    · rw [hexpiry]
      exact State.mem_clcTo_bus.mpr (.inr (.inr (List.mem_singleton.mpr rfl)))
  · intro s hrun
    have hend : s.rsqRunOnEnd = s.rsqTo { s.rsq with
        run := .idle, source := .none, recipe := 0, stepCount := 1, index := 0, live := none, stepElapsed := 0 } []
        [.lsuFloorClass 0 3] [] := if_pos hrun
    have hmem : Signal.lsuFloorClass 0 3 ∈ s.rsqRunOnEnd.bus := by
      rw [hend, State.rsqTo, State.mem_emit_bus]
      simp
    simp only [handle]
    refine ⟨?_, ?_, ?_, ?_, ?_, ?_, hmem⟩ <;> rw [hend] <;> rfl

/-! ### The PI update, R9 to R13 -/

/-- Some element load with a weight in the mode carries the flag. -/
theorem Mode.anyWeighted_iff {m : Mode} {flags : Six Bool} :
    m.anyWeighted flags = true ↔ ∃ l, l ≠ .boiler ∧ m.row.weights.get l ≠ 0 ∧ flags.get l = true := by
  simp only [Mode.anyWeighted, Mode.weighted, Bool.or_eq_true, Bool.and_eq_true, bne_iff_ne]
  constructor
  · rintro ((((h | h) | h) | h) | h)
    · exact ⟨.top, by decide, h⟩
    · exact ⟨.bottom, by decide, h⟩
    · exact ⟨.ringA, by decide, h⟩
    · exact ⟨.ringB, by decide, h⟩
    · exact ⟨.grill, by decide, h⟩
  · rintro ⟨l, hl, h⟩
    cases l
    case top => exact .inl (.inl (.inl (.inl h)))
    case bottom => exact .inl (.inl (.inl (.inr h)))
    case ringA => exact .inl (.inl (.inr h))
    case ringB => exact .inl (.inr h)
    case grill => exact .inr h
    case boiler => exact absurd rfl hl

/-- R11: what freezes the growth of the integral. -/
theorem Clc.frozen_iff {c : Clc} {m : Mode} :
    c.frozen m = true ↔ c.lastEffort = 1000 ∨
      ∃ l, l ≠ .boiler ∧ m.row.weights.get l ≠ 0 ∧ (c.starved.get l = true ∨ c.blocked.get l = true) := by
  simp only [Clc.frozen, Bool.or_eq_true, beq_iff_eq, Mode.anyWeighted_iff, and_or_left, exists_or, or_assoc]

/-- R11: the integral stays where growth is frozen, and moves otherwise; it is clamped either way. -/
theorem Clc.integralFor_eq (c : Clc) (m : Mode) (e : Int) :
    let i := c.integral + (e * m.row.ki).tdiv 256
    let held := c.integral < i ∧ (c.lastEffort = 1000 ∨
      ∃ l, l ≠ .boiler ∧ m.row.weights.get l ≠ 0 ∧ (c.starved.get l = true ∨ c.blocked.get l = true))
    (held → c.integralFor m e = clampInt 0 1000 c.integral) ∧
      (¬held → c.integralFor m e = clampInt 0 1000 i) := by
  simp only [← Clc.frozen_iff]
  constructor
  · intro h
    simp [Clc.integralFor, h]
  · intro h
    simp only [Clc.integralFor, Bool.and_eq_true, decide_eq_true_eq, if_neg h]

/-- R10, R11: the effort and the integral of an update with the cavity temperature available, by the error. -/
theorem Clc.effortFor_eq {c : Clc} (hw : c.window ≠ []) (m : Mode) (sp : Int) :
    (200 < c.error sp → c.effortFor m sp = (1000, c.integral)) ∧
    (c.error sp < -100 → c.effortFor m sp = (0, c.integral)) ∧
    (-100 ≤ c.error sp ∧ c.error sp ≤ 200 → c.effortFor m sp =
      (clampInt 0 1000 ((c.error sp * m.row.kp).tdiv 64 + c.integralFor m (c.error sp)),
        c.integralFor m (c.error sp))) := by
  have havail : c.available = true := by simpa [Clc.available] using hw
  simp only [Clc.effortFor, havail, Bool.not_true, Bool.false_eq_true, if_false]
  refine ⟨fun h => if_pos h, fun h => ?_, fun h => ?_⟩
  · rw [if_neg (by omega), if_pos h]
  · rw [if_neg (by omega), if_neg (by omega)]

/-- R13: the want is the sum, over the element loads, of rated power times demand over 1000, rounded up. -/
theorem wantFor_eq (rated demands : Six Nat) :
    wantFor rated demands = (([.top, .bottom, .ringA, .ringB, .grill] : List Load).map fun l =>
      (rated.get l * demands.get l + 999) / 1000).sum := by
  simp only [wantFor, ceilDiv, Six.get, List.map_cons, List.map_nil, List.sum_cons, List.sum_nil, Nat.add_zero,
    Nat.add_assoc]
  rfl

/-- R12: an element demand is its weight's share of the effort. -/
theorem demandsFor_get (m : Mode) (u : Nat) (l : Load) :
    (demandsFor m u).get l = u * m.row.weights.get l / 100 := by
  cases l <;> rfl

/-- The CLC after the control timer's expiry in a RUNNING run with a mode and a setpoint (R9). -/
def Clc.updated (c : Clc) (m : Mode) (sp : Int) : Clc :=
  { { c with lastEffort := (c.effortFor m sp).1, integral := (c.effortFor m sp).2 }.withDemands
      (demandsFor m (c.effortFor m sp).1.toNat) with controlTimer := some 2000 }

theorem Clc.piUpdate_eq {c : Clc} {m : Mode} {sp : Int} (hm : c.mode = some m) (hsp : c.setpoint = some sp) :
    { c.piUpdate with controlTimer := some 2000 } = c.updated m sp := by
  unfold Clc.piUpdate
  split
  · next m' sp' hm' hsp' =>
    cases hm.symm.trans hm'
    cases hsp.symm.trans hsp'
    rfl
  · next hnone => exact absurd hsp (hnone m sp hm)

theorem State.clcControlExpiry_running {s : State} {m : Mode} {sp : Int} (htimer : s.clc.controlTimer.isSome = true)
    (hm : s.clc.mode = some m) (hsp : s.clc.setpoint = some sp) (hrun : s.clc.run = .running) :
    s.clcControlExpiry = s.clcTo (s.clc.updated m sp) (Clc.demandSignals s.clc (s.clc.updated m sp)) := by
  rw [State.clcControlExpiry, if_pos htimer, State.clcUpdate,
    if_pos (by simp [Clc.setpointActive, Clc.suspended, hm, hsp, hrun]), Clc.piUpdate_eq hm hsp]

/-- Settles O21: the expiry takes the state `Clc.updated`, and delivers its demands, and its want where it changes. -/
theorem controlTimerTakesPiUpdate : Obligations.ControlTimerTakesPiUpdate := by
  intro s m sp hq htimer hm hsp hrun hw
  have hexpiry := State.clcControlExpiry_running htimer hm hsp hrun
  obtain ⟨habove, hbelow, hwithin⟩ := Clc.effortFor_eq hw m sp
  refine ⟨s.clcControlExpiry, by rw [← State.event_of_quiet hq]; rfl, ?_⟩
  rw [hexpiry]
  refine ⟨rfl, rfl, ⟨fun h => ?_, fun h => ?_, fun h => ?_⟩, demandsFor_get m _, wantFor_eq _ _,
    State.mem_clcTo_bus.mpr (.inr (.inr List.mem_cons_self)), fun h => ?_⟩
  · exact ⟨congrArg Prod.fst (habove h), congrArg Prod.snd (habove h)⟩
  · exact ⟨congrArg Prod.fst (hbelow h), congrArg Prod.snd (hbelow h)⟩
  · have hintegral : (s.clc.effortFor m sp).2 = s.clc.integralFor m (s.clc.error sp) := congrArg Prod.snd (hwithin h)
    obtain ⟨hheld, hmoved⟩ := Clc.integralFor_eq s.clc m (s.clc.error sp)
    refine ⟨fun h => hintegral.trans (hheld h), fun h => hintegral.trans (hmoved h), ?_⟩
    show (s.clc.effortFor m sp).1 =
      clampInt 0 1000 ((s.clc.error sp * m.row.kp).tdiv 64 + (s.clc.effortFor m sp).2)
    rw [hwithin h]
  · have hne : (s.clc.want != (s.clc.updated m sp).want) = true := bne_iff_ne.mpr (Ne.symm h)
    exact State.mem_clcTo_bus.mpr (.inr (.inr (List.mem_cons_of_mem _ (mem_sigIf.mpr ⟨hne, rfl⟩))))

/-! ### The readings, R1 to R5 -/

/-- The readings that the CLC gives to the ILU (R1). -/
def Clc.readings (c : Clc) : Int × Int × Bool := (c.temp, c.boiler, c.sensorFailed)

theorem State.clcTo_readings (c : Clc) (after : List Signal) (s : State) :
    (s.clcTo c after).clc.readings = c.readings := rfl

theorem Clc.openVent_readings (c : Clc) : c.openVent.readings = c.readings := by
  unfold Clc.openVent; split <;> rfl

theorem Clc.closeVent_readings (c : Clc) : c.closeVent.readings = c.readings := by
  unfold Clc.closeVent; split
  · rfl
  · split <;> rfl

theorem Clc.driveVent_readings (c : Clc) (v : VentPos) : (c.driveVent v).readings = c.readings := by
  cases v
  · exact c.openVent_readings
  · exact c.closeVent_readings

theorem Clc.piUpdate_readings (c : Clc) : c.piUpdate.readings = c.readings := by
  unfold Clc.piUpdate; split <;> rfl

theorem State.clcUpdate_readings (s : State) : s.clcUpdate.clc.readings = s.clc.readings := by
  unfold State.clcUpdate; split
  · exact Clc.piUpdate_readings s.clc
  · rfl

theorem State.clcStep_readings (l : LiveStep) (s : State) : (s.clcStep l).clc.readings = s.clc.readings := by
  unfold State.clcStep; dsimp only; split <;> exact Clc.driveVent_readings _ _

theorem State.clcRun_readings (r : RunState) (s : State) : (s.clcRun r).clc.readings = s.clc.readings := by
  unfold State.clcRun; dsimp only; split
  · rw [State.clcTo_readings]; split <;> rfl
  · rw [State.clcTo_readings]; split <;> rfl
  · split <;> exact Clc.openVent_readings _
  · rfl

/-- R20: an AUTO vent driven to where a new humidity wants it. -/
theorem Clc.retarget_readings (b : Prop) [Decidable b] (c : Clc) (v : VentPos) :
    (if b then { c with ventAsked := some v }.driveVent v else c).readings = c.readings := by
  split
  · exact Clc.driveVent_readings _ v
  · rfl

theorem State.clcAdjust_readings (sp : Option Int) (h f : Option Nat) (s : State) :
    (s.clcAdjust sp h f).clc.readings = s.clc.readings := by
  unfold State.clcAdjust; dsimp only; rw [State.clcTo_readings]
  cases h with
  | none => cases f <;> cases sp <;> rfl
  | some h => exact (Clc.retarget_readings _ _ _).trans (by cases f <;> cases sp <;> rfl)

theorem State.clcTrip_readings (p : Place) (a : Word) (on : Bool) (s : State) :
    (s.clcTrip p a on).clc.readings = s.clc.readings := by
  unfold State.clcTrip; dsimp only; split
  · rw [State.clcTo_readings]
    split
    · rw [Clc.openVent_readings]; split <;> rfl
    · split <;> rfl
  · split
    · exact Clc.closeVent_readings _
    · rfl

theorem State.clcVent_readings (closed : Bool) (s : State) : (s.clcVent closed).clc.readings = s.clc.readings := by
  unfold State.clcVent; dsimp only; split
  · rfl
  · split
    · rfl
    · rw [State.clcTo_readings]; split <;> rfl
    · rw [State.clcTo_readings]; split <;> rfl
    · split <;> rfl

theorem State.clcConfigured_readings (r : LoadsRecord) (s : State) :
    (s.clcConfigured r).clc.readings = s.clc.readings := by
  unfold State.clcConfigured; dsimp only; rw [State.clcTo_readings]; split <;> rfl

/-- No delivery but a command changes the readings: the CLC takes them at a measurement expiry only. -/
theorem handle_readings (sig : Signal) (hsig : sig.isCommand = false) (s : State) :
    (handle sig s).clc.readings = s.clc.readings := by
  by_cases hblock : sig.block = .clc
  · cases sig with
    | clcDispatch => rfl
    | clcRun r => exact State.clcRun_readings r s
    | clcStep l => exact State.clcStep_readings l s
    | clcUpdate => exact State.clcUpdate_readings s
    | clcAdjust sp h f => exact State.clcAdjust_readings sp h f s
    | clcTrip p a on => exact State.clcTrip_readings p a on s
    | clcProbe => rfl
    | clcVent closed _ => exact State.clcVent_readings closed s
    | clcGenerator => rfl
    | clcConfigured r => exact State.clcConfigured_readings r s
    | _ => cases hblock
  · rw [(handle_block sig hsig s).clc hblock]

/-- Deliveries, commands among them, keep the readings. -/
theorem keptByDeliveries_readings (r : Int × Int × Bool) : KeptByDeliveries fun s => s.clc.readings = r :=
  .of_handle (fun _ _ h => h) (fun _ _ h => h) (fun _ _ hcommand h => by rwa [hcommand.clc_dsp.1])
    (fun sig s hsig h => (handle_readings sig hsig s).trans h)

theorem State.settle_readings (n : Nat) (s : State) : (s.settle n).clc.readings = s.clc.readings :=
  (keptByDeliveries_readings s.clc.readings).settle n rfl

/-! ### A measurement expiry, R1 to R5 and R19 -/

/-- The CLC after the three readings of a measurement expiry, the run-on's test apart. -/
def Clc.measured (c : Clc) (cavity core boiler : Int) : Clc :=
  { ((c.takeCavity cavity).takeCore core).takeBoiler boiler with measureTimer := 250 }

/-- The CLC after a measurement expiry: a run-on that is over is stopped (R19). -/
def Clc.afterMeasure (c : Clc) (cavity core boiler : Int) : Clc :=
  let m := c.measured cavity core boiler
  { m with runOn := if m.runOnOver then none else m.runOn }

/-- A measurement expiry delivers what the readings changed, and the end of the run-on. -/
theorem State.clcMeasure_eq (cavity core boiler : Int) (s : State) :
    s.clcMeasure cavity core boiler = s.clcTo (s.clc.afterMeasure cavity core boiler)
      (Clc.measureSignals s.clc (s.clc.afterMeasure cavity core boiler) ++
        sigIf (s.clc.measured cavity core boiler).runOnOver .rsqRunOnEnd) := by
  cases hover : (s.clc.measured cavity core boiler).runOnOver with
  | true =>
    simp only [Clc.afterMeasure, hover, if_true]
    exact if_pos hover
  | false =>
    simp only [Clc.afterMeasure, hover, Bool.false_eq_true, if_false]
    refine (if_neg (Bool.eq_false_iff.mp hover)).trans ?_
    rw [sigIf, if_neg (by decide), List.append_nil]
    rfl

/-- R2: a good cavity reading enters the window, clears the count and ends the sensor condition. -/
theorem Clc.takeCavity_good {c : Clc} {r : Int} (h : -400 ≤ r ∧ r ≤ 4000) :
    c.takeCavity r = { c with
      window := c.windowWith r, temp := ((c.windowWith r).foldl (· + ·) 0).tdiv 4, badCount := 0,
      sensorFailed := false } := if_pos h

/-- R3: a bad cavity reading counts, and the third in a row sets the sensor condition. -/
theorem Clc.takeCavity_bad {c : Clc} {r : Int} (h : r < -400 ∨ 4000 < r) :
    c.takeCavity r = { c with
      badCount := satSucc 3 c.badCount, sensorFailed := c.sensorFailed || satSucc 3 c.badCount == 3 } :=
  if_neg (by omega)

/-- R2: the first good reading fills the window. -/
theorem Clc.windowWith_nil {c : Clc} (h : c.window = []) (r : Int) : c.windowWith r = [r, r, r, r] := by
  simp [Clc.windowWith, h]

/-- R2: a further one takes the place of the oldest. -/
theorem Clc.windowWith_four {c : Clc} {w x y z : Int} (h : c.window = [w, x, y, z]) (r : Int) :
    c.windowWith r = [x, y, z, r] := by
  simp [Clc.windowWith, h]

/-- R2: what a good reading leaves. -/
theorem Clc.takeCavity_good_eq {c : Clc} {r : Int} (h : -400 ≤ r ∧ r ≤ 4000) :
    (c.takeCavity r).badCount = 0 ∧ (c.takeCavity r).sensorFailed = false ∧
      (c.window = [] → (c.takeCavity r).window = [r, r, r, r] ∧ (c.takeCavity r).temp = r) ∧
      ∀ w x y z, c.window = [w, x, y, z] →
        (c.takeCavity r).window = [x, y, z, r] ∧ (c.takeCavity r).temp = (x + y + z + r).tdiv 4 := by
  rw [Clc.takeCavity_good h]
  refine ⟨rfl, rfl, fun hw => ⟨Clc.windowWith_nil hw r, ?_⟩, fun w x y z hw => ⟨Clc.windowWith_four hw r, ?_⟩⟩
  · rw [Clc.windowWith_nil hw]
    have hsum : [r, r, r, r].foldl (· + ·) 0 = r * 4 := by
      simp only [List.foldl_cons, List.foldl_nil]
      omega
    rw [hsum, Int.mul_tdiv_cancel r (by decide)]
  · rw [Clc.windowWith_four hw]
    simp only [List.foldl_cons, List.foldl_nil, Int.zero_add]

/-- R3: what a bad reading leaves. -/
theorem Clc.takeCavity_bad_eq {c : Clc} {r : Int} (h : r < -400 ∨ 4000 < r) :
    (c.takeCavity r).window = c.window ∧ (c.takeCavity r).temp = c.temp ∧
      (c.badCount < 2 →
        (c.takeCavity r).badCount = c.badCount + 1 ∧ (c.takeCavity r).sensorFailed = c.sensorFailed) ∧
      (2 ≤ c.badCount → (c.takeCavity r).badCount = 3 ∧ (c.takeCavity r).sensorFailed = true) := by
  rw [Clc.takeCavity_bad h]
  refine ⟨rfl, rfl, fun hfew => ?_, fun hmany => ?_⟩
  · have hcount : satSucc 3 c.badCount = c.badCount + 1 := if_pos (by omega)
    have hne : (satSucc 3 c.badCount == 3) = false := by
      rw [hcount, beq_eq_false_iff_ne]
      omega
    exact ⟨hcount, by rw [hne, Bool.or_false]⟩
  · have hcount : satSucc 3 c.badCount = 3 := by
      unfold satSucc
      split <;> omega
    exact ⟨hcount, by rw [hcount]; exact Bool.or_true _⟩

/-- The cavity reading does not touch what the core reading is tested by. -/
theorem Clc.takeCavity_coreValid (c : Clc) (r : Int) : (c.takeCavity r).coreValid = c.coreValid := by
  unfold Clc.takeCavity; split <;> rfl

theorem Clc.takeCavity_runOn (c : Clc) (r : Int) : (c.takeCavity r).runOn = c.runOn := by
  unfold Clc.takeCavity; split <;> rfl

/-- R4. -/
theorem Clc.afterMeasure_core (c : Clc) (cavity core boiler : Int) :
    (c.afterMeasure cavity core boiler).core = if c.coreValid then some (clampInt 0 1200 core) else none := by
  rw [← Clc.takeCavity_coreValid c cavity]
  rfl

/-- R19: when the measurement ends the run-on. -/
theorem Clc.measured_runOnOver_iff {c : Clc} {cavity core boiler : Int} :
    (c.measured cavity core boiler).runOnOver = true ↔ c.runOn.isSome = true ∧
      (c.afterMeasure cavity core boiler).window ≠ [] ∧ (c.afterMeasure cavity core boiler).temp ≤ 800 := by
  have hrunOn : (c.measured cavity core boiler).runOn = c.runOn := Clc.takeCavity_runOn c cavity
  simp only [Clc.runOnOver, Clc.available, hrunOn, Bool.and_eq_true, Bool.not_eq_true', List.isEmpty_eq_false_iff,
    decide_eq_true_eq, and_assoc]
  exact Iff.rfl

theorem Clc.afterMeasure_runOn (c : Clc) (cavity core boiler : Int) :
    (c.afterMeasure cavity core boiler).runOn =
      if (c.measured cavity core boiler).runOnOver then none else c.runOn := by
  rw [← Clc.takeCavity_runOn c cavity]
  rfl

/-- R1: a change of what the ILU, the SGC and the SDU, or the RSQ read is delivered to them. -/
theorem Clc.mem_measureSignals {old new : Clc} :
    (new.temp ≠ old.temp ∨ new.boiler ≠ old.boiler ∨ new.sensorFailed ≠ old.sensorFailed →
      Signal.iluClimate new.temp new.boiler new.sensorFailed ∈ Clc.measureSignals old new) ∧
    (new.boiler ≠ old.boiler → Signal.sgcBoiler new.boiler ∈ Clc.measureSignals old new ∧
      Signal.sduBoiler new.boiler ∈ Clc.measureSignals old new) ∧
    (new.core ≠ old.core → Signal.rsqCore new.core ∈ Clc.measureSignals old new) := by
  simp only [Clc.measureSignals, List.mem_append, mem_sigIf, Bool.or_eq_true, bne_iff_ne]
  refine ⟨fun h => .inl (.inl ⟨?_, trivial⟩), fun h => ?_, fun h => .inr ⟨h.symm, trivial⟩⟩
  · exact (or_assoc.mpr h).imp (Or.imp Ne.symm Ne.symm) Ne.symm
  · rw [if_pos (Ne.symm h)]
    simp

/-- Settles O20: the expiry takes the state `Clc.afterMeasure` and delivers its changes, which no delivery undoes. -/
theorem measurementTakesReadings : Obligations.MeasurementTakesReadings := by
  intro cavity core boiler s hq
  have hmeasure := State.clcMeasure_eq cavity core boiler s
  have hclc : (s.clcMeasure cavity core boiler).clc = (s.clc.afterMeasure cavity core boiler).refresh := by
    rw [hmeasure]; rfl
  have hcore := Clc.afterMeasure_core s.clc cavity core boiler
  have hrunOn := Clc.afterMeasure_runOn s.clc cavity core boiler
  have hover := Clc.measured_runOnOver_iff (c := s.clc) (cavity := cavity) (core := core) (boiler := boiler)
  obtain ⟨hilu, hboiler, hrsq⟩ :=
    Clc.mem_measureSignals (old := s.clc) (new := s.clc.afterMeasure cavity core boiler)
  have hdelivered : ∀ sig ∈ Clc.measureSignals s.clc (s.clc.afterMeasure cavity core boiler),
      sig ∈ (s.clcMeasure cavity core boiler).bus := fun sig h => by
    rw [hmeasure]
    exact State.mem_clcTo_bus.mpr (.inr (.inr (List.mem_append_left _ h)))
  have hsettled := State.settle_readings settleFuel (s.clcMeasure cavity core boiler)
  simp only [Clc.readings, Prod.mk.injEq] at hsettled
  refine ⟨s.clcMeasure cavity core boiler, by rw [← State.event_of_quiet hq]; rfl, by rw [hmeasure]; rfl, ?_⟩
  rw [hclc] at hsettled ⊢
  refine ⟨rfl, rfl, Clc.takeCavity_good_eq, Clc.takeCavity_bad_eq, fun h => ?_, fun h => ?_,
    fun h => hdelivered _ (hilu h), fun h => (hboiler h).imp (hdelivered _) (hdelivered _),
    fun h => hdelivered _ (hrsq h), fun h => ⟨?_, ?_⟩, fun h => ?_, hsettled⟩
  · exact hcore.trans (if_pos (by simp [Clc.coreValid, h]))
  · exact hcore.trans (if_neg (by rcases h with h | h | h <;> simp [Clc.coreValid, h]))
  · exact hrunOn.trans (if_pos (hover.mpr h))
  · rw [hmeasure]
    exact State.mem_clcTo_bus.mpr (.inr (.inr (List.mem_append_right _ (mem_sigIf.mpr ⟨hover.mpr h, rfl⟩))))
  · refine hrunOn.trans (if_neg fun ho => ?_)
    obtain ⟨hruns, hwindow, hcool⟩ := hover.mp ho
    rcases h with h | h | h
    · simp [h] at hruns
    · exact hwindow h
    · exact absurd hcool (not_le.mpr h)

end Sys2Proof.Machine
end

section
/-! SUPPORT. The live copy of a step (R7, R120), and what power-on reset leaves (R188). -/

namespace Sys2Proof.Machine

/-! ### The live copy of a step, R7 and R120 -/

/-- A sound step has the live copy that its mode, vent field and end kind give. -/
theorem RawStep.toLive_eq {r : RawStep} {m : Mode} {v : VentField} {k : EndKind} (hm : r.mode = some m)
    (hv : r.vent = some v) (hk : r.endKind = some k) : r.toLive = some (r.live m v k) := by
  simp [RawStep.toLive, hm, hv, hk]

/-- Clamping from 0 up cuts off at the upper end. -/
theorem clampNat_zero (hi n : Nat) : clampNat 0 hi n = min hi n := by
  unfold clampNat
  split
  · omega
  · split <;> omega

theorem Mode.takeHumidity_steam {m : Mode} (hm : m.isSteam = true) (h : Option Nat) :
    (m.takeHumidity h).1 = match h with
      | some h => clampNat m.row.humLo m.row.humHi h
      | none => m.row.humDef := by
  cases h <;> simp [Mode.takeHumidity, hm]

/-- A mode without steam takes no humidity (log 22). -/
theorem Mode.takeHumidity_dry {m : Mode} (hm : m.isSteam = false) (h : Option Nat) : (m.takeHumidity h).1 = 0 := by
  cases h <;> simp [Mode.takeHumidity, hm]

/-- Settles O36: each field of the live copy is the given one, or its clamped value. -/
theorem liveCopyClampsValues : Obligations.LiveCopyClampsValues := by
  intro r m v k l hm hv hk hl
  rw [RawStep.toLive_eq hm hv hk, Option.some.injEq] at hl
  subst hl
  exact ⟨rfl, rfl, rfl, rfl, rfl, rfl, fun h => if_pos h, fun h => if_neg h,
    fun h => Mode.takeHumidity_steam h r.humidity, fun h => Mode.takeHumidity_dry h r.humidity, clampNat_zero 3 r.fan,
    clampNat_zero 100 (r.floor.getD 0), fun h => if_pos h, fun h => if_pos h⟩

/-! ### Power-on reset, R188 -/

/-- With a valid station strap every block stands at its state after reset, and nothing is left to deliver. -/
theorem exec_powerOnReset {station : Fin 8} (hs : station ≠ 7) (budget : Fin 8) (s : State) :
    exec (.powerOnReset station budget) s = .next (State.afterReset .powerOn ⟨station, budget⟩
      (s.stc.cutMem s.freeUse) (if s.stc.op.isSome then s.freeUse + 1 else s.freeUse) s.pending) := by
  have hreset : s.resetBy .powerOn ⟨station, budget⟩ = State.afterReset .powerOn ⟨station, budget⟩
      (s.stc.cutMem s.freeUse) (if s.stc.op.isSome then s.freeUse + 1 else s.freeUse) s.pending := if_neg hs
  rw [exec, execPowerOnReset, hreset, State.settle_nil (by rfl)]

/-- R155: a reset with no memory operation in flight leaves the memory. -/
theorem Stc.cutMem_of_idle {t : Stc} (h : t.op = none) (use : Nat) : t.cutMem use = t.mem := by
  rw [Stc.cutMem, h]

/-- R47: the budgets of Table 0-4, by the code of the budget straps. -/
theorem budgetOf_eq (budget : Fin 8) :
    budgetOf budget = [100, 115, 138, 161, 184, 230, 276, 368].getD budget.val 0 := by
  revert budget
  decide

/-- Settles O2: the tables of the reset values, read block by block. -/
theorem powerOnResetLeavesResetState : Obligations.PowerOnResetLeavesResetState := by
  intro station budget s hs
  refine ⟨_, exec_powerOnReset hs budget s, rfl, rfl, ?slc, ?lsu, ?loads, ?dsp, ?clc, ?sgc, ?sdu, ?rsq, ?stc,
    ?ilu, ?cmh, rfl, rfl, rfl⟩
  case slc => exact ⟨rfl, rfl, rfl, rfl, rfl, rfl, rfl, rfl, rfl, rfl, rfl, rfl, rfl, rfl, rfl, rfl⟩
  case lsu => exact ⟨rfl, budgetOf_eq budget, rfl, rfl, rfl, rfl, rfl, rfl, rfl, rfl, rfl, rfl⟩
  case loads =>
    intro l
    cases l <;> exact ⟨rfl, rfl, rfl, rfl, rfl, rfl, rfl, rfl⟩
  case dsp => exact ⟨rfl, rfl, rfl⟩
  case clc => exact ⟨rfl, rfl, rfl, rfl, rfl, rfl, rfl, rfl, rfl, rfl, rfl, rfl, rfl⟩
  case sgc => exact ⟨rfl, rfl, rfl, rfl, rfl, rfl, rfl, rfl⟩
  case sdu => exact ⟨rfl, rfl, rfl, rfl, rfl, rfl, rfl⟩
  case rsq => exact ⟨rfl, rfl, rfl, rfl, rfl, rfl, rfl, rfl⟩
  case stc => exact ⟨rfl, rfl, rfl, rfl, rfl, rfl, fun h => Stc.cutMem_of_idle h s.freeUse⟩
  case ilu =>
    refine ⟨rfl, rfl, rfl, rfl, rfl, rfl, fun p => ?_⟩
    fin_cases p <;> rfl
  case cmh => exact ⟨rfl, rfl, rfl, rfl, rfl, rfl, rfl⟩

end Sys2Proof.Machine
end

section
/-! SUPPORT. The dispatcher's operations, load by load: what each changes, which load step 3 switches on, which loads a
fall of the limit sheds (R26 to R42). -/

namespace Sys2Proof.Machine

/-! ### Items by load -/

@[simp] theorem Six.get_map {α β : Type} (f : α → β) (x : Six α) (l : Load) : (x.map f).get l = f (x.get l) := by
  cases l <;> rfl

@[simp] theorem Six.get_of {α : Type} (f : Load → α) (l : Load) : (Six.of f).get l = f l := by
  cases l <;> rfl

@[simp] theorem Six.get_all {α : Type} (v : α) (l : Load) : (Six.all v).get l = v := by
  cases l <;> rfl

@[simp] theorem Six.get_set_same {α : Type} (x : Six α) (l : Load) (v : α) : (x.set l v).get l = v := by
  cases l <;> rfl

theorem Six.get_set_other {α : Type} (x : Six α) {l m : Load} (h : m ≠ l) (v : α) : (x.set l v).get m = x.get m := by
  cases l <;> cases m <;> first | rfl | exact absurd rfl h

theorem Load.mem_all (l : Load) : l ∈ Load.all := by
  cases l <;> decide

theorem Load.index_injective {l m : Load} (h : l.index = m.index) : l = m := by
  cases l <;> cases m <;> first | rfl | exact absurd h (by decide)

/-- The loads stand in `Load.all` in index order. -/
theorem Load.all_pairwise : Load.all.Pairwise (·.index < ·.index) := by decide

theorem Load.forall_mem_all {p : Load → Prop} : (∀ l ∈ Load.all, p l) ↔ ∀ l, p l :=
  ⟨fun h l => h l l.mem_all, fun h l _ => h l⟩

theorem Dsp.setLoad_same (d : Dsp) (l : Load) (v : DspLoad) : (d.setLoad l v).loads.get l = v := Six.get_set_same _ _ _

theorem Dsp.setLoad_other (d : Dsp) {l m : Load} (h : m ≠ l) (v : DspLoad) :
    (d.setLoad l v).loads.get m = d.loads.get m := Six.get_set_other _ h _

/-! ### The energised sum -/

/-- Table 2-2: the energised sum over the loads in index order. -/
theorem Dsp.energisedSum_eq (d : Dsp) : d.energisedSum = (Load.all.map fun l => (d.loads.get l).draw).sum := by
  simp only [Load.all, List.map_cons, List.map_nil, List.sum_cons, List.sum_nil, Nat.add_zero, Dsp.energisedSum,
    Nat.add_assoc]
  rfl

theorem Dsp.energisedSum_congr {d d' : Dsp} (h : ∀ l, (d'.loads.get l).draw = (d.loads.get l).draw) :
    d'.energisedSum = d.energisedSum := by
  simp only [Dsp.energisedSum_eq, h]

theorem Dsp.energisedSum_mono {d d' : Dsp} (h : ∀ l, (d'.loads.get l).draw ≤ (d.loads.get l).draw) :
    d'.energisedSum ≤ d.energisedSum := by
  rw [Dsp.energisedSum_eq, Dsp.energisedSum_eq]
  exact List.sum_le_sum fun l _ => h l

/-- No load on draws nothing. -/
theorem Dsp.energisedSum_of_off {d : Dsp} (h : ∀ l, (d.loads.get l).on = false) : d.energisedSum = 0 := by
  have hdraw : ∀ l, (d.loads.get l).draw = 0 := fun l => by simp [DspLoad.draw, h l]
  simp [Dsp.energisedSum_eq, hdraw]

/-- One load changed changes the sum by what it draws. -/
theorem Dsp.energisedSum_setLoad (d : Dsp) (l : Load) (v : DspLoad) :
    (d.setLoad l v).energisedSum + (d.loads.get l).draw = d.energisedSum + v.draw := by
  cases l <;> simp only [Dsp.energisedSum, Dsp.setLoad, Six.set, Six.get] <;> omega

/-! ### Order of the loads, R33 and R38 -/

/-- R33: a load stands ahead of another by its higher accumulator, or by its lower index where they are equal. R38 sheds
in the contrary order. -/
def Dsp.Ahead (d : Dsp) (l m : Load) : Prop :=
  (d.loads.get m).acc < (d.loads.get l).acc ∨
    ((d.loads.get m).acc = (d.loads.get l).acc ∧ l.index < m.index)

theorem Dsp.Ahead.trans {d : Dsp} {l m n : Load} (h : d.Ahead l m) (h' : d.Ahead m n) : d.Ahead l n := by
  unfold Dsp.Ahead at *; omega

theorem Dsp.Ahead.asymm {d : Dsp} {l m : Load} (h : d.Ahead l m) : ¬ d.Ahead m l := by
  unfold Dsp.Ahead at *; omega

/-! ### Step 3: the candidates in order -/

/-- A list sorted by insertion is in the order `B`, where the test `r` of the insertion says of an item and a later one of
the list which of the two comes first in `B`. -/
theorem insertionSort_pairwise {α : Type} {r B : α → α → Prop} [DecidableRel r]
    (htrans : ∀ x y z, B x y → B y z → B x z) {xs : List α}
    (hxs : xs.Pairwise fun x y => (r x y → B x y) ∧ (¬ r x y → B y x)) : (xs.insertionSort r).Pairwise B := by
  have hinsert : ∀ (x : α) (ys : List α), ys.Pairwise B → (∀ y ∈ ys, (r x y → B x y) ∧ (¬ r x y → B y x)) →
      (ys.orderedInsert r x).Pairwise B := by
    intro x ys hys hx
    induction ys with
    | nil => exact List.pairwise_singleton _ _
    | cons y rest ih =>
      obtain ⟨hy, hrest⟩ := List.pairwise_cons.mp hys
      obtain ⟨hxy, hxrest⟩ := List.forall_mem_cons.mp hx
      rw [List.orderedInsert]
      split
      · next hr =>
        have hfirst : ∀ z ∈ rest, B x z := fun z hz => htrans _ _ _ (hxy.1 hr) (hy z hz)
        exact List.pairwise_cons.mpr ⟨List.forall_mem_cons.mpr ⟨hxy.1 hr, hfirst⟩, hys⟩
      · next hr =>
        refine List.pairwise_cons.mpr ⟨fun z hz => ?_, ih hrest hxrest⟩
        obtain rfl | hz := (List.mem_orderedInsert r).mp hz
        · exact hxy.2 hr
        · exact hy z hz
  induction xs with
  | nil => exact List.Pairwise.nil
  | cons x rest ih =>
    obtain ⟨hx, hrest⟩ := List.pairwise_cons.mp hxs
    exact hinsert x _ (ih hrest) fun y hy => hx y ((List.mem_insertionSort r).mp hy)

theorem Dsp.insertDescending_eq (d : Dsp) (l : Load) (ls : List Load) :
    d.insertDescending l ls = ls.orderedInsert (fun l m => (d.loads.get m).acc ≤ (d.loads.get l).acc) l := by
  induction ls with
  | nil => rfl
  | cons m rest ih => rw [Dsp.insertDescending, ih]; rfl

theorem Dsp.candidates_eq (d : Dsp) : d.candidates = (Load.all.filter fun l => (d.loads.get l).candidate).insertionSort
    fun l m => (d.loads.get m).acc ≤ (d.loads.get l).acc := by
  have hinsert : d.insertDescending =
      List.orderedInsert fun l m => (d.loads.get m).acc ≤ (d.loads.get l).acc := by
    funext l ls; exact d.insertDescending_eq l ls
  rw [Dsp.candidates, hinsert]
  rfl

theorem Dsp.mem_candidates {d : Dsp} {l : Load} : l ∈ d.candidates ↔ (d.loads.get l).candidate = true := by
  rw [Dsp.candidates_eq, List.mem_insertionSort, List.mem_filter]
  exact and_iff_right l.mem_all

/-- R33: the candidates stand in order. -/
theorem Dsp.candidates_pairwise (d : Dsp) : d.candidates.Pairwise d.Ahead := by
  rw [Dsp.candidates_eq]
  apply insertionSort_pairwise (B := d.Ahead) fun _ _ _ => Dsp.Ahead.trans
  refine (Load.all_pairwise.filter _).imp fun {l m} hlm => ?_
  unfold Dsp.Ahead
  omega

/-- R33, R34: the load is a candidate that fits, and no other such candidate stands ahead of it. -/
structure Dsp.FirstFit (d : Dsp) (l : Load) : Prop where
  candidate : (d.loads.get l).candidate = true
  fits : d.fits l = true
  ahead : ∀ m, m ≠ l → (d.loads.get m).candidate = true → d.fits m = true → d.Ahead l m

theorem Dsp.FirstFit.unique {d : Dsp} {l m : Load} (hl : d.FirstFit l) (hm : d.FirstFit m) : l = m := by
  by_contra hne
  exact (hl.ahead m (Ne.symm hne) hm.candidate hm.fits).asymm (hm.ahead l hne hl.candidate hl.fits)

/-- What is looked for in the ordered candidates is the first that fits. -/
theorem Dsp.find?_candidates {d : Dsp} {l : Load} (h : d.candidates.find? d.fits = some l) : d.FirstFit l := by
  obtain ⟨hfits, before, after, hsplit, hbefore⟩ := List.find?_eq_some_iff_append.mp h
  refine ⟨Dsp.mem_candidates.mp (List.mem_of_find?_eq_some h), hfits, fun m hne hcand hm => ?_⟩
  have hsorted := d.candidates_pairwise
  have hmem := Dsp.mem_candidates.mpr hcand
  rw [hsplit] at hsorted hmem
  obtain hm' | hm' | hm' : m ∈ before ∨ m = l ∨ m ∈ after := by simpa using hmem
  · have := hbefore m hm'
    simp [hm] at this
  · exact absurd hm' hne
  · exact (List.pairwise_cons.mp (List.pairwise_append.mp hsorted).2.1).1 m hm'

/-- Step 3, R34: the first candidate that fits is switched on, or no load where none fits. -/
theorem Dsp.switchOn_cases (d : Dsp) :
    (∃ l, d.FirstFit l ∧ d.switchOn = d.setLoad l (d.loads.get l).switchOn) ∨
      ((∀ l, ¬ d.FirstFit l) ∧ d.switchOn = d) := by
  unfold Dsp.switchOn
  split
  · next hnone =>
    refine .inr ⟨fun l hl => ?_, rfl⟩
    exact List.find?_eq_none.mp hnone l (Dsp.mem_candidates.mpr hl.candidate) hl.fits
  · next l hl => exact .inl ⟨l, Dsp.find?_candidates hl, rfl⟩

theorem Dsp.switchOn_of_firstFit {d : Dsp} {l : Load} (h : d.FirstFit l) :
    d.switchOn = d.setLoad l (d.loads.get l).switchOn := by
  obtain ⟨m, hm, heq⟩ | ⟨hnone, _⟩ := d.switchOn_cases
  · rwa [hm.unique h] at heq
  · exact absurd h (hnone l)

theorem Dsp.switchOn_of_none {d : Dsp} (h : ∀ l, ¬ d.FirstFit l) : d.switchOn = d := by
  obtain ⟨m, hm, _⟩ | ⟨_, heq⟩ := d.switchOn_cases
  · exact absurd hm (h m)
  · exact heq

theorem DspLoad.candidate_iff {l : DspLoad} : l.candidate = true ↔
    l.on = false ∧ l.rated ≠ 0 ∧ l.blocked = false ∧ 1000 ≤ l.acc ∧ l.runCount = 2 := by
  simp [DspLoad.candidate, DspLoad.fitted, and_assoc]

theorem Dsp.fits_iff {d : Dsp} {l : Load} :
    d.fits l = true ↔ d.energisedSum + (d.loads.get l).rated ≤ d.headroom := decide_eq_true_iff

/-! ### Shedding, R38 -/

theorem Dsp.insertAscending_eq (d : Dsp) (l : Load) (ls : List Load) :
    d.insertAscending l ls = ls.orderedInsert (fun l m => (d.loads.get l).acc < (d.loads.get m).acc) l := by
  induction ls with
  | nil => rfl
  | cons m rest ih => rw [Dsp.insertAscending, ih]; rfl

theorem Dsp.shedOrder_eq (d : Dsp) : d.shedOrder = (Load.all.filter fun l => (d.loads.get l).on).insertionSort
    fun l m => (d.loads.get l).acc < (d.loads.get m).acc := by
  have hinsert : d.insertAscending =
      List.orderedInsert fun l m => (d.loads.get l).acc < (d.loads.get m).acc := by
    funext l ls; exact d.insertAscending_eq l ls
  rw [Dsp.shedOrder, hinsert]
  rfl

theorem Dsp.mem_shedOrder {d : Dsp} {l : Load} : l ∈ d.shedOrder ↔ (d.loads.get l).on = true := by
  rw [Dsp.shedOrder_eq, List.mem_insertionSort, List.mem_filter]
  exact and_iff_right l.mem_all

/-- R38: a load is shed before those that stand ahead of it. -/
theorem Dsp.shedOrder_pairwise (d : Dsp) : d.shedOrder.Pairwise fun m n => d.Ahead n m := by
  rw [Dsp.shedOrder_eq]
  apply insertionSort_pairwise (B := fun m n => d.Ahead n m) fun _ _ _ h h' => h'.trans h
  refine (Load.all_pairwise.filter _).imp fun {l m} hlm => ?_
  unfold Dsp.Ahead
  omega

/-- Loads switched off one after another. -/
def Dsp.switchOffAll (d : Dsp) (ls : List Load) : Dsp := ls.foldl (fun d l => d.setLoad l (d.loads.get l).switchOff) d

theorem Dsp.switchOffAll_eq (d : Dsp) (ls : List Load) :
    d.switchOffAll ls = { d with loads := (d.switchOffAll ls).loads } := by
  induction ls generalizing d with
  | nil => rfl
  | cons l rest ih => exact ih (d.setLoad l (d.loads.get l).switchOff)

theorem Dsp.switchOffAll_headroom (d : Dsp) (ls : List Load) : (d.switchOffAll ls).headroom = d.headroom := by
  rw [Dsp.switchOffAll_eq]; rfl

theorem Dsp.switchOffAll_get (d : Dsp) (ls : List Load) (l : Load) :
    (d.switchOffAll ls).loads.get l = if l ∈ ls then (d.loads.get l).switchOff else d.loads.get l := by
  induction ls generalizing d with
  | nil => rfl
  | cons m rest ih =>
    refine (ih (d.setLoad m (d.loads.get m).switchOff)).trans ?_
    by_cases hlm : l = m
    · subst hlm
      rw [Dsp.setLoad_same, if_pos List.mem_cons_self]
      split <;> rfl
    · simp [Dsp.setLoad_other _ hlm, hlm]

theorem Dsp.switchOffAll_energisedSum_snoc (d : Dsp) (ls : List Load) {l : Load} (hon : (d.loads.get l).on = true)
    (hl : l ∉ ls) : (d.switchOffAll ls).energisedSum = (d.switchOffAll (ls ++ [l])).energisedSum + (d.loads.get l).rated := by
  have hget : (d.switchOffAll ls).loads.get l = d.loads.get l := by rw [Dsp.switchOffAll_get, if_neg hl]
  have hsum := (d.switchOffAll ls).energisedSum_setLoad l ((d.switchOffAll ls).loads.get l).switchOff
  have hsnoc : d.switchOffAll (ls ++ [l]) =
      (d.switchOffAll ls).setLoad l ((d.switchOffAll ls).loads.get l).switchOff := List.foldl_concat ..
  have hdraw : (d.loads.get l).draw = (d.loads.get l).rated := if_pos hon
  have hoff : (d.loads.get l).switchOff.draw = 0 := rfl
  rw [hget, hdraw, hoff] at hsum
  rw [hsnoc, hget]
  omega

/-- R38: the first loads of the list are switched off, no more than are needed, and all of them where the rest of the list
would not do. -/
theorem Dsp.shed_eq (ls : List Load) (d : Dsp) : ∃ gone kept, ls = gone ++ kept ∧
    Dsp.shed ls d = d.switchOffAll gone ∧
    (kept ≠ [] → (d.switchOffAll gone).energisedSum ≤ d.headroom) ∧
    ∀ before l, gone = before ++ [l] → d.headroom < (d.switchOffAll before).energisedSum := by
  induction ls generalizing d with
  | nil => exact ⟨[], [], rfl, rfl, fun h => absurd rfl h, by simp⟩
  | cons m rest ih =>
    rw [Dsp.shed]
    split
    · next hfits => exact ⟨[], m :: rest, rfl, rfl, fun _ => hfits, by simp⟩
    · next hover =>
      obtain ⟨gone, kept, hsplit, hshed, hkept, hgone⟩ := ih (d.setLoad m (d.loads.get m).switchOff)
      refine ⟨m :: gone, kept, by rw [hsplit]; rfl, hshed, hkept, fun before l hb => ?_⟩
      obtain ⟨rfl, _⟩ | ⟨before', rfl, hb'⟩ := List.cons_eq_append_iff.mp hb
      · exact not_le.mp hover
      · exact hgone before' l hb'

end Sys2Proof.Machine
end

section
/-! SUPPORT. What the dispatcher takes: the operations of Table 2-2 on its state, and the obligations about one slot
expiry and one change of the limit (R28 to R39). -/

namespace Sys2Proof.Machine

/-! ### The DSP takes a state of its own -/

/-- The DSP changes its own component, posts its events and delivers its changes. -/
theorem State.dspTo_eq (s : State) (new : Dsp) (es : List (EventCode × Nat × Word)) : s.dspTo new es =
    { s with
      dsp := new, evq := s.evq.appendAll es, bus := Signal.inOrder (s.bus ++ Dsp.reports s.dsp new) } := by
  rw [State.dspTo, State.postAll_eq]
  rfl

@[simp] theorem State.dspTo_dsp (s : State) (new : Dsp) (es : List (EventCode × Nat × Word)) :
    (s.dspTo new es).dsp = new := by
  rw [State.dspTo_eq]

@[simp] theorem State.dspTo_evq (s : State) (new : Dsp) (es : List (EventCode × Nat × Word)) :
    (s.dspTo new es).evq = s.evq.appendAll es := by
  rw [State.dspTo_eq]

/-- R45: the changes are delivered. -/
theorem State.mem_dspTo_bus {s : State} {new : Dsp} {es : List (EventCode × Nat × Word)} {sig : Signal} :
    sig ∈ (s.dspTo new es).bus ↔ sig ∈ s.bus ∨ sig ∈ Dsp.reports s.dsp new := by
  rw [State.dspTo, State.mem_emit_bus, State.postAll_bus]
  rfl

/-! ### A new limit, R28, R38, R39 -/

/-- The dispatcher after a new applied limit. -/
def Dsp.takeLimit (d : Dsp) (limit : Nat) : Dsp := Dsp.shed { d with limit := limit }.shedOrder { d with limit := limit }

@[simp] theorem State.dspLimit_dsp (limit : Nat) (s : State) : (s.dspLimit limit).dsp = s.dsp.takeLimit limit :=
  State.dspTo_dsp _ _ _

/-- R38: some loads that are on are switched off, each standing behind those that stay on; they are no more than are
needed, and the energised sum fits the headroom after them. -/
structure Dsp.Sheds (d : Dsp) (gone : List Load) : Prop where
  on : ∀ l ∈ gone, (d.loads.get l).on = true
  behind : ∀ l ∈ gone, ∀ m ∉ gone, (d.loads.get m).on = true → d.Ahead m l
  fits : (d.switchOffAll gone).energisedSum ≤ d.headroom
  needed : ∀ l ∈ gone, (∀ m ∈ gone, m ≠ l → d.Ahead l m) →
    d.headroom < (d.switchOffAll gone).energisedSum + (d.loads.get l).rated

/-- R38: the dispatcher sheds. -/
theorem Dsp.shed_shedOrder (d : Dsp) : ∃ gone, d.Sheds gone ∧ Dsp.shed d.shedOrder d = d.switchOffAll gone := by
  obtain ⟨gone, kept, hsplit, hshed, hkept, hgone⟩ := Dsp.shed_eq d.shedOrder d
  have hsorted := d.shedOrder_pairwise
  rw [hsplit] at hsorted
  obtain ⟨hsorted, -, hcross⟩ := List.pairwise_append.mp hsorted
  have hmem : ∀ l, (d.loads.get l).on = true ↔ l ∈ gone ∨ l ∈ kept := fun l => by
    rw [← Dsp.mem_shedOrder, hsplit, List.mem_append]
  refine ⟨gone, ⟨fun l hl => (hmem l).mpr (.inl hl), fun l hl m hm hon => ?_, ?_, fun l hl hlast => ?_⟩, hshed⟩
  · exact hcross l hl m (((hmem m).mp hon).resolve_left hm)
  · obtain rfl | hne := eq_or_ne kept []
    · refine le_of_eq_of_le (Dsp.energisedSum_of_off fun l => ?_) (Nat.zero_le _)
      rw [Dsp.switchOffAll_get]
      split
      · rfl
      · next hl => exact Bool.eq_false_iff.mpr fun hon => hl (by simpa using (hmem l).mp hon)
    · exact hkept hne
  · obtain ⟨before, x, rfl⟩ := List.eq_nil_or_concat' gone |>.resolve_left (List.ne_nil_of_mem hl)
    have hlt := hgone before x rfl
    obtain ⟨-, -, hbefore⟩ := List.pairwise_append.mp hsorted
    obtain rfl | hx := eq_or_ne x l
    · have hnot : x ∉ before := fun hx => (hbefore x hx x List.mem_cons_self).asymm
        (hbefore x hx x List.mem_cons_self)
      rwa [Dsp.switchOffAll_energisedSum_snoc d before ((hmem x).mpr (.inl hl)) hnot] at hlt
    · have hmem' : l ∈ before := by simpa [Ne.symm hx] using hl
      exact absurd (hlast x (by simp) hx) (hbefore l hmem' x List.mem_cons_self).asymm

theorem Dsp.takeLimit_eq (d : Dsp) (limit : Nat) : ∃ gone, Dsp.Sheds { d with limit := limit } gone ∧
    d.takeLimit limit = Dsp.switchOffAll { d with limit := limit } gone := Dsp.shed_shedOrder _

/-- R38: where the energised sum fits the headroom, no load is shed. -/
theorem Dsp.shed_of_fits {d : Dsp} (h : d.energisedSum ≤ d.headroom) (ls : List Load) : Dsp.shed ls d = d := by
  cases ls with
  | nil => rfl
  | cons l rest => exact if_pos h

theorem Dsp.takeLimit_of_fits {d : Dsp} {limit : Nat} (h : d.energisedSum ≤ limit - 3) :
    d.takeLimit limit = { d with limit := limit } := Dsp.shed_of_fits (d := { d with limit := limit }) h _

/-- No load switched off leaves the energised sum as it is. -/
theorem Dsp.energisedSum_of_switchedOff_eq_zero {d : Dsp} {gone : List Load} (hon : ∀ l ∈ gone, (d.loads.get l).on = true)
    (h : Dsp.switchedOff d (d.switchOffAll gone) = 0) : (d.switchOffAll gone).energisedSum = d.energisedSum := by
  refine Dsp.energisedSum_congr fun l => ?_
  rw [Dsp.switchOffAll_get]
  split
  · next hl =>
    have hnone := List.filter_eq_nil_iff.mp (List.eq_nil_of_length_eq_zero h) l l.mem_all
    rw [Dsp.switchOffAll_get, if_pos hl, hon l hl] at hnone
    exact absurd rfl hnone
  · rfl

/-- Nothing is switched off between a dispatcher and one with the same loads. -/
theorem Dsp.switchedOff_of_same {d d' : Dsp} (h : d'.loads = d.loads) : Dsp.switchedOff d d' = 0 := by
  simp [Dsp.switchedOff, h]

/-- R39: one LOAD_SHED counts the loads shed. -/
theorem State.dspLimit_evq (limit : Nat) (s : State) : (s.dspLimit limit).evq =
    if Dsp.switchedOff s.dsp (s.dsp.takeLimit limit) = 0 then s.evq
    else s.evq.append .loadShed (Dsp.switchedOff s.dsp (s.dsp.takeLimit limit))
      (word (s.dsp.takeLimit limit).headroom) := by
  refine (State.dspTo_evq _ _ _).trans ?_
  show s.evq.appendAll (if Dsp.switchedOff s.dsp (s.dsp.takeLimit limit) = 0 then [] else _) = _
  split <;> rfl

/-- Step 3 as R33 and R34 give it. -/
theorem Dsp.switchOn_first (d : Dsp) :
    (∀ l, (d.loads.get l).candidate = true → d.energisedSum + (d.loads.get l).rated ≤ d.headroom →
      (∀ m, (d.loads.get m).candidate = true → d.energisedSum + (d.loads.get m).rated ≤ d.headroom →
        (d.loads.get m).acc < (d.loads.get l).acc ∨
          ((d.loads.get m).acc = (d.loads.get l).acc ∧ l.index ≤ m.index)) →
      d.switchOn = d.setLoad l (d.loads.get l).switchOn) ∧
    ((∀ l, (d.loads.get l).candidate = true → d.headroom < d.energisedSum + (d.loads.get l).rated) → d.switchOn = d) := by
  refine ⟨fun l hcand hfits hfirst => ?_, fun hnone => ?_⟩
  · refine Dsp.switchOn_of_firstFit ⟨hcand, Dsp.fits_iff.mpr hfits, fun m hne hm hmfits => ?_⟩
    have hindex : l.index ≠ m.index := fun h => hne (Load.index_injective h.symm)
    have := hfirst m hm (Dsp.fits_iff.mp hmfits)
    unfold Dsp.Ahead
    omega
  · exact Dsp.switchOn_of_none fun l hl => absurd (Dsp.fits_iff.mp hl.fits) (not_le.mpr (hnone l hl.candidate))

/-- Settles O26: the ordered candidates are searched for the first that fits, and the loads are shed from the end of the
order. -/
theorem loadsSwitchAndShedInOrder : Obligations.LoadsSwitchAndShedInOrder := by
  refine ⟨Dsp.switchOn_first, fun s limit => ?_⟩
  obtain ⟨gone, hsheds, heq⟩ := s.dsp.takeLimit_eq limit
  simp only [handle, State.dspLimit_dsp, State.dspLimit_evq]
  have hheadroom : (s.dsp.takeLimit limit).headroom = limit - 3 := by
    rw [heq, Dsp.switchOffAll_headroom]; rfl
  have hget : ∀ l, (s.dsp.takeLimit limit).loads.get l =
      if l ∈ gone then (s.dsp.loads.get l).switchOff else s.dsp.loads.get l := fun l => by
    rw [heq, Dsp.switchOffAll_get]
  have hgone : ∀ l, (s.dsp.loads.get l).on = true → ((s.dsp.takeLimit limit).loads.get l).on = false → l ∈ gone :=
    fun l hon hoff => by
      by_contra hl
      rw [hget, if_neg hl, hon] at hoff
      cases hoff
  have hoff : ∀ l ∈ gone, ((s.dsp.takeLimit limit).loads.get l).on = false := fun l hl => by
    rw [hget, if_pos hl]; rfl
  have hfits : (s.dsp.takeLimit limit).energisedSum ≤ limit - 3 := by
    rw [heq]; exact hsheds.fits
  refine ⟨by rw [heq, Dsp.switchOffAll_eq], hfits, fun l => ?_, fun l l' hon hkept hon' hshed => ?_,
    fun l hon hshed hlast => ?_, fun hroom => ?_, fun hover => ?_⟩
  · rw [hget]
    split
    · next hl => exact .inr ⟨hsheds.on l hl, rfl⟩
    · exact .inl rfl
  · have hl : l ∉ gone := fun hl => by simp [hoff l hl] at hkept
    exact hsheds.behind l' (hgone l' hon' hshed) l hl hon
  · rw [heq]
    exact hsheds.needed l (hgone l hon hshed) fun m hm hne => hlast m (hsheds.on m hm) (hoff m hm) hne
  · have hsame : (s.dsp.takeLimit limit).loads = s.dsp.loads := by rw [Dsp.takeLimit_of_fits hroom]
    exact ⟨hsame, if_pos (Dsp.switchedOff_of_same hsame)⟩
  · have hsome : Dsp.switchedOff s.dsp (s.dsp.takeLimit limit) ≠ 0 := fun hzero => by
      rw [heq] at hzero hfits
      have hsum := Dsp.energisedSum_of_switchedOff_eq_zero hsheds.on hzero
      exact absurd (hsum ▸ hfits) (not_le.mpr hover)
    rw [if_neg hsome, hheadroom]
    rfl

end Sys2Proof.Machine
end

section
/-! SUPPORT. One slot expiry, load by load (Table 2-3, R29 to R37). -/

namespace Sys2Proof.Machine

theorem satSucc_eq_min (hi n : Nat) : satSucc hi n = min hi (n + 1) := by
  unfold satSucc
  split <;> omega

/-! ### Steps 1 and 2 for one load -/

/-- The accumulator after step 1 (R31). -/
def DspLoad.added (x : DspLoad) : Int :=
  if x.rated ≠ 0 ∧ x.blocked = false then min 2000 (x.acc + x.demand) else x.acc

/-- The run count after step 1 (R30). -/
def DspLoad.counted (x : DspLoad) : Nat := min 2 (x.runCount + 1)

/-- The load is energised after step 2 (R32). -/
def DspLoad.Still (x : DspLoad) : Prop := x.on = true ∧ (x.counted = 1 ∨ 1000 ≤ x.added)

/-- The load after steps 1 and 2. -/
def DspLoad.released (x : DspLoad) : DspLoad := x.countAndAdd.continueOrRelease

theorem DspLoad.countAndAdd_eq (x : DspLoad) : x.countAndAdd = { x with runCount := x.counted, acc := x.added } := by
  have hacc : x.countAndAdd.acc = x.added := by
    simp [DspLoad.countAndAdd, DspLoad.added, DspLoad.fitted]
  rw [← hacc, DspLoad.counted, ← satSucc_eq_min]
  rfl

theorem DspLoad.counted_eq (x : DspLoad) : x.counted = 1 ∨ x.counted = 2 := by
  unfold DspLoad.counted; omega

/-- Step 2 releases an energised load after its minimum run that has less than a full slot. -/
theorem DspLoad.released_iff (x : DspLoad) :
    (x.countAndAdd.on && x.countAndAdd.runCount == 2 && decide (x.countAndAdd.acc < 1000)) = true ↔
      x.on = true ∧ ¬ x.Still := by
  have hcounted := x.counted_eq
  rw [x.countAndAdd_eq]
  simp only [DspLoad.Still, Bool.and_eq_true, beq_iff_eq, decide_eq_true_eq, not_and, not_or]
  constructor
  · rintro ⟨⟨hon, hrun⟩, hacc⟩
    exact ⟨hon, fun _ => ⟨by omega, by omega⟩⟩
  · rintro ⟨hon, hnot⟩
    obtain ⟨hrun, hacc⟩ := hnot hon
    exact ⟨⟨hon, by omega⟩, by omega⟩

theorem DspLoad.released_of_not_still {x : DspLoad} (hon : x.on = true) (h : ¬ x.Still) :
    x.released = { x with acc := x.added, on := false, runCount := 0 } := by
  rw [DspLoad.released, DspLoad.continueOrRelease, if_pos (x.released_iff.mpr ⟨hon, h⟩), x.countAndAdd_eq]
  rfl

/-- A load that step 2 does not switch off keeps what step 1 gives it. -/
theorem DspLoad.released_of_kept {x : DspLoad} (h : x.on = true → x.Still) :
    x.released = { x with runCount := x.counted, acc := x.added } := by
  rw [DspLoad.released, DspLoad.continueOrRelease, if_neg fun hr => (x.released_iff.mp hr).2 (h (x.released_iff.mp hr).1),
    x.countAndAdd_eq]

/-- Steps 1 and 2 change the accumulator, the run count and the energised state only. -/
theorem DspLoad.released_eq (x : DspLoad) :
    x.released = { x with acc := x.added, on := x.released.on, runCount := x.released.runCount } := by
  by_cases h : x.on = true → x.Still
  · rw [DspLoad.released_of_kept h]
  · obtain ⟨hon, hnot⟩ := Classical.not_imp.mp h
    rw [DspLoad.released_of_not_still hon hnot]

theorem DspLoad.released_on (x : DspLoad) : x.released.on = true ↔ x.Still := by
  by_cases h : x.on = true → x.Still
  · rw [DspLoad.released_of_kept h]
    exact ⟨h, fun hs => hs.1⟩
  · obtain ⟨hon, hnot⟩ := Classical.not_imp.mp h
    rw [DspLoad.released_of_not_still hon hnot]
    exact ⟨fun h => absurd h Bool.false_ne_true, fun hs => absurd hs hnot⟩

/-- R33: a load switched off at step 2 is no candidate, as its run count has restarted. -/
theorem DspLoad.released_candidate (x : DspLoad) : x.released.candidate = true ↔
    x.rated ≠ 0 ∧ x.blocked = false ∧ x.on = false ∧ 1000 ≤ x.added ∧ x.counted = 2 := by
  rw [DspLoad.candidate_iff]
  by_cases h : x.on = true → x.Still
  · rw [DspLoad.released_of_kept h]
    tauto
  · obtain ⟨hon, hnot⟩ := Classical.not_imp.mp h
    rw [DspLoad.released_of_not_still hon hnot]
    simp [hon]

/-! ### Steps 4 and 5 for one load -/

theorem DspLoad.subtract_eq (x : DspLoad) : x.subtract = { x with acc := if x.on then x.acc - 1000 else x.acc } := by
  unfold DspLoad.subtract
  split <;> rfl

/-- The load after steps 4 and 5. -/
def DspLoad.charged (x : DspLoad) : DspLoad := x.subtract.starve

/-- R36: the load waits at a full accumulator. -/
theorem DspLoad.waits_iff {x : DspLoad} : x.waits = true ↔
    x.rated ≠ 0 ∧ x.blocked = false ∧ x.on = false ∧ 0 < x.demand ∧ x.acc = 2000 := by
  simp [DspLoad.waits, DspLoad.fitted, and_assoc]

theorem DspLoad.charged_starveCount (x : DspLoad) :
    (x.charged.waits = true → x.charged.starveCount = min 8 (x.starveCount + 1)) ∧
      (¬ x.charged.waits = true → x.charged.starveCount = 0) := by
  have hcount : x.charged.starveCount = if x.charged.waits then satSucc 8 x.starveCount else 0 := by
    rw [DspLoad.charged, x.subtract_eq]
    rfl
  rw [hcount, ← satSucc_eq_min]
  exact ⟨fun h => if_pos h, fun h => if_neg h⟩

theorem DspLoad.charged_starved (x : DspLoad) : x.charged.starved = (x.starved || x.charged.starveCount == 8) := by
  rw [DspLoad.charged, x.subtract_eq]
  rfl

/-- Steps 4 and 5 change the accumulator of an energised load, and the starve count and mark. -/
theorem DspLoad.charged_eq (x : DspLoad) : x.charged = { x with
    acc := if x.on then x.acc - 1000 else x.acc, starveCount := x.charged.starveCount, starved := x.charged.starved } := by
  rw [DspLoad.charged, x.subtract_eq]
  rfl

/-! ### The whole expiry -/

/-- The dispatcher after steps 1 and 2. -/
def Dsp.released (d : Dsp) : Dsp := { d with slotTimer := 500, loads := d.loads.map DspLoad.released }

theorem Dsp.expire_eq (d : Dsp) :
    d.expire = { d.released.switchOn with loads := d.released.switchOn.loads.map DspLoad.charged } := rfl

theorem Dsp.switchOn_eq (d : Dsp) : d.switchOn = { d with loads := d.switchOn.loads } := by
  obtain ⟨l, -, heq⟩ | ⟨-, heq⟩ := d.switchOn_cases <;> rw [heq]
  rfl

theorem Dsp.switchOn_get_firstFit {d : Dsp} {l : Load} (h : d.FirstFit l) :
    d.switchOn.loads.get l = (d.loads.get l).switchOn := by
  rw [Dsp.switchOn_of_firstFit h, Dsp.setLoad_same]

theorem Dsp.switchOn_get_other {d : Dsp} {l : Load} (h : ¬ d.FirstFit l) :
    d.switchOn.loads.get l = d.loads.get l := by
  obtain ⟨m, hm, heq⟩ | ⟨-, heq⟩ := d.switchOn_cases <;> rw [heq]
  obtain rfl | hlm := eq_or_ne l m
  · exact absurd hm h
  · exact Dsp.setLoad_other _ hlm _

/-- R31 to R34: what steps 1 to 3 make of a load, with its accumulator and run count after step 1. -/
structure DspLoad.Stepped (x : DspLoad) (first : Prop) (z : DspLoad) : Prop where
  eq : z = { x with acc := x.added, on := z.on, runCount := z.runCount, starveCount := z.starveCount, starved := z.starved }
  still : x.Still → z.on = true ∧ z.runCount = x.counted
  released : x.on = true → ¬ x.Still → z.on = false ∧ z.runCount = 0
  chosen : x.on = false → first → z.on = true ∧ z.runCount = 0
  other : x.on = false → ¬ first → z.on = false ∧ z.runCount = x.counted
  starveCount : z.on = false → z.starveCount = x.starveCount
  starved : z.starved = true ↔ x.starved = true ∧ ¬ (x.on = false ∧ z.on = true)

theorem DspLoad.stepped_first {x : DspLoad} (hoff : x.on = false) : x.Stepped True x.released.switchOn := by
  have hnot : ¬ x.on = true := by simp [hoff]
  rw [DspLoad.released_of_kept fun hon => absurd hon hnot]
  exact ⟨rfl, fun h => absurd h.1 hnot, fun h => absurd h hnot, fun _ _ => ⟨rfl, rfl⟩, fun _ h => absurd trivial h,
    fun h => absurd h.symm Bool.false_ne_true,
    by simp [DspLoad.switchOn, hoff]⟩

theorem DspLoad.stepped_other (x : DspLoad) : x.Stepped False x.released := by
  by_cases hkept : x.on = true → x.Still
  · rw [DspLoad.released_of_kept hkept]
    refine ⟨rfl, fun h => ⟨h.1, rfl⟩, fun hon h => absurd (hkept hon) h, fun _ h => h.elim, fun hoff _ => ⟨hoff, rfl⟩,
      fun _ => rfl, ?_⟩
    simp
  · obtain ⟨hon, hnot⟩ := Classical.not_imp.mp hkept
    rw [DspLoad.released_of_not_still hon hnot]
    refine ⟨rfl, fun h => absurd h hnot, fun _ _ => ⟨rfl, rfl⟩, fun _ h => h.elim,
      fun hoff => absurd hon (by simp [hoff]), fun _ => rfl, ?_⟩
    simp

/-- Each load after steps 1 to 3: one is switched on where one is the first that fits. -/
theorem Dsp.switchOn_stepped (d : Dsp) (l : Load) :
    (d.loads.get l).Stepped (d.released.FirstFit l) (d.released.switchOn.loads.get l) := by
  have hget : d.released.loads.get l = (d.loads.get l).released := Six.get_map _ _ _
  by_cases hfirst : d.released.FirstFit l
  · have hcand := hfirst.candidate
    rw [hget, DspLoad.released_candidate] at hcand
    obtain ⟨-, -, hoff, -⟩ := hcand
    rw [Dsp.switchOn_get_firstFit hfirst, hget, eq_true hfirst]
    exact DspLoad.stepped_first hoff
  · rw [Dsp.switchOn_get_other hfirst, hget, eq_false hfirst]
    exact DspLoad.stepped_other _

/-- R31 to R36: what a slot expiry makes of a load. -/
theorem DspLoad.Stepped.charged {x z : DspLoad} {first : Prop} (h : x.Stepped first z) :
    let y := z.charged
    y.rated = x.rated ∧ y.demand = x.demand ∧ y.tripBlock = x.tripBlock ∧ y.blocked = x.blocked ∧
      (x.Still → y.on = true ∧ y.acc = x.added - 1000 ∧ y.runCount = x.counted) ∧
      (x.on = true → ¬ x.Still → y.on = false ∧ y.acc = x.added ∧ y.runCount = 0) ∧
      (x.on = false → first → y.on = true ∧ y.acc = x.added - 1000 ∧ y.runCount = 0) ∧
      (x.on = false → ¬ first → y.on = false ∧ y.acc = x.added ∧ y.runCount = x.counted) ∧
      (let waits := x.rated ≠ 0 ∧ x.blocked = false ∧ y.on = false ∧ 0 < x.demand ∧ y.acc = 2000;
        (waits → y.starveCount = min 8 (x.starveCount + 1)) ∧ (¬ waits → y.starveCount = 0)) ∧
      (y.starved = true ↔ (x.starved = true ∧ ¬ (x.on = false ∧ y.on = true)) ∨ y.starveCount = 8) := by
  intro y
  obtain ⟨hcount, hzero⟩ := z.charged_starveCount
  have hon : y.on = z.on := by rw [show y = z.charged from rfl, z.charged_eq]
  have hrun : y.runCount = z.runCount := by rw [show y = z.charged from rfl, z.charged_eq]
  have hacc : y.acc = if z.on then x.added - 1000 else x.added := by
    rw [show y = z.charged from rfl, z.charged_eq, h.eq]
  have hfixed : y.rated = x.rated ∧ y.demand = x.demand ∧ y.tripBlock = x.tripBlock ∧ y.blocked = x.blocked := by
    rw [show y = z.charged from rfl, z.charged_eq, h.eq]
    exact ⟨rfl, rfl, rfl, rfl⟩
  obtain ⟨hrated, hdemand, htrip, hblocked⟩ := hfixed
  have hwaits := DspLoad.waits_iff (x := y)
  rw [hrated, hblocked, hdemand] at hwaits
  rw [← hwaits, hon, hrun, hacc]
  refine ⟨hrated, hdemand, htrip, hblocked, fun hs => ?_, fun h1 h2 => ?_, fun h1 h2 => ?_, fun h1 h2 => ?_,
    ⟨fun hw => ?_, hzero⟩, ?_⟩
  · simp [h.still hs]
  · simp [h.released h1 h2]
  · simp [h.chosen h1 h2]
  · simp [h.other h1 h2]
  · rw [← h.starveCount (hon ▸ (DspLoad.waits_iff.mp hw).2.2.1)]
    exact hcount hw
  · rw [show y.starved = (z.starved || y.starveCount == 8) from z.charged_starved, Bool.or_eq_true, beq_iff_eq,
      h.starved]

theorem Dsp.expire_get (d : Dsp) (l : Load) :
    d.expire.loads.get l = (d.released.switchOn.loads.get l).charged := by
  rw [Dsp.expire_eq, Six.get_map]

/-- A slot expiry changes the loads and the slot timer only. -/
theorem Dsp.expire_other (d : Dsp) : d.expire = { d with slotTimer := 500, loads := d.expire.loads } := by
  rw [Dsp.expire_eq, Dsp.switchOn_eq]
  rfl

/-- R32: the energised sum after step 2. -/
theorem Dsp.released_energisedSum (d : Dsp) {still : Load → Prop} [DecidablePred still]
    (h : ∀ l, still l ↔ (d.loads.get l).Still) : d.released.energisedSum =
    (Load.all.map fun l => if still l then (d.loads.get l).rated else 0).sum := by
  rw [Dsp.energisedSum_eq]
  congr 1
  refine List.map_congr_left fun l _ => ?_
  have hget : d.released.loads.get l = (d.loads.get l).released := Six.get_map _ _ _
  have hrated : (d.loads.get l).released.rated = (d.loads.get l).rated := by rw [DspLoad.released_eq]
  simp only [h, ← DspLoad.released_on, DspLoad.draw, hget, hrated]

/-- R33, R34: which load fits after step 2. -/
theorem Dsp.released_fits_iff {d : Dsp} {l : Load} :
    (d.released.loads.get l).candidate = true ∧ d.released.fits l = true ↔
      (d.loads.get l).rated ≠ 0 ∧ (d.loads.get l).blocked = false ∧ (d.loads.get l).on = false ∧
        1000 ≤ (d.loads.get l).added ∧ (d.loads.get l).counted = 2 ∧
        d.released.energisedSum + (d.loads.get l).rated ≤ d.limit - 3 := by
  have hget : d.released.loads.get l = (d.loads.get l).released := Six.get_map _ _ _
  have hrated : (d.loads.get l).released.rated = (d.loads.get l).rated := by rw [DspLoad.released_eq]
  rw [Dsp.fits_iff, hget, hrated, DspLoad.released_candidate]
  simp only [and_assoc]
  exact Iff.rfl

/-- Step 3 takes the first load of R33's order that fits. -/
theorem Dsp.released_firstFit_iff {d : Dsp} {l : Load} {fits : Load → Prop}
    (hfits : ∀ m, (d.released.loads.get m).candidate = true ∧ d.released.fits m = true ↔ fits m) :
    d.released.FirstFit l ↔ fits l ∧ ∀ m, m ≠ l → fits m → (d.loads.get m).added < (d.loads.get l).added ∨
      ((d.loads.get m).added = (d.loads.get l).added ∧ l.index < m.index) := by
  have hacc : ∀ m, (d.released.loads.get m).acc = (d.loads.get m).added := fun m => by
    rw [show d.released.loads.get m = (d.loads.get m).released from Six.get_map _ _ _, DspLoad.released_eq]
  constructor
  · rintro ⟨hcand, hfit, hahead⟩
    refine ⟨(hfits l).mp ⟨hcand, hfit⟩, fun m hne hm => ?_⟩
    obtain ⟨hmcand, hmfit⟩ := (hfits m).mpr hm
    simpa only [Dsp.Ahead, hacc] using hahead m hne hmcand hmfit
  · rintro ⟨hl, hahead⟩
    obtain ⟨hcand, hfit⟩ := (hfits l).mpr hl
    refine ⟨hcand, hfit, fun m hne hmcand hmfit => ?_⟩
    simpa only [Dsp.Ahead, hacc] using hahead m hne ((hfits m).mp ⟨hmcand, hmfit⟩)

/-- R36: the events of a slot expiry, in index order. -/
theorem Dsp.appendAll_starvedEvents (old new : Dsp) (q : Evq) : q.appendAll (Dsp.starvedEvents old new) =
    (Load.all.filter fun l => (new.loads.get l).starved && !(old.loads.get l).starved).foldl
      (fun q l => q.append .loadStarved l.index (word new.headroom)) q := List.foldl_map

theorem Dsp.clcDispatch_mem_reports {old new : Dsp} (h : new.starved ≠ old.starved) :
    Signal.clcDispatch new.starved new.blocked ∈ Dsp.reports old new := by
  simp only [Dsp.reports, List.mem_append, mem_sigIf, Bool.or_eq_true, bne_iff_ne]
  exact .inr ⟨.inl (Ne.symm h), trivial⟩

theorem Dsp.iluHeat_mem_reports {old new : Dsp} (h : new.heatOn ≠ old.heatOn) :
    Signal.iluHeat new.heatOn ∈ Dsp.reports old new := by
  simp only [Dsp.reports, List.mem_append, mem_sigIf, bne_iff_ne]
  exact .inl ⟨Ne.symm h, trivial⟩

@[simp] theorem State.dspSlotExpiry_dsp (s : State) : s.dspSlotExpiry.dsp = s.dsp.expire := State.dspTo_dsp _ _ _

/-- Settles O25: steps 1 and 2 load by load, the first that fits among the loads as they leave them, and steps 4 and 5 load
by load. -/
theorem slotExpiryTakesFiveSteps : Obligations.SlotExpiryTakesFiveSteps := by
  intro s hq load a r still used fits first
  have hused : s.dsp.released.energisedSum = used := s.dsp.released_energisedSum fun l => Iff.rfl
  have hfirst : ∀ l, s.dsp.released.FirstFit l ↔ first l := fun l =>
    Dsp.released_firstFit_iff fun m => by rw [Dsp.released_fits_iff, hused]; exact Iff.rfl
  have hexpiry : s.dspSlotExpiry = s.dspTo s.dsp.expire (Dsp.starvedEvents s.dsp s.dsp.expire) := rfl
  have hother := s.dsp.expire_other
  have hlimit : s.dsp.expire.limit = s.dsp.limit := by rw [hother]
  refine ⟨s.dspSlotExpiry, by rw [← State.event_of_quiet hq]; rfl, by rw [hexpiry, State.dspTo_eq], ?_⟩
  rw [hexpiry, State.dspTo_dsp, State.dspTo_evq]
  refine ⟨by rw [hother], hlimit, by rw [hother], by rw [hother], by rw [hother], by rw [hother], fun l => ?_, ?_,
    fun h => ?_, fun h => ?_⟩
  · have hload := (s.dsp.switchOn_stepped l).charged
    rw [← Dsp.expire_get] at hload
    rw [hfirst] at hload
    exact hload
  · rw [Dsp.appendAll_starvedEvents, Dsp.headroom, hlimit]
  · exact State.mem_dspTo_bus.mpr (.inr (Dsp.clcDispatch_mem_reports h))
  · exact State.mem_dspTo_bus.mpr (.inr (Dsp.iluHeat_mem_reports h))

end Sys2Proof.Machine
end

section
/-! SUPPORT. The dispatcher through an event: what each command and each delivery can do to it, and its invariant (R26 to
R46). -/

namespace Sys2Proof.Machine

/-! ### What a command does -/

/-- What a command can do: its own effect, which is the doing of one block; a follow-up step; a restart; or a reset. The
DSP's only command is SLOT_EXPIRY. -/
inductive Instr.Does (i : Instr) (s : State) : State → Prop where
  | own (k : Block) (f : State → State) (block : ∀ s, BlockStep k s (f s))
      (dsp : k = .dsp → i = .slotExpiry ∧ f = State.dspSlotExpiry) : Instr.Does i s (s.event f)
  | followUp (k : FollowUp) : Instr.Does i s (s.followUp k)
  | restart (levels : Straps) : Instr.Does i s (s.restart levels)
  | reset (levels : Straps) : Instr.Does i s ((s.resetBy .powerOn levels).settle settleFuel)

/-- The own effect of a command of another block than the DSP. -/
theorem Instr.Does.other {i : Instr} {s : State} {k : Block} {f : State → State} (hk : k ≠ .dsp)
    (block : ∀ s, BlockStep k s (f s)) : Instr.Does i s (s.event f) := .own k f block fun h => absurd h hk

theorem State.slcFrame_block (bytes : List Byte) (others : Level) (s : State) :
    BlockStep .slc s (s.slcFrame bytes others) := by
  unfold State.slcFrame; split
  · exact State.receive_block _ _ s
  · exact BlockStep.refl

theorem exec_does {i : Instr} {s t : State} (h : exec i s = .next t) : Instr.Does i s t := by
  have panel : ∀ source code payload, Instr.Does i s (s.panel source code payload) := fun _ _ _ =>
    .other (k := .slc) (by decide) fun _ => State.receive_block _ _ _
  cases i <;> cases h
  case powerOnReset => exact .reset _
  case measurementExpiry => exact .other (by decide) (State.clcMeasure_block _ _ _)
  case controlTimerExpiry => exact .other (by decide) State.clcControlExpiry_block
  case runOnTimerExpiry => exact .other (by decide) State.clcRunOnExpiry_block
  case openDriveExpiry => exact .other (by decide) State.clcOpenExpiry_block
  case closeTravelTimeout => exact .other (by decide) State.clcCloseExpiry_block
  case slotExpiry => exact .own _ _ State.dspSlotExpiry_block fun _ => ⟨rfl, rfl⟩
  case listenWindowExpiry => exact .other (by decide) State.lsuListenExpiry_block
  case claimPeriodExpiry => exact .other (by decide) State.lsuPeriodExpiry_block
  case minimumIntervalExpiry => exact .other (by decide) State.lsuIntervalExpiry_block
  case raiseHoldOffExpiry => exact .other (by decide) State.lsuHoldOffExpiry_block
  case claimReceived => exact .other (by decide) (State.receive_block _ _)
  case peerSilent => exact .other (by decide) (State.lsuPeerSilent_block _)
  case peerLost => exact .other (by decide) (State.lsuPeerLost_block _)
  case fillTimeout => exact .other (by decide) State.sgcFillTimeout_block
  case drainTimerExpiry => exact .other (by decide) State.sgcDrainExpiry_block
  case soakComplete => exact .other (by decide) State.sduSoakComplete_block
  case startReadComplete => exact .followUp _
  case stepReadComplete => exact .followUp _
  case stepTimeEnd => exact .other (by decide) State.rsqStepTimeEnd_block
  case pauseTimerExpiry => exact .other (by decide) State.rsqPauseExpiry_block
  case runTimeCap => exact .other (by decide) State.rsqRunCap_block
  case wakeTimerExpiry => exact .other (by decide) State.stcScan_block
  case storeOperationComplete => exact .other (by decide) (State.storeOperationComplete_block _)
  case storeRequestServed => exact .followUp _
  case storeAbandoned => exact .other (by decide) State.storeAbandon_block
  case sampleExpiry => exact .other (by decide) (State.iluSample_block _)
  case persistenceExpiry => exact .other (by decide) (State.iluPersistence_block _)
  case receptionError => exact .other (by decide) (State.slcReceptionError_block _)
  case frameDiscarded => exact .other (by decide) (State.slcFrame_block _ _)
  case ownSourceFrameReceived => exact .other (k := .slc) (by decide) fun _ => State.receive_block _ _ _
  case transmitStart => exact .other (by decide) State.slcStart_block
  case arbitrationLoss => exact .other (by decide) (State.slcLoss_block _)
  case conflictWhileSending => exact .other (by decide) (State.slcMismatch_block _)
  case acknowledgeCell => exact .other (by decide) (State.slcAcknowledge_block _)
  case lineFault => exact .other (by decide) State.slcLineFault_block
  case lineRestored => exact .other (by decide) State.slcLineRestored_block
  case firstIdleGap => exact .other (by decide) State.slcFirstGap_block
  case statusTimerExpiry => exact .other (by decide) State.fillStatus_block
  case statusIntervalExpiry => exact .other (by decide) State.statusInterval_block
  case configuredReached => exact .followUp _
  case deferredConfigCommand => exact .followUp _
  case fetchEventsNextFrame => exact .followUp _
  case restartTakesEffect => exact .restart _
  case answerHandover => exact .followUp _
  all_goals exact panel _ _ _

/-! ### The dispatcher aside from its own doings -/

theorem State.resetBy_dsp (cause : EventCode) (levels : Straps) (s : State) :
    (s.resetBy cause levels).dsp = Dsp.afterReset := by
  unfold State.resetBy; dsimp only; split
  · exact (State.enterSilenced_block _).dsp (by decide)
  · rfl

/-- A follow-up step leaves the dispatcher, but for a restart. -/
theorem perform_dsp (k : FollowUp) (s : State) :
    (perform k s).dsp = s.dsp ∨ (perform k s).dsp = Dsp.afterReset := by
  cases k
  case restartTakesEffect => exact .inr (State.resetBy_dsp _ _ s)
  case startReadComplete =>
    unfold perform; dsimp only; split
    · exact .inl ((State.rsqStartRead_block _ _).dsp (by decide))
    · exact .inl rfl
  case stepReadComplete =>
    unfold perform; dsimp only; split
    · exact .inl ((State.rsqStepRead_block _ _).dsp (by decide))
    · exact .inl rfl
  case storeRequestServed => exact .inl (s.serveNext_block.dsp (by decide))
  case deferredConfigCommand => exact .inl (State.takeDeferred_command s).clc_dsp.2
  case configuredReached => exact .inl (s.configure_block.dsp (by decide))
  case answerHandover => exact .inl (s.answerHandover_block.dsp (by decide))
  case fetchEventsNextFrame => exact .inl (s.nextFrame_block.dsp (by decide))

/-- A property of the dispatcher that holds after reset and that every delivery to it keeps. -/
structure KeptByDsp (Q : Dsp → Prop) : Prop where
  reset : Q Dsp.afterReset
  delivered : ∀ (sig : Signal) (s : State), sig.block = .dsp → Q s.dsp → Q (handle sig s).dsp

variable {Q : Dsp → Prop}

theorem KeptByDsp.deliveries (K : KeptByDsp Q) : KeptByDeliveries fun s => Q s.dsp :=
  .of_handle (fun _ _ h => h) (fun _ _ h => h) (fun _ _ hcommand h => by rwa [hcommand.clc_dsp.2]) fun sig s hsig h => by
    by_cases hblock : sig.block = .dsp
    · exact K.delivered sig s hblock h
    · rwa [(handle_block sig hsig s).dsp hblock]

theorem KeptByDsp.followUp (K : KeptByDsp Q) (k : FollowUp) {s : State} (h : Q s.dsp) : Q (s.followUp k).dsp := by
  unfold State.followUp; split
  · refine K.deliveries.settle _ ?_
    obtain heq | heq := perform_dsp k s <;> rw [heq]
    · exact h
    · exact K.reset
  · exact h

theorem KeptByDsp.complete (K : KeptByDsp Q) (n : Nat) {s : State} (h : Q s.dsp) : Q (s.complete n).dsp := by
  induction n generalizing s with
  | zero => exact h
  | succ n ih =>
    rw [State.complete]
    split
    · exact h
    · exact ih (K.followUp _ h)

/-- What deliveries to the DSP keep, every command keeps; a slot expiry has to keep it besides. -/
theorem KeptByDsp.exec (K : KeptByDsp Q) {i : Instr} {s t : State} (ht : Machine.exec i s = .next t)
    (hslot : i = .slotExpiry → ∀ s : State, Q s.dsp → Q s.dsp.expire) (h : Q s.dsp) : Q t.dsp := by
  cases exec_does ht with
  | own k f block dsp =>
    refine K.deliveries.settle _ ?_
    have hdone := K.complete completeFuel h
    by_cases hk : k = .dsp
    · obtain ⟨hi, rfl⟩ := dsp hk
      rw [State.dspSlotExpiry_dsp]
      exact hslot hi _ hdone
    · rwa [(block _).dsp hk]
  | followUp k => exact K.followUp k h
  | restart levels =>
    unfold State.restart; split
    · exact K.followUp _ h
    · exact h
  | reset levels =>
    refine K.deliveries.settle _ ?_
    rw [State.resetBy_dsp]
    exact K.reset

end Sys2Proof.Machine
end

section
/-! SUPPORT. The deliveries to the dispatcher, and its invariant through every step (R26 to R46). -/

namespace Sys2Proof.Machine

/-! ### Deliveries to the dispatcher -/

/-- R27: a write of the stored demand has no effect. -/
theorem DspLoad.writeDemand_same (x : DspLoad) : x.writeDemand x.demand = x := if_pos rfl

/-- R27, R37: a write of a demand changes the demand, and what is counted and marked of the starving. -/
theorem DspLoad.writeDemand_eq (x : DspLoad) (n : Nat) :
    x.writeDemand n = { x with
      demand := (x.writeDemand n).demand, starved := (x.writeDemand n).starved,
      starveCount := (x.writeDemand n).starveCount } ∧ (x.writeDemand n).starveCount ≤ x.starveCount := by
  unfold DspLoad.writeDemand
  split
  · exact ⟨rfl, le_rfl⟩
  · split
    · exact ⟨rfl, Nat.zero_le _⟩
    · exact ⟨rfl, le_rfl⟩

/-- What a delivery does to the dispatcher: new demands, new blocking inputs, trips or rated powers, or a new limit. The
rated powers are taken once, at CONFIGURED (R26). -/
inductive Dsp.Takes (d : Dsp) : Dsp → Prop where
  | nothing : Dsp.Takes d d
  | demands (d' : Dsp) (other : d' = { d with loads := d'.loads })
      (loads : ∀ l, ∃ n, d'.loads.get l = (d.loads.get l).writeDemand n) : Dsp.Takes d d'
  | blocking (d' : Dsp) (limit : d'.limit = d.limit)
      (loads : ∀ l, ∃ rated places, d'.loads.get l = { d.loads.get l with rated := rated, tripBlock := places } ∧
        (rated = (d.loads.get l).rated ∨ d.configured = false)) : Dsp.Takes d d'.reblock
  | limit (n : Nat) : Dsp.Takes d (d.takeLimit n)

theorem Dsp.Takes.of_inputs {d d' : Dsp} (limit : d'.limit = d.limit) (loads : d'.loads = d.loads) :
    d.Takes d'.reblock := .blocking d' limit fun l => ⟨_, _, by rw [loads], .inl rfl⟩

theorem Dsp.takeTrip_get (d : Dsp) (p : Place) (a : Word) (on : Bool) (l : Load) :
    (d.takeTrip p a on).loads.get l = { d.loads.get l with
      tripBlock := if on then (if Actions.load a l then (d.loads.get l).tripBlock.set p true else (d.loads.get l).tripBlock)
        else (d.loads.get l).tripBlock.set p false } := by
  rw [Dsp.takeTrip, Six.get_of]
  split
  · split <;> rfl
  · rfl

theorem handle_takes (sig : Signal) (s : State) (h : sig.block = .dsp) : s.dsp.Takes (handle sig s).dsp := by
  cases sig with
  | dspDemands w =>
    rw [handle, State.dspDemands, State.dspTo_dsp]
    refine .demands _ rfl fun l => ?_
    cases l
    case boiler => exact ⟨_, (DspLoad.writeDemand_same _).symm⟩
    all_goals exact ⟨_, rfl⟩
  | dspBoiler w =>
    rw [handle, State.dspBoiler, State.dspTo_dsp]
    refine .demands _ rfl fun l => ?_
    cases l
    case boiler => exact ⟨_, rfl⟩
    all_goals exact ⟨_, (DspLoad.writeDemand_same _).symm⟩
  | dspLimit n =>
    rw [handle, State.dspLimit_dsp]
    exact .limit n
  | dspFan n =>
    rw [handle, State.dspFan, State.dspTo_dsp]
    exact .of_inputs rfl rfl
  | dspLow covered _ =>
    rw [handle, State.dspLow, State.dspTo_dsp]
    exact .of_inputs rfl rfl
  | dspTrip p a on =>
    rw [handle, State.dspTrip, State.dspTo_dsp]
    exact .blocking _ rfl fun l => ⟨_, _, Dsp.takeTrip_get _ _ _ _ l, .inl rfl⟩
  | dspConfigured rated =>
    rw [handle, State.dspConfigured]
    split
    · exact .nothing
    · next hconf =>
      rw [State.dspTo_dsp]
      exact .blocking _ rfl fun l => ⟨_, _, Six.get_of _ l, .inr (Bool.eq_false_iff.mpr hconf)⟩
  | _ => cases h

/-! ### No delivery switches a load on -/

theorem DspLoad.reblock_cases (x : DspLoad) (b : Bool) :
    x.reblock b = { x with blocked := b } ∨ (b = true ∧ x.reblock b = { x.switchOff with blocked := true }) := by
  unfold DspLoad.reblock
  split
  · next h => exact .inr ⟨(Bool.and_eq_true_iff.mp h).1, rfl⟩
  · exact .inl rfl

theorem Dsp.reblock_get (d : Dsp) (l : Load) :
    d.reblock.loads.get l = (d.loads.get l).reblock (d.isBlocked l) := Six.get_of _ l

theorem Dsp.reblock_tripBlock (d : Dsp) (l : Load) :
    (d.reblock.loads.get l).tripBlock = (d.loads.get l).tripBlock := by
  rw [Dsp.reblock_get]
  obtain heq | ⟨-, heq⟩ := (d.loads.get l).reblock_cases (d.isBlocked l) <;> rw [heq]
  rfl

theorem DspLoad.reblock_off {x : DspLoad} (h : x.on = false) (b : Bool) : (x.reblock b).on = false := by
  obtain heq | ⟨-, heq⟩ := x.reblock_cases b <;> rw [heq]
  · exact h
  · rfl

theorem Dsp.takeLimit_get (d : Dsp) (n : Nat) (l : Load) :
    (d.takeLimit n).loads.get l = d.loads.get l ∨ (d.takeLimit n).loads.get l = (d.loads.get l).switchOff := by
  obtain ⟨gone, -, heq⟩ := d.takeLimit_eq n
  rw [heq, Dsp.switchOffAll_get]
  split
  · exact .inr rfl
  · exact .inl rfl

theorem Dsp.Takes.off {d d' : Dsp} (h : d.Takes d') {l : Load} (hoff : (d.loads.get l).on = false) :
    (d'.loads.get l).on = false := by
  cases h with
  | nothing => exact hoff
  | demands _ _ loads =>
    obtain ⟨n, hl⟩ := loads l
    rwa [hl, (DspLoad.writeDemand_eq _ n).1]
  | blocking d' _ loads =>
    obtain ⟨rated, places, hl, -⟩ := loads l
    rw [Dsp.reblock_get, hl]
    refine DspLoad.reblock_off ?_ _
    exact hoff
  | limit n =>
    obtain hl | hl := d.takeLimit_get n l <;> rw [hl]
    · exact hoff
    · rfl

/-- R34: a load that is off stays off, but for a slot expiry. -/
theorem keptByDsp_off (l : Load) : KeptByDsp fun d => (d.loads.get l).on = false where
  reset := by cases l <;> rfl
  delivered sig s h hoff := (handle_takes sig s h).off hoff

/-- R34: what a slot expiry switches on is the first load that fits. -/
theorem Dsp.firstFit_of_expire_on {d : Dsp} {l : Load} (hoff : (d.loads.get l).on = false)
    (hon : (d.expire.loads.get l).on = true) : d.released.FirstFit l := by
  by_contra hnot
  obtain ⟨-, -, -, -, -, -, -, hother, -⟩ := (d.switchOn_stepped l).charged
  rw [← Dsp.expire_get] at hother
  rw [(hother hoff hnot).1] at hon
  cases hon

/-- Settles O15: deliveries switch no load on, and a slot expiry the first that fits. -/
theorem loadsSwitchOnOnlyAtSlotExpiry : Obligations.LoadsSwitchOnOnlyAtSlotExpiry := by
  intro i s t ht
  refine ⟨fun hi l hoff => (keptByDsp_off l).exec ht (fun h => absurd h hi) hoff, fun hq hi l l' hoff hon hoff' hon' => ?_⟩
  subst hi
  have hsettled : t = s.dspSlotExpiry.settle settleFuel := by
    rw [← State.event_of_quiet hq]
    cases ht
    rfl
  have hexpired : ∀ m, (t.dsp.loads.get m).on = true → (s.dsp.expire.loads.get m).on = true := fun m hm => by
    by_contra hnot
    have := (keptByDsp_off m).deliveries.settle settleFuel (s := s.dspSlotExpiry) (by simpa using hnot)
    rw [← hsettled, hm] at this
    cases this
  exact (Dsp.firstFit_of_expire_on hoff (hexpired l hon)).unique (Dsp.firstFit_of_expire_on hoff' (hexpired l' hon'))

/-! ### The invariant, R28 to R42 -/

theorem DspLoad.inRange_iff {x : DspLoad} : x.inRange = true ↔ (x.blocked = true → x.on = false) ∧
    -1000 ≤ x.acc ∧ x.acc ≤ 2000 ∧ (x.on = true → x.runCount = 1 ∨ 0 ≤ x.acc) ∧ x.runCount ≤ 2 ∧ x.starveCount ≤ 8 := by
  unfold DspLoad.inRange
  cases x.blocked <;> cases x.on <;> simp [and_assoc]

/-- What holds at the dispatcher at all times, part by part. -/
structure Dsp.Sound (d : Dsp) : Prop where
  range : ∀ l, (d.loads.get l).inRange = true
  headroom : d.energisedSum ≤ d.headroom
  blocking : ∀ l, (d.loads.get l).blocked = d.isBlocked l

theorem Dsp.sound_iff {d : Dsp} : d.sound = true ↔ d.Sound := by
  have hrange : d.inRange = true ↔ ∀ l, (d.loads.get l).inRange = true := by
    simp only [Dsp.inRange, Bool.and_eq_true]
    constructor
    · rintro ⟨⟨⟨⟨⟨htop, hbottom⟩, hringA⟩, hringB⟩, hgrill⟩, hboiler⟩ l
      cases l <;> assumption
    · exact fun h => ⟨⟨⟨⟨⟨h .top, h .bottom⟩, h .ringA⟩, h .ringB⟩, h .grill⟩, h .boiler⟩
  have hblocking : d.blockingFollows = true ↔ ∀ l, (d.loads.get l).blocked = d.isBlocked l := by
    rw [Dsp.blockingFollows, List.all_eq_true, Load.forall_mem_all]
    simp only [beq_iff_eq]
  rw [Dsp.sound, Bool.and_eq_true, Bool.and_eq_true, hrange, hblocking, Dsp.withinHeadroom, decide_eq_true_iff]
  exact ⟨fun ⟨⟨hr, hh⟩, hb⟩ => ⟨hr, hh, hb⟩, fun h => ⟨⟨h.range, h.headroom⟩, h.blocking⟩⟩

/-- R40 to R42: a blocked load is off. -/
theorem Dsp.Sound.off {d : Dsp} (h : d.Sound) {l : Load} (hb : d.isBlocked l = true) : (d.loads.get l).on = false :=
  (DspLoad.inRange_iff.mp (h.range l)).1 ((h.blocking l).trans hb)

/-- Whether a load is blocked depends on its trip block set and on the blocking inputs (R40, R41). -/
theorem Dsp.isBlocked_congr {d d' : Dsp} {l : Load} (hloads : (d'.loads.get l).tripBlock = (d.loads.get l).tripBlock)
    (hother : d' = { d with slotTimer := d'.slotTimer, limit := d'.limit, loads := d'.loads }) :
    d'.isBlocked l = d.isBlocked l := by
  have hcond : d'.conditionBlocked l = d.conditionBlocked l := by
    rw [hother]
    cases l <;> rfl
  have hconf : d'.configured = d.configured := by rw [hother]
  rw [Dsp.isBlocked, Dsp.isBlocked, hcond, hconf, hloads]

theorem DspLoad.writeDemand_inRange {x : DspLoad} (h : x.inRange = true) (n : Nat) : (x.writeDemand n).inRange = true := by
  obtain ⟨heq, hcount⟩ := x.writeDemand_eq n
  rw [DspLoad.inRange_iff] at h ⊢
  rw [heq]
  exact ⟨h.1, h.2.1, h.2.2.1, h.2.2.2.1, h.2.2.2.2.1, hcount.trans h.2.2.2.2.2⟩

theorem DspLoad.switchOff_inRange {x : DspLoad} (h : x.inRange = true) : x.switchOff.inRange = true := by
  rw [DspLoad.inRange_iff] at h ⊢
  obtain ⟨-, hlow, hhigh, -, -, hcount⟩ := h
  exact ⟨fun _ => rfl, hlow, hhigh, fun hon => absurd hon Bool.false_ne_true, Nat.zero_le _, hcount⟩

/-- R42: after the blocked flag is set anew the load is off where it is blocked. -/
theorem DspLoad.reblock_inRange {x : DspLoad} (h : x.inRange = true) (b : Bool) : (x.reblock b).inRange = true := by
  rw [DspLoad.inRange_iff] at h
  obtain ⟨-, hlow, hhigh, hacc, hrun, hcount⟩ := h
  rw [DspLoad.inRange_iff, DspLoad.reblock]
  split
  · exact ⟨fun _ => rfl, hlow, hhigh, fun hon => absurd hon Bool.false_ne_true, Nat.zero_le _, hcount⟩
  · next hnot =>
    refine ⟨fun hb => ?_, hlow, hhigh, hacc, hrun, hcount⟩
    simpa [show b = true from hb] using hnot

theorem DspLoad.reblock_blocked (x : DspLoad) (b : Bool) : (x.reblock b).blocked = b := by
  obtain heq | ⟨hb, heq⟩ := x.reblock_cases b <;> rw [heq]
  exact hb.symm

theorem DspLoad.reblock_draw_le (x : DspLoad) (b : Bool) : (x.reblock b).draw ≤ x.draw := by
  obtain heq | ⟨-, heq⟩ := x.reblock_cases b <;> rw [heq]
  · exact le_rfl
  · exact Nat.zero_le _

/-- R40 to R42: the blocked flags follow their conditions. -/
theorem Dsp.reblock_sound {d : Dsp} (hrange : ∀ l, (d.loads.get l).inRange = true)
    (hsum : d.energisedSum ≤ d.headroom) : d.reblock.Sound where
  range l := by rw [Dsp.reblock_get]; exact DspLoad.reblock_inRange (hrange l) _
  headroom := by
    refine le_trans (Dsp.energisedSum_mono fun l => ?_) hsum
    rw [Dsp.reblock_get]
    exact DspLoad.reblock_draw_le _ _
  blocking l := by
    rw [Dsp.isBlocked_congr (d.reblock_tripBlock l) rfl, Dsp.reblock_get, DspLoad.reblock_blocked]

/-- Every delivery to the dispatcher keeps its invariant. -/
theorem Dsp.Takes.sound {d d' : Dsp} (h : d.Takes d') (hs : d.Sound) : d'.Sound := by
  cases h with
  | nothing => exact hs
  | demands _ other loads =>
    have hload : ∀ l, (d'.loads.get l).inRange = true ∧ (d'.loads.get l).draw = (d.loads.get l).draw ∧
        (d'.loads.get l).tripBlock = (d.loads.get l).tripBlock ∧ (d'.loads.get l).blocked = (d.loads.get l).blocked :=
      fun l => by
        obtain ⟨n, hl⟩ := loads l
        rw [hl]
        refine ⟨DspLoad.writeDemand_inRange (hs.range l) n, ?_⟩
        rw [(DspLoad.writeDemand_eq _ n).1]
        exact ⟨rfl, rfl, rfl⟩
    refine ⟨fun l => (hload l).1, ?_, fun l => ?_⟩
    · rw [Dsp.energisedSum_congr fun l => (hload l).2.1, Dsp.headroom, other]
      exact hs.headroom
    · rw [(hload l).2.2.2, hs.blocking l, Dsp.isBlocked_congr (hload l).2.2.1 (by rw [other])]
  | blocking d' limit loads =>
    have hload : ∀ l, (d'.loads.get l).inRange = true ∧ (d'.loads.get l).draw = (d.loads.get l).draw := fun l => by
      obtain ⟨rated, places, hl, hrated⟩ := loads l
      rw [hl]
      refine ⟨hs.range l, ?_⟩
      obtain rfl | hconf := hrated
      · rfl
      · have hoff : (d.loads.get l).on = false := hs.off (by simp [Dsp.isBlocked, hconf])
        simp [DspLoad.draw, hoff]
    refine Dsp.reblock_sound (fun l => (hload l).1) ?_
    rw [Dsp.energisedSum_congr fun l => (hload l).2, Dsp.headroom, limit]
    exact hs.headroom
  | limit n =>
    obtain ⟨gone, hsheds, heq⟩ := d.takeLimit_eq n
    have hload := d.takeLimit_get n
    refine ⟨fun l => ?_, ?_, fun l => ?_⟩
    · obtain hl | hl := hload l <;> rw [hl]
      · exact hs.range l
      · exact DspLoad.switchOff_inRange (hs.range l)
    · rw [heq, Dsp.switchOffAll_headroom]
      exact hsheds.fits
    · have hsame : ((d.takeLimit n).loads.get l).tripBlock = (d.loads.get l).tripBlock ∧
          ((d.takeLimit n).loads.get l).blocked = (d.loads.get l).blocked := by
        obtain hl | hl := hload l <;> rw [hl] <;> exact ⟨rfl, rfl⟩
      rw [hsame.2, hs.blocking l, Dsp.isBlocked_congr hsame.1 (by rw [heq, Dsp.switchOffAll_eq])]

/-! ### A slot expiry keeps the invariant -/

/-- R31: a load's accumulator grows at step 1, and not past 2000. -/
theorem DspLoad.added_bounds {x : DspLoad} (h : x.acc ≤ 2000) : x.acc ≤ x.added ∧ x.added ≤ 2000 := by
  unfold DspLoad.added
  split <;> omega

/-- R30, R31, R35: the accumulator and the counts stay in their ranges through a slot expiry. -/
theorem DspLoad.Stepped.charged_inRange {x z : DspLoad} {first : Prop} (h : x.Stepped first z)
    (hfirst : first → x.blocked = false ∧ 1000 ≤ x.added) (hx : x.inRange = true) : z.charged.inRange = true := by
  obtain ⟨-, -, -, hblocked, hstill, hreleased, hchosen, hother, ⟨hwaits, hrest⟩, -⟩ := h.charged
  obtain ⟨hoff, hlow, hhigh, hacc, hrun, hcount⟩ := DspLoad.inRange_iff.mp hx
  obtain ⟨hgrown, htop⟩ := DspLoad.added_bounds hhigh
  have hcounted : x.counted ≤ 2 := by unfold DspLoad.counted; omega
  have hstarve : z.charged.starveCount ≤ 8 := by
    by_cases hw : x.rated ≠ 0 ∧ x.blocked = false ∧ z.charged.on = false ∧ 0 < x.demand ∧ z.charged.acc = 2000
    · have := hwaits hw; omega
    · have := hrest hw; omega
  rw [DspLoad.inRange_iff, hblocked]
  by_cases hon : x.on = true
  · have hfree : x.blocked = false := Bool.eq_false_iff.mpr fun hb => by simp [hoff hb] at hon
    by_cases hs : x.Still
    · obtain ⟨hyon, hyacc, hyrun⟩ := hstill hs
      have hfull : x.counted = 1 ∨ 1000 ≤ x.added := hs.2
      have hminimum : x.counted = 1 → 0 ≤ x.added := fun h => by
        have := hacc hon
        unfold DspLoad.counted at h
        omega
      rw [hyacc, hyrun]
      exact ⟨fun hb => absurd hb (by simp [hfree]), by omega, by omega, fun _ => by omega, by omega, hstarve⟩
    · obtain ⟨hyon, hyacc, hyrun⟩ := hreleased hon hs
      rw [hyon, hyacc, hyrun]
      exact ⟨fun _ => rfl, by omega, htop, fun h => absurd h Bool.false_ne_true, by omega, hstarve⟩
  · rw [Bool.not_eq_true] at hon
    by_cases hf : first
    · obtain ⟨hyon, hyacc, hyrun⟩ := hchosen hon hf
      obtain ⟨hfree, hfull⟩ := hfirst hf
      rw [hyacc, hyrun]
      exact ⟨fun hb => absurd hb (by simp [hfree]), by omega, by omega, fun _ => by omega, by omega, hstarve⟩
    · obtain ⟨hyon, hyacc, hyrun⟩ := hother hon hf
      rw [hyon, hyacc, hyrun]
      exact ⟨fun _ => rfl, by omega, htop, fun h => absurd h Bool.false_ne_true, hcounted, hstarve⟩

/-- R32: step 2 only switches off. -/
theorem Dsp.released_energisedSum_le (d : Dsp) : d.released.energisedSum ≤ d.energisedSum := by
  refine Dsp.energisedSum_mono fun l => ?_
  rw [show d.released.loads.get l = (d.loads.get l).released from Six.get_map _ _ _]
  by_cases hkept : (d.loads.get l).on = true → (d.loads.get l).Still
  · rw [DspLoad.released_of_kept hkept]
    exact le_rfl
  · obtain ⟨hon, hnot⟩ := Classical.not_imp.mp hkept
    rw [DspLoad.released_of_not_still hon hnot]
    exact Nat.zero_le _

/-- R34: the load switched on at step 3 fits. -/
theorem Dsp.switchOn_energisedSum_le {d : Dsp} (h : d.energisedSum ≤ d.headroom) :
    d.switchOn.energisedSum ≤ d.headroom := by
  obtain ⟨l, hfirst, heq⟩ | ⟨-, heq⟩ := d.switchOn_cases <;> rw [heq]
  · obtain ⟨hoff, -⟩ := DspLoad.candidate_iff.mp hfirst.candidate
    have hfits := Dsp.fits_iff.mp hfirst.fits
    have hsum := d.energisedSum_setLoad l (d.loads.get l).switchOn
    have hdraw : (d.loads.get l).switchOn.draw = (d.loads.get l).rated := rfl
    have hnone : (d.loads.get l).draw = 0 := by simp [DspLoad.draw, hoff]
    omega
  · exact h

theorem Dsp.expire_energisedSum (d : Dsp) : d.expire.energisedSum = d.released.switchOn.energisedSum := by
  refine Dsp.energisedSum_congr fun l => ?_
  rw [Dsp.expire_get, DspLoad.charged_eq]
  rfl

/-- A slot expiry keeps the dispatcher's invariant. -/
theorem Dsp.Sound.expire {d : Dsp} (h : d.Sound) : d.expire.Sound where
  range l := by
    rw [Dsp.expire_get]
    refine (d.switchOn_stepped l).charged_inRange (fun hfirst => ?_) (h.range l)
    obtain ⟨-, hfree, -, hfull, -⟩ := Dsp.released_fits_iff.mp ⟨hfirst.candidate, hfirst.fits⟩
    exact ⟨hfree, hfull⟩
  headroom := by
    have hroom : d.expire.headroom = d.released.headroom := by rw [Dsp.expire_other]; rfl
    rw [Dsp.expire_energisedSum, hroom]
    exact Dsp.switchOn_energisedSum_le (d.released_energisedSum_le.trans h.headroom)
  blocking l := by
    obtain ⟨-, -, hplaces, hblocked, -⟩ := (d.switchOn_stepped l).charged
    rw [← Dsp.expire_get] at hplaces hblocked
    rw [hblocked, h.blocking l, Dsp.isBlocked_congr hplaces (by rw [Dsp.expire_other])]

theorem keptByDsp_sound : KeptByDsp Dsp.Sound where
  reset := Dsp.sound_iff.mp (by decide)
  delivered sig s h hs := (handle_takes sig s h).sound hs

/-- Settles O7: deliveries, slot expiries, the reset and the passage of time keep the dispatcher's invariant, and nothing
else changes the dispatcher. -/
theorem dispatcherStaysSound : Obligations.DispatcherStaysSound := by
  intro s t hs ht
  rw [Dsp.sound_iff] at hs ⊢
  rw [step] at ht
  split at ht
  · cases ht
    obtain ⟨hrange, hheadroom, hblocking⟩ := keptByDsp_sound.complete completeFuel hs
    exact ⟨hrange, hheadroom, hblocking⟩
  · exact keptByDsp_sound.exec ht (fun _ _ h => h.expire) hs

/-- Settles O14: the dispatcher's invariant and the derived values by what is known of every reset; the rest is read off
the tables of the reset values. -/
theorem resetStateMeetsInvariants : Obligations.ResetStateMeetsInvariants := by
  refine ⟨?mem, ?evq, ?dsp, ?limit, ?claims, ?peers, ?fresh, ?trips, ?terms, ?index, ?line⟩
  case dsp => exact Dsp.sound_iff.mpr keptByDsp_sound.reset
  case fresh => exact State.fresh_iff.mpr (State.afterReset_fresh _ _ _ _ _)
  all_goals decide

end Sys2Proof.Machine
end

section
/-! SUPPORT. What each block delivers (Table 0-2): the deliveries that an operation of a block adds to the bus are that
block's. -/

namespace Sys2Proof.Machine

/-! ### The deliveries of a block -/

/-- Table 0-2: the block that makes a delivery; none for what more than one block delivers. -/
def Signal.sender : Signal → Option Block
  | .dspDemands _ | .dspFan _ | .clcUpdate | .iluClimate _ _ _ | .iluFan _ | .sgcBoiler _ | .sduBoiler _ | .rsqPreheat _
  | .rsqCore _ | .rsqRunOnEnd | .lsuElementWant _ => some .clc
  | .clcDispatch _ _ | .iluHeat _ => some .dsp
  | .dspLimit _ | .slcClaim _ | .slcCheckError => some .lsu
  | .lsuClaim _ _ _ _ | .lsuSent _ | .lsuAbandoned | .lsuLineOk | .lsuLineFault | .lsuSilenced | .cmhCommand _
  | .cmhSlotEmpty => some .slc
  | .dspBoiler _ | .clcGenerator _ | .iluGenerator _ | .sgcEntry | .sduRefill | .sduFillEnded | .sduDrainEnded | .sduWait _
  | .sduGenerator _ | .rsqTank _ | .lsuBoilerWant _ => some .sgc
  | .iluDescale _ | .sgcProgram _ | .rsqLocks _ _ | .rsqDescale _ => some .sdu
  | .clcRun _ | .clcStep _ | .clcAdjust _ _ _ | .iluRun _ | .sgcCooking _ | .sgcGrant _ | .sgcDrainOrder | .sduRun _
  | .rsqResumed | .rsqBegin _ | .rsqBegun | .rsqEntry | .cmhRunState => some .rsq
  | .sduScan _ _ => some .stc
  | .dspLow _ _ | .dspTrip _ _ _ | .clcTrip _ _ _ | .clcProbe _ _ | .clcVent _ _ | .sgcTank _ _ | .sgcLow _ _ | .sgcHigh _ _
  | .sgcTrip _ _ _ | .sduTank _ _ | .rsqProbe _ _ | .rsqTrip _ _ _ => some .ilu
  | .dspConfigured _ | .clcConfigured _ | .iluConfigured | .sgcConfigured _ | .sduConfigured _ | .rsqConfigured _
  | .lsuConfigured | .slcAnswer _ | .slcStatus _ => some .cmh
  | .lsuFloorClass _ _ | .stcRequest _ | .cmhAnswer _ _ => none

/-- The block makes the delivery. -/
def Block.sends (k : Block) (sig : Signal) : Bool := sig.sender == some k || sig.sender == none

/-- The block makes all of the deliveries. -/
abbrev Block.Sends (k : Block) (sigs : List Signal) : Prop := sigs.all k.sends = true

theorem Block.Sends.append {k : Block} {sigs sigs' : List Signal} (h : k.Sends sigs) (h' : k.Sends sigs') :
    k.Sends (sigs ++ sigs') := by
  rw [Block.Sends, List.all_append, h, h']
  rfl

theorem Block.Sends.ite {k : Block} {sigs sigs' : List Signal} {c : Prop} [Decidable c] (h : k.Sends sigs)
    (h' : k.Sends sigs') : k.Sends (if c then sigs else sigs') := by
  split <;> assumption

theorem Block.Sends.sigIf {k : Block} {sig : Signal} {c : Bool} (h : k.sends sig = true := by rfl) :
    k.Sends (Machine.sigIf c sig) :=
  .ite (by rw [Block.Sends, List.all_cons, h]; rfl) rfl

/-! ### Named lists of deliveries -/

theorem Dsp.reports_sends (old new : Dsp) : Block.dsp.Sends (Dsp.reports old new) := .append .sigIf .sigIf

theorem Clc.reports_sends (old new : Clc) : Block.clc.Sends (Clc.reports old new) := .append (.ite rfl rfl) .sigIf

theorem Clc.demandSignals_sends (old new : Clc) : Block.clc.Sends (Clc.demandSignals old new) :=
  .append (sigs := [_]) rfl .sigIf

theorem Clc.measureSignals_sends (old new : Clc) : Block.clc.Sends (Clc.measureSignals old new) :=
  .append (.append .sigIf (.ite rfl rfl)) .sigIf

theorem State.claimChange_sends (l : Lsu) (s : State) : Block.lsu.Sends (s.claimChange l) := by
  unfold State.claimChange
  split
  · exact .sigIf
  · exact .sigIf
  · exact .sigIf
  · rfl

theorem Sgc.demandSignals_sends (old new : Sgc) : Block.sgc.Sends (Sgc.demandSignals old new) := .append .sigIf .sigIf

theorem waitSignal_sends (source : RequestSource) (entered : Bool) : Block.sgc.Sends (waitSignal source entered) := by
  cases source <;> rfl

theorem Sgc.stateSignals_sends (old new : Sgc) : Block.sgc.Sends (Sgc.stateSignals old new) :=
  .ite rfl (.append (.append (.append (.append (.append rfl (.ite (waitSignal_sends _ _) rfl)) rfl) .sigIf) .sigIf)
    (.ite (waitSignal_sends _ _) rfl))

theorem Sdu.reports_sends (old new : Sdu) : Block.sdu.Sends (Sdu.reports old new) := .append .sigIf (.ite rfl rfl)

theorem Rsq.cookingSignals_sends (old new : Rsq) : Block.rsq.Sends (Rsq.cookingSignals old new) := .sigIf

theorem Rsq.runSignals_sends (old new : Rsq) : Block.rsq.Sends (Rsq.runSignals old new) :=
  .ite rfl (.append (.append rfl .sigIf) rfl)

theorem Rsq.readSignals_sends (r : Rsq) : Block.rsq.Sends r.readSignals := by
  unfold Rsq.readSignals
  split <;> rfl

theorem abandonedSignals_sends (f : TxFrame) : Block.slc.Sends (abandonedSignals f) := by
  cases f <;> rfl

/-! ### Deliveries on the bus -/

/-- From one state to another with deliveries of one block made: each rank's deliveries on the bus have grown at their
end. -/
def BlockSends (k : Block) (s t : State) : Prop :=
  ∃ sigs, k.Sends sigs ∧ ∀ r, t.bus.filter (·.rank == r) = s.bus.filter (·.rank == r) ++ sigs.filter (·.rank == r)

/-- Putting deliveries in order keeps the order within each rank. -/
theorem Signal.inOrder_filter_rank (sigs : List Signal) (r : Nat) :
    (Signal.inOrder sigs).filter (·.rank == r) = sigs.filter (·.rank == r) := by
  have hpart : ∀ n, (sigs.filter (·.rank == n)).filter (·.rank == r) =
      if n = r then sigs.filter (·.rank == r) else [] := fun n => by
    split
    · next hn => rw [hn, List.filter_filter]; simp
    · next hn =>
      rw [List.filter_filter, List.filter_eq_nil_iff]
      intro sig _
      simp only [Bool.and_eq_true, beq_iff_eq]
      omega
  simp only [Signal.inOrder, List.filter_append, hpart]
  by_cases hr : r ≤ 3
  · interval_cases r <;> simp
  · have hnone : sigs.filter (·.rank == r) = [] := List.filter_eq_nil_iff.mpr fun sig _ => by
      have := sig.rank_le
      simp only [beq_iff_eq]
      omega
    simp [hnone]

namespace BlockSends

variable {k : Block} {s t u : State}

protected theorem refl : BlockSends k s s := ⟨[], rfl, fun r => by simp⟩

protected theorem trans (h : BlockSends k s t) (h' : BlockSends k t u) : BlockSends k s u := by
  obtain ⟨sigs, hsigs, hbus⟩ := h
  obtain ⟨sigs', hsigs', hbus'⟩ := h'
  exact ⟨sigs ++ sigs', hsigs.append hsigs', fun r => by
    rw [hbus', hbus, List.filter_append, List.append_assoc]⟩

theorem emit (h : BlockSends k s t) {sigs : List Signal} (hsigs : k.Sends sigs) :
    BlockSends k s (t.emit sigs) :=
  h.trans ⟨sigs, hsigs, fun r => by rw [State.emit_bus, Signal.inOrder_filter_rank, List.filter_append]⟩

theorem answer (h : BlockSends k s t) (r : Result) (d : List Byte) : BlockSends k s (t.answer r d) := h.emit rfl

theorem refuse (h : BlockSends k s t) (r : Result) : BlockSends k s (t.refuse r) := h.emit rfl

theorem post (h : BlockSends k s t) (c : EventCode) (n : Nat) (v : Word) : BlockSends k s (t.post c n v) := h

theorem postAll (h : BlockSends k s t) (es : List (EventCode × Nat × Word)) : BlockSends k s (t.postAll es) := by
  rw [State.postAll_eq]; exact h

theorem setClc (h : BlockSends k s t) (x : Clc) : BlockSends k s (t.setClc x) := h
theorem setDsp (h : BlockSends k s t) (x : Dsp) : BlockSends k s (t.setDsp x) := h
theorem setLsu (h : BlockSends k s t) (x : Lsu) : BlockSends k s (t.setLsu x) := h
theorem setSlc (h : BlockSends k s t) (x : Slc) : BlockSends k s (t.setSlc x) := h
theorem setSgc (h : BlockSends k s t) (x : Sgc) : BlockSends k s (t.setSgc x) := h
theorem setSdu (h : BlockSends k s t) (x : Sdu) : BlockSends k s (t.setSdu x) := h
theorem setRsq (h : BlockSends k s t) (x : Rsq) : BlockSends k s (t.setRsq x) := h
theorem setStc (h : BlockSends k s t) (x : Stc) : BlockSends k s (t.setStc x) := h
theorem setIlu (h : BlockSends k s t) (x : Ilu) : BlockSends k s (t.setIlu x) := h
theorem setCmh (h : BlockSends k s t) (x : Cmh) : BlockSends k s (t.setCmh x) := h

theorem dspTo (h : BlockSends .dsp s t) (d : Dsp) (es : List (EventCode × Nat × Word)) :
    BlockSends .dsp s (t.dspTo d es) := ((h.setDsp d).postAll es).emit (Dsp.reports_sends _ _)

theorem clcTo (h : BlockSends .clc s t) (c : Clc) {after : List Signal} (ha : Block.clc.Sends after) :
    BlockSends .clc s (t.clcTo c after) := (h.setClc _).emit ((Clc.reports_sends _ _).append ha)

theorem lsuTo (h : BlockSends .lsu s t) (l : Lsu) {after : List Signal} (ha : Block.lsu.Sends after) :
    BlockSends .lsu s (t.lsuTo l after) := (h.setLsu _).emit ((Block.Sends.sigIf).append ha)

theorem lsuInputs (h : BlockSends .lsu s t) (l : Lsu) : BlockSends .lsu s (t.lsuInputs l) :=
  h.lsuTo _ (.ite rfl (State.claimChange_sends _ _))

theorem sgcTo (h : BlockSends .sgc s t) (g : Sgc) : BlockSends .sgc s (t.sgcTo g) :=
  (h.setSgc _).emit (((Sgc.demandSignals_sends _ _).append (Sgc.stateSignals_sends _ _)).append rfl)

theorem sduTo (h : BlockSends .sdu s t) (d : Sdu) {before : List Signal} (hb : Block.sdu.Sends before) :
    BlockSends .sdu s (t.sduTo d before) := (h.setSdu _).emit (((Sdu.reports_sends _ _).append hb).append .sigIf)

theorem rsqTo (h : BlockSends .rsq s t) (r : Rsq) {before mid after : List Signal}
    (hb : Block.rsq.Sends before) (hm : Block.rsq.Sends mid)
    (ha : Block.rsq.Sends after) : BlockSends .rsq s (t.rsqTo r before mid after) :=
  (h.setRsq _).emit ((((hb.append (Rsq.cookingSignals_sends _ _)).append hm).append (Rsq.runSignals_sends _ _)).append ha)

end BlockSends

open BlockSends


/-! ### The dispatcher -/

theorem State.dspDemands_sends (w : Six Nat) (s : State) : BlockSends .dsp s (s.dspDemands w) := BlockSends.refl.dspTo _ _
theorem State.dspBoiler_sends (w : Nat) (s : State) : BlockSends .dsp s (s.dspBoiler w) := BlockSends.refl.dspTo _ _
theorem State.dspLimit_sends (l : Nat) (s : State) : BlockSends .dsp s (s.dspLimit l) := BlockSends.refl.dspTo _ _
theorem State.dspFan_sends (n : Nat) (s : State) : BlockSends .dsp s (s.dspFan n) := BlockSends.refl.dspTo _ _
theorem State.dspLow_sends (c : Bool) (s : State) : BlockSends .dsp s (s.dspLow c) := BlockSends.refl.dspTo _ _
theorem State.dspTrip_sends (p : Place) (a : Word) (on : Bool) (s : State) : BlockSends .dsp s (s.dspTrip p a on) :=
  BlockSends.refl.dspTo _ _
theorem State.dspConfigured_sends (r : Six Nat) (s : State) : BlockSends .dsp s (s.dspConfigured r) := by
  unfold State.dspConfigured; split
  · exact BlockSends.refl
  · exact BlockSends.refl.dspTo _ _

theorem State.dspSlotExpiry_sends (s : State) : BlockSends .dsp s s.dspSlotExpiry := BlockSends.refl.dspTo _ _

/-! ### The climate controller -/

theorem State.clcUpdate_sends (s : State) : BlockSends .clc s s.clcUpdate := by
  unfold State.clcUpdate; split
  · exact BlockSends.refl.clcTo _ (Clc.demandSignals_sends _ _)
  · exact BlockSends.refl

theorem State.clcControlExpiry_sends (s : State) : BlockSends .clc s s.clcControlExpiry := by
  unfold State.clcControlExpiry; split
  · exact State.clcUpdate_sends s
  · exact BlockSends.refl

theorem State.clcMeasure_sends (a b c : Int) (s : State) : BlockSends .clc s (s.clcMeasure a b c) := by
  unfold State.clcMeasure; dsimp only; split
  · exact BlockSends.refl.clcTo _ (.append (Clc.measureSignals_sends _ _) rfl)
  · exact BlockSends.refl.clcTo _ (Clc.measureSignals_sends _ _)

theorem State.clcRunOnExpiry_sends (s : State) : BlockSends .clc s s.clcRunOnExpiry := by
  unfold State.clcRunOnExpiry; split
  · exact BlockSends.refl.clcTo _ rfl
  · exact BlockSends.refl

theorem State.clcStep_sends (l : LiveStep) (s : State) : BlockSends .clc s (s.clcStep l) := by
  unfold State.clcStep; dsimp only; split
  · exact BlockSends.refl.clcTo _ (Clc.demandSignals_sends _ _)
  · exact BlockSends.refl.clcTo _ .sigIf

theorem State.clcRun_sends (r : RunState) (s : State) : BlockSends .clc s (s.clcRun r) := by
  have hdemand := Clc.demandSignals_sends s.clc
  unfold State.clcRun; dsimp only; split
  · exact BlockSends.refl.clcTo _ .sigIf
  · exact BlockSends.refl.clcTo _ (hdemand _)
  · split
    · exact BlockSends.refl.clcTo _ (.append (hdemand _) rfl)
    · exact BlockSends.refl.clcTo _ (hdemand _)
  · exact BlockSends.refl.clcTo _ (hdemand _)

theorem State.clcAdjust_sends (sp : Option Int) (h f : Option Nat) (s : State) :
    BlockSends .clc s (s.clcAdjust sp h f) := BlockSends.refl.clcTo _ rfl

theorem State.clcTrip_sends (p : Place) (a : Word) (on : Bool) (s : State) : BlockSends .clc s (s.clcTrip p a on) := by
  unfold State.clcTrip; dsimp only
  split
  · exact BlockSends.refl.clcTo _ rfl
  · split <;> exact BlockSends.refl.clcTo _ rfl

theorem State.clcProbe_sends (b : Bool) (s : State) : BlockSends .clc s (s.clcProbe b) := BlockSends.refl.clcTo _ .sigIf

theorem State.clcVent_sends (b : Bool) (s : State) : BlockSends .clc s (s.clcVent b) := by
  unfold State.clcVent; dsimp only
  split
  · exact BlockSends.refl.clcTo _ rfl
  · split
    · exact BlockSends.refl.clcTo _ rfl
    · exact BlockSends.refl.clcTo _ rfl
    · split <;> exact BlockSends.refl.clcTo _ rfl
    · split
      · exact BlockSends.refl.clcTo _ rfl
      · exact (BlockSends.refl.post _ _ _).clcTo _ rfl

theorem State.clcOpenExpiry_sends (s : State) : BlockSends .clc s s.clcOpenExpiry := by
  unfold State.clcOpenExpiry; split
  · exact BlockSends.refl.clcTo _ rfl
  · exact BlockSends.refl

theorem State.clcCloseExpiry_sends (s : State) : BlockSends .clc s s.clcCloseExpiry := by
  unfold State.clcCloseExpiry; split
  · exact (BlockSends.refl.post _ _ _).clcTo _ rfl
  · exact BlockSends.refl

theorem State.clcGenerator_sends (g : GenState) (s : State) : BlockSends .clc s (s.clcGenerator g) :=
  BlockSends.refl.clcTo _ rfl
theorem State.clcDispatch_sends (a b : Six Bool) (s : State) : BlockSends .clc s (s.clcDispatch a b) :=
  BlockSends.refl.clcTo _ rfl
theorem State.clcConfigured_sends (r : LoadsRecord) (s : State) : BlockSends .clc s (s.clcConfigured r) :=
  BlockSends.refl.clcTo _ rfl

/-! ### The load share unit -/

theorem State.lsuElementWant_sends (w : Nat) (s : State) : BlockSends .lsu s (s.lsuElementWant w) :=
  BlockSends.refl.lsuInputs _
theorem State.lsuBoilerWant_sends (w : Nat) (s : State) : BlockSends .lsu s (s.lsuBoilerWant w) :=
  BlockSends.refl.lsuInputs _
theorem State.lsuFloorClass_sends (f c : Nat) (s : State) : BlockSends .lsu s (s.lsuFloorClass f c) :=
  BlockSends.refl.lsuInputs _
theorem State.lsuConfigured_sends (s : State) : BlockSends .lsu s s.lsuConfigured := BlockSends.refl.lsuInputs _

theorem State.lsuListenExpiry_sends (s : State) : BlockSends .lsu s s.lsuListenExpiry := by
  unfold State.lsuListenExpiry; split
  · exact BlockSends.refl.lsuTo _ rfl
  · exact BlockSends.refl

theorem State.lsuPeriodExpiry_sends (s : State) : BlockSends .lsu s s.lsuPeriodExpiry := by
  unfold State.lsuPeriodExpiry; split
  · refine BlockSends.refl.lsuTo _ ?_
    split <;> rfl
  · exact BlockSends.refl

theorem State.lsuIntervalExpiry_sends (s : State) : BlockSends .lsu s s.lsuIntervalExpiry := by
  unfold State.lsuIntervalExpiry; split
  · exact BlockSends.refl.lsuTo _ .sigIf
  · exact BlockSends.refl

theorem State.lsuHoldOffExpiry_sends (s : State) : BlockSends .lsu s s.lsuHoldOffExpiry := by
  unfold State.lsuHoldOffExpiry; split
  · exact BlockSends.refl.lsuTo _ rfl
  · exact BlockSends.refl

theorem State.lsuSent_sends (c : Claim) (s : State) : BlockSends .lsu s (s.lsuSent c) := by
  unfold State.lsuSent; split
  · exact BlockSends.refl
  · exact BlockSends.refl
  · exact BlockSends.refl.lsuTo _ rfl

theorem State.lsuAbandoned_sends (s : State) : BlockSends .lsu s s.lsuAbandoned := by
  unfold State.lsuAbandoned; split
  · exact BlockSends.refl
  · exact BlockSends.refl
  · exact BlockSends.refl.lsuTo _ rfl

theorem State.lsuClaim_sends (n : Fin 8) (f w k : Nat) (s : State) : BlockSends .lsu s (s.lsuClaim n f w k) := by
  unfold State.lsuClaim; split
  · dsimp only; split
    · exact (BlockSends.refl.post _ _ _).lsuTo _ rfl
    · split
      · exact (BlockSends.refl.post _ _ _).lsuTo _ rfl
      · exact BlockSends.refl.lsuTo _ rfl
  · exact BlockSends.refl.emit rfl

theorem State.lsuPeerSilent_sends (n : Nat) (s : State) : BlockSends .lsu s (s.lsuPeerSilent n) := by
  unfold State.lsuPeerSilent; split
  · exact BlockSends.refl
  · split
    · exact BlockSends.refl
    · exact (BlockSends.refl.post _ _ _).lsuTo _ rfl

theorem State.lsuPeerLost_sends (n : Nat) (s : State) : BlockSends .lsu s (s.lsuPeerLost n) := by
  unfold State.lsuPeerLost; split
  · exact BlockSends.refl
  · split
    · exact (BlockSends.refl.post _ _ _).lsuTo _ rfl
    · exact BlockSends.refl

theorem State.lsuLineOk_sends (s : State) : BlockSends .lsu s s.lsuLineOk := by
  unfold State.lsuLineOk; split
  · exact BlockSends.refl.lsuTo _ rfl
  · split
    · exact BlockSends.refl
    · exact (BlockSends.refl.post _ _ _).lsuTo _ rfl
  · exact BlockSends.refl

theorem State.lsuIsolate_sends (n : Nat) (l : Lsu) (s : State) : BlockSends .lsu s (s.lsuIsolate n l) :=
  (BlockSends.refl.post _ _ _).lsuTo _ rfl

theorem State.lsuLineFault_sends (s : State) : BlockSends .lsu s s.lsuLineFault := by
  unfold State.lsuLineFault; split
  · exact BlockSends.refl
  · exact State.lsuIsolate_sends _ _ _

theorem State.lsuSilenced_sends (s : State) : BlockSends .lsu s s.lsuSilenced := by
  unfold State.lsuSilenced; dsimp only; split
  · exact BlockSends.refl.lsuTo _ rfl
  · exact State.lsuIsolate_sends _ _ _

theorem State.takeReadPeers_sends (p : List Byte) (s : State) : BlockSends .lsu s (s.takeReadPeers p) := by
  unfold State.takeReadPeers; split
  · exact BlockSends.refl.refuse _
  · exact BlockSends.refl.answer _ _

/-! ### The steam generator controller -/

theorem State.sgcEntry_sends (s : State) : BlockSends .sgc s s.sgcEntry := by
  unfold State.sgcEntry; dsimp only; split
  · split
    · exact BlockSends.refl.sgcTo _
    · exact BlockSends.refl
  · split
    · exact BlockSends.refl.sgcTo _
    · exact BlockSends.refl
  · split
    · exact (BlockSends.refl.sgcTo _).emit rfl
    · exact BlockSends.refl
  · split
    · split
      · exact BlockSends.refl.sgcTo _
      · exact BlockSends.refl
    · exact BlockSends.refl
  · split
    · exact BlockSends.refl.sgcTo _
    · exact BlockSends.refl
  · exact BlockSends.refl

theorem State.sgcCooking_sends (h : Option Nat) (s : State) : BlockSends .sgc s (s.sgcCooking h) :=
  BlockSends.refl.sgcTo _
theorem State.sgcGrant_sends (b : Bool) (s : State) : BlockSends .sgc s (s.sgcGrant b) := BlockSends.refl.sgcTo _
theorem State.sgcDrainOrder_sends (s : State) : BlockSends .sgc s s.sgcDrainOrder := BlockSends.refl.sgcTo _
theorem State.sgcHigh_sends (b c : Bool) (s : State) : BlockSends .sgc s (s.sgcHigh b c) := BlockSends.refl.sgcTo _
theorem State.sgcBoiler_sends (t : Int) (s : State) : BlockSends .sgc s (s.sgcBoiler t) := BlockSends.refl.sgcTo _
theorem State.sgcLow_sends (a b : Bool) (s : State) : BlockSends .sgc s (s.sgcLow a b) := BlockSends.refl.sgcTo _
theorem State.sgcConfigured_sends (r : LoadsRecord) (s : State) : BlockSends .sgc s (s.sgcConfigured r) :=
  BlockSends.refl.sgcTo _

theorem State.sgcProgram_sends (r : ProgRequest) (s : State) : BlockSends .sgc s (s.sgcProgram r) := by
  unfold State.sgcProgram; dsimp only; split
  · split
    · exact (BlockSends.refl.sgcTo _).emit rfl
    · exact BlockSends.refl.sgcTo _
  · exact BlockSends.refl.sgcTo _

theorem State.sgcTank_sends (b settled : Bool) (s : State) : BlockSends .sgc s (s.sgcTank b settled) := by
  unfold State.sgcTank; dsimp only; split
  · exact BlockSends.refl.sgcTo _
  · split
    · split <;> exact BlockSends.refl.sgcTo _
    · split <;> exact BlockSends.refl.sgcTo _

theorem State.sgcTrip_sends (p : Place) (a : Word) (on : Bool) (s : State) : BlockSends .sgc s (s.sgcTrip p a on) := by
  unfold State.sgcTrip; dsimp only; split
  · split <;> exact BlockSends.refl.sgcTo _
  · split
    · split <;> exact BlockSends.refl.sgcTo _
    · exact BlockSends.refl.sgcTo _

theorem State.sgcFillTimeout_sends (s : State) : BlockSends .sgc s s.sgcFillTimeout := by
  unfold State.sgcFillTimeout; dsimp only; split
  · split <;> exact (BlockSends.refl.post _ _ _).sgcTo _
  · exact BlockSends.refl

theorem State.sgcDrainExpiry_sends (s : State) : BlockSends .sgc s s.sgcDrainExpiry := by
  unfold State.sgcDrainExpiry; dsimp only; split
  · split
    · exact (BlockSends.refl.post _ _ _).sgcTo _
    · split <;> exact BlockSends.refl.sgcTo _
  · exact BlockSends.refl

theorem State.sgcConfirm_sends (s : State) : BlockSends .sgc s s.sgcConfirm := by
  unfold State.sgcConfirm; split
  · exact (BlockSends.refl.sgcTo _).answer _ _
  · exact BlockSends.refl.refuse _

/-! ### The scale and descale unit -/

theorem State.sduRefill_sends (s : State) : BlockSends .sdu s s.sduRefill := (BlockSends.refl.postAll _).sduTo _ .sigIf
theorem State.sduScan_sends (v : KeepValues) (k : ValueSource) (s : State) : BlockSends .sdu s (s.sduScan v k) :=
  BlockSends.refl.sduTo _ rfl
theorem State.sduComplete_sends (s : State) : BlockSends .sdu s s.sduComplete := (BlockSends.refl.post _ _ _).sduTo _ rfl
theorem State.sduGenerator_sends (g : GenState) (s : State) : BlockSends .sdu s (s.sduGenerator g) :=
  BlockSends.refl.sduTo _ rfl
theorem State.sduTank_sends (b : Bool) (s : State) : BlockSends .sdu s (s.sduTank b) := BlockSends.refl.sduTo _ rfl
theorem State.sduRun_sends (r : RunState) (s : State) : BlockSends .sdu s (s.sduRun r) := BlockSends.refl.sduTo _ rfl
theorem State.sduConfigured_sends (r : LoadsRecord) (s : State) : BlockSends .sdu s (s.sduConfigured r) :=
  BlockSends.refl.sduTo _ rfl

theorem State.sduFillEnded_sends (s : State) : BlockSends .sdu s s.sduFillEnded := by
  unfold State.sduFillEnded; split
  · exact BlockSends.refl.sduTo _ rfl
  · exact BlockSends.refl.sduTo _ rfl
  · exact BlockSends.refl

theorem State.sduDrainEnded_sends (s : State) : BlockSends .sdu s s.sduDrainEnded := by
  unfold State.sduDrainEnded; dsimp only; split
  · exact BlockSends.refl.sduTo _ rfl
  · split
    · exact BlockSends.refl.sduTo _ rfl
    · exact (BlockSends.refl.post _ _ _).sduTo _ rfl
  · split
    · exact BlockSends.refl.sduTo _ rfl
    · exact State.sduComplete_sends s
  · exact BlockSends.refl.sduTo _ rfl
  · exact BlockSends.refl

theorem State.sduWait_sends (b : Bool) (s : State) : BlockSends .sdu s (s.sduWait b) := by
  unfold State.sduWait; dsimp only; split
  · split
    · exact (BlockSends.refl.post _ _ _).sduTo _ rfl
    · exact (BlockSends.refl.post _ _ _).sduTo _ rfl
    · exact (BlockSends.refl.post _ _ _).sduTo _ rfl
    · exact BlockSends.refl
  · split
    · exact BlockSends.refl.sduTo _ rfl
    · exact BlockSends.refl

theorem State.sduBoiler_sends (t : Int) (s : State) : BlockSends .sdu s (s.sduBoiler t) := by
  unfold State.sduBoiler; dsimp only; split <;> exact BlockSends.refl.sduTo _ rfl

theorem State.sduSoakComplete_sends (s : State) : BlockSends .sdu s s.sduSoakComplete := by
  unfold State.sduSoakComplete; split
  · exact BlockSends.refl.sduTo _ rfl
  · exact BlockSends.refl

theorem State.takeSetHardness_sends (p : List Byte) (s : State) : BlockSends .sdu s (s.takeSetHardness p) :=
  (BlockSends.refl.sduTo _ rfl).answer _ _
theorem State.takeReadScale_sends (s : State) : BlockSends .sdu s s.takeReadScale := BlockSends.refl.answer _ _

theorem State.takeDescaleStart_sends (s : State) : BlockSends .sdu s s.takeDescaleStart := by
  unfold State.takeDescaleStart; split
  · exact BlockSends.refl.refuse _
  · split
    · exact BlockSends.refl.refuse _
    · exact ((BlockSends.refl.post _ _ _).sduTo _ rfl).answer _ _

theorem State.takeRinseStart_sends (s : State) : BlockSends .sdu s s.takeRinseStart := by
  unfold State.takeRinseStart; split
  · exact BlockSends.refl.refuse _
  · split
    · exact ((BlockSends.refl.post _ _ _).sduTo _ rfl).answer _ _
    · exact BlockSends.refl.refuse _

theorem State.sduConfirm_sends (s : State) : BlockSends .sdu s s.sduConfirm := by
  unfold State.sduConfirm; dsimp only; split
  · exact BlockSends.refl.refuse _
  · split
    · exact (BlockSends.refl.sduTo _ rfl).answer _ _
    · split
      · exact (BlockSends.refl.sduTo _ rfl).answer _ _
      · exact BlockSends.refl.refuse _

theorem State.takeDescaleAbort_sends (s : State) : BlockSends .sdu s s.takeDescaleAbort := by
  unfold State.takeDescaleAbort; dsimp only; split
  · exact BlockSends.refl.refuse _
  · exact BlockSends.refl.refuse _
  · split <;> exact ((BlockSends.refl.post _ _ _).sduTo _ rfl).answer _ _

/-! ### The recipe sequencer -/

theorem State.rsqFinish_sends (r : EndReason) (s : State) : BlockSends .rsq s (s.rsqFinish r) :=
  (BlockSends.refl.post _ _ _).rsqTo _ rfl rfl rfl

theorem State.rsqRunOnEnd_sends (s : State) : BlockSends .rsq s s.rsqRunOnEnd := by
  unfold State.rsqRunOnEnd; split
  · exact BlockSends.refl.rsqTo _ rfl rfl rfl
  · exact BlockSends.refl

theorem State.rsqStepEnd_sends (s : State) : BlockSends .rsq s s.rsqStepEnd := by
  unfold State.rsqStepEnd; split
  · exact BlockSends.refl.rsqTo _ rfl rfl (Rsq.readSignals_sends _)
  · exact State.rsqFinish_sends _ s

theorem State.rsqActive_sends (s : State) : BlockSends .rsq s s.rsqActive := by
  unfold State.rsqActive; dsimp only; split
  · exact (BlockSends.refl.rsqTo _ rfl rfl rfl).trans (State.rsqStepEnd_sends _)
  · exact BlockSends.refl.rsqTo _ rfl rfl rfl

theorem State.rsqPromptOrActive_sends (l : LiveStep) (s : State) : BlockSends .rsq s (s.rsqPromptOrActive l) := by
  unfold State.rsqPromptOrActive; split
  · exact State.rsqActive_sends s
  · exact (BlockSends.refl.post _ _ _).rsqTo _ rfl rfl rfl

theorem State.rsqPreheatTest_sends (s : State) : BlockSends .rsq s s.rsqPreheatTest := by
  unfold State.rsqPreheatTest; split
  · split
    · exact (BlockSends.refl.post _ _ _).trans (State.rsqPromptOrActive_sends _ _)
    · exact BlockSends.refl
  · exact BlockSends.refl

theorem State.rsqDecide_sends (l : LiveStep) (s : State) : BlockSends .rsq s (s.rsqDecide l) := by
  unfold State.rsqDecide; split
  · exact (BlockSends.refl.rsqTo _ rfl rfl rfl).trans (State.rsqPreheatTest_sends _)
  · exact State.rsqPromptOrActive_sends _ s

theorem State.rsqReasons_sends (r : Reasons) (s : State) : BlockSends .rsq s (s.rsqReasons r) := by
  unfold State.rsqReasons; dsimp only; split
  · exact BlockSends.refl
  · split
    · exact (BlockSends.refl.post _ _ _).rsqTo _ rfl rfl rfl
    · split
      · exact (BlockSends.refl.post _ _ _).rsqTo _ rfl rfl rfl
      · exact BlockSends.refl.rsqTo _ rfl rfl rfl

theorem State.rsqResumed_sends (s : State) : BlockSends .rsq s s.rsqResumed := by
  unfold State.rsqResumed; split
  · split
    · split
      · exact State.rsqStepEnd_sends s
      · exact BlockSends.refl
    · exact State.rsqPreheatTest_sends s
  · exact BlockSends.refl

theorem State.rsqProbePrompt_sends (s : State) : BlockSends .rsq s s.rsqProbePrompt :=
  (BlockSends.refl.post _ _ _).trans (State.rsqReasons_sends _ _)

theorem State.rsqProbe_sends (b : Bool) (s : State) : BlockSends .rsq s (s.rsqProbe b) := by
  unfold State.rsqProbe; dsimp only; split
  · split
    · exact ((BlockSends.refl.rsqTo _ rfl rfl rfl).trans (State.rsqReasons_sends _ _)).emit rfl
    · exact BlockSends.refl.rsqTo _ rfl rfl rfl
  · split
    · exact (BlockSends.refl.rsqTo _ rfl rfl rfl).trans (State.rsqProbePrompt_sends _)
    · exact BlockSends.refl.rsqTo _ rfl rfl rfl

theorem State.rsqEntry_sends (s : State) : BlockSends .rsq s s.rsqEntry := by
  unfold State.rsqEntry; split
  · split
    · exact State.rsqDecide_sends _ s
    · exact BlockSends.refl
  · exact BlockSends.refl

theorem State.rsqEnter_sends (l : LiveStep) (s : State) : BlockSends .rsq s (s.rsqEnter l) := by
  unfold State.rsqEnter; split
  · exact State.rsqProbePrompt_sends s
  · exact State.rsqDecide_sends _ s

theorem State.rsqBegin_sends (r : RawStep) (s : State) : BlockSends .rsq s (s.rsqBegin r) := by
  unfold State.rsqBegin; split
  · split
    · exact BlockSends.refl.rsqTo _ rfl rfl rfl
    · exact BlockSends.refl
  · exact BlockSends.refl

theorem State.rsqBegun_sends (s : State) : BlockSends .rsq s s.rsqBegun := by
  unfold State.rsqBegun; split
  · exact BlockSends.refl
  · rename_i l _
    split
    · exact BlockSends.refl
    · by_cases hk : l.endKind.isCore = true
      · simp only [hk, if_true]
        exact (BlockSends.refl.post _ _ _).trans (State.rsqEnter_sends _ _)
      · simp only [hk]
        have h : BlockSends .rsq s (s.rsqReasons { s.rsq.reasons with probe := false }) := State.rsqReasons_sends _ s
        exact (h.post _ _ _).trans (State.rsqEnter_sends _ _)

theorem State.rsqStart_sends (r : Rsq) {after : List Signal} (ha : Block.rsq.Sends after) (s : State) :
    BlockSends .rsq s (s.rsqStart r after) := (BlockSends.refl.postAll _).rsqTo _ rfl rfl (ha)

theorem State.takeStartManual_sends (p : List Byte) (s : State) : BlockSends .rsq s (s.takeStartManual p) := by
  unfold State.takeStartManual; split
  · exact BlockSends.refl.refuse _
  · split
    · exact BlockSends.refl.refuse _
    · split
      · exact BlockSends.refl.refuse _
      · exact BlockSends.refl.refuse _
      · exact (State.rsqStart_sends _ rfl s).answer _ _

theorem State.takeRunRecipe_sends (p : List Byte) (s : State) : BlockSends .rsq s (s.takeRunRecipe p) := by
  unfold State.takeRunRecipe; dsimp only; split
  · exact BlockSends.refl.refuse _
  · split
    · exact BlockSends.refl.rsqTo _ rfl rfl rfl
    · exact BlockSends.refl.refuse _

theorem State.rsqStartRead_sends (ws : List Word) (s : State) : BlockSends .rsq s (s.rsqStartRead ws) := by
  unfold State.rsqStartRead; split
  · exact BlockSends.refl
  · dsimp only; split
    · exact (BlockSends.refl.setRsq _).refuse _
    · split
      · exact (BlockSends.refl.setRsq _).refuse _
      · split
        · exact (BlockSends.refl.setRsq _).refuse _
        · exact ((BlockSends.refl.setRsq _).trans (State.rsqStart_sends _ (Rsq.readSignals_sends _) _)).answer _ _

theorem State.rsqStepRead_sends (ws : List Word) (s : State) : BlockSends .rsq s (s.rsqStepRead ws) := by
  unfold State.rsqStepRead; split
  · split
    · exact State.rsqBegin_sends _ s
    · exact BlockSends.refl
  · exact BlockSends.refl

theorem State.rsqPreheat_sends (b : Bool) (s : State) : BlockSends .rsq s (s.rsqPreheat b) :=
  (BlockSends.refl.rsqTo _ rfl rfl rfl).trans (State.rsqPreheatTest_sends _)

theorem State.rsqCore_sends (c : Option Int) (s : State) : BlockSends .rsq s (s.rsqCore c) := by
  unfold State.rsqCore; dsimp only; split
  · exact (BlockSends.refl.rsqTo _ rfl rfl rfl).trans (State.rsqStepEnd_sends _)
  · exact BlockSends.refl.rsqTo _ rfl rfl rfl

theorem State.rsqTrip_sends (p : Place) (a : Word) (on : Bool) (s : State) : BlockSends .rsq s (s.rsqTrip p a on) := by
  unfold State.rsqTrip; dsimp only; split
  · split
    · exact (BlockSends.refl.setRsq _).trans (State.rsqFinish_sends _ _)
    · exact (BlockSends.refl.setRsq _).trans (State.rsqReasons_sends _ _)
  · exact BlockSends.refl.setRsq _

theorem State.rsqTank_sends (b : Bool) (s : State) : BlockSends .rsq s (s.rsqTank b) :=
  (BlockSends.refl.setRsq _).trans (State.rsqReasons_sends _ _)
theorem State.rsqLocks_sends (a b : Bool) (s : State) : BlockSends .rsq s (s.rsqLocks a b) := BlockSends.refl.setRsq _
theorem State.rsqDescale_sends (b : Bool) (s : State) : BlockSends .rsq s (s.rsqDescale b) := BlockSends.refl.setRsq _
theorem State.rsqConfigured_sends (r : LoadsRecord) (s : State) : BlockSends .rsq s (s.rsqConfigured r) :=
  BlockSends.refl.setRsq _

theorem State.rsqStepTimeEnd_sends (s : State) : BlockSends .rsq s s.rsqStepTimeEnd := by
  unfold State.rsqStepTimeEnd; split
  · split
    · exact (BlockSends.refl.setRsq _).trans (State.rsqStepEnd_sends _)
    · exact BlockSends.refl
  · exact BlockSends.refl

theorem State.rsqPauseExpiry_sends (s : State) : BlockSends .rsq s s.rsqPauseExpiry := by
  unfold State.rsqPauseExpiry; split
  · exact State.rsqFinish_sends _ s
  · exact BlockSends.refl

theorem State.rsqRunCap_sends (s : State) : BlockSends .rsq s s.rsqRunCap := by
  unfold State.rsqRunCap; split
  · exact (BlockSends.refl.setRsq _).trans (State.rsqFinish_sends _ _)
  · exact BlockSends.refl

theorem State.takeAdjust_sends (p : List Byte) (s : State) : BlockSends .rsq s (s.takeAdjust p) := by
  unfold State.takeAdjust; split
  · exact BlockSends.refl.refuse _
  · exact BlockSends.refl.refuse _
  · exact BlockSends.refl.refuse _
  · split
    · exact BlockSends.refl.refuse _
    · split
      · exact BlockSends.refl.refuse _
      · exact (BlockSends.refl.rsqTo _ .sigIf rfl rfl).answer _ _

theorem State.takePause_sends (s : State) : BlockSends .rsq s s.takePause := by
  unfold State.takePause; split
  · exact (State.rsqReasons_sends _ s).answer _ _
  · exact BlockSends.refl.refuse _

theorem State.takeResume_sends (s : State) : BlockSends .rsq s s.takeResume := by
  unfold State.takeResume; split
  · exact (State.rsqReasons_sends _ s).answer _ _
  · exact BlockSends.refl.refuse _

theorem State.takeSkipStep_sends (s : State) : BlockSends .rsq s s.takeSkipStep := by
  unfold State.takeSkipStep; split
  · exact BlockSends.refl.refuse _
  · split
    · exact BlockSends.refl.refuse _
    · exact (State.rsqStepEnd_sends s).answer _ _

theorem State.takeStop_sends (s : State) : BlockSends .rsq s s.takeStop := by
  unfold State.takeStop; split
  · exact (State.rsqFinish_sends _ s).answer _ _
  · exact BlockSends.refl.refuse _

theorem State.rsqConfirm_sends (s : State) : BlockSends .rsq s s.rsqConfirm := by
  unfold State.rsqConfirm; split
  · exact (State.rsqActive_sends s).answer _ _
  · split
    · split
      · exact (State.rsqStepEnd_sends s).answer _ _
      · exact BlockSends.refl.refuse _
    · exact BlockSends.refl.refuse _

/-! ### The store controller -/

theorem State.storeDone_sends (r : StoreRequest) (s : State) : BlockSends .stc s (s.storeDone r) := by
  unfold State.storeDone; dsimp only; split
  · exact (BlockSends.refl.setStc _).answer _ _
  · exact (BlockSends.refl.setStc _).answer _ _
  · exact (BlockSends.refl.setStc _).answer _ _
  · exact (BlockSends.refl.setStc _).answer _ _
  · exact BlockSends.refl.setStc _
  · exact BlockSends.refl

theorem State.storeFailed_sends (r : StoreRequest) (w : Option Nat) (s : State) :
    BlockSends .stc s (s.storeFailed r w) := by
  unfold State.storeFailed; dsimp only; split
  · exact (BlockSends.refl.setStc _).refuse _
  · exact (BlockSends.refl.setStc _).refuse _
  · split
    · exact BlockSends.refl.post _ _ _
    · exact (BlockSends.refl.post _ _ _).setStc _
  · exact BlockSends.refl.refuse _

theorem State.serve_sends (r : StoreRequest) (s : State) : BlockSends .stc s (s.serve r) := by
  unfold State.serve; dsimp only; split
  · exact BlockSends.refl.setStc _
  · split
    · exact BlockSends.refl.setStc _
    · exact BlockSends.refl.refuse _
  · split
    · split
      · exact BlockSends.refl.setStc _
      · exact (BlockSends.refl.setStc _).refuse _
    · exact BlockSends.refl.refuse _
  · exact BlockSends.refl.setStc _
  · exact BlockSends.refl.answer _ _
  · exact BlockSends.refl.answer _ _
  · exact BlockSends.refl.setStc _
  · exact BlockSends.refl.setStc _
  · split <;> exact BlockSends.refl.setStc _

theorem State.serveNext_sends (s : State) : BlockSends .stc s s.serveNext := by
  unfold State.serveNext; split
  · exact BlockSends.refl
  · exact (BlockSends.refl.setStc _).trans (State.serve_sends _ _)

theorem State.stcRequest_sends (r : StoreRequest) (s : State) : BlockSends .stc s (s.stcRequest r) := by
  unfold State.stcRequest; split
  · exact State.serve_sends _ s
  · exact BlockSends.refl.setStc _

theorem State.storeOperationComplete_sends (kept : List (Nat × Word)) (s : State) :
    BlockSends .stc s (s.storeOperationComplete kept) := by
  unfold State.storeOperationComplete; split
  · exact BlockSends.refl
  · dsimp only; split
    · split
      · exact BlockSends.refl.setStc _
      · exact ((BlockSends.refl.setStc _).trans (State.storeDone_sends _ _)).trans (State.serveNext_sends _)
    · split
      · exact ((BlockSends.refl.setStc _).trans (State.storeFailed_sends _ _ _)).trans (State.serveNext_sends _)
      · exact BlockSends.refl.setStc _

theorem State.stcScan_sends (s : State) : BlockSends .stc s s.stcScan := by
  unfold State.stcScan; split
  · exact BlockSends.refl
  · dsimp only; split
    · exact (BlockSends.refl.setStc _).emit rfl
    · exact ((BlockSends.refl.setStc _).post _ _ _).emit rfl

theorem State.takeStoreOpen_sends (p : List Byte) (s : State) : BlockSends .stc s (s.takeStoreOpen p) := by
  unfold State.takeStoreOpen; dsimp only; split
  · exact BlockSends.refl.refuse _
  · split
    · exact BlockSends.refl.refuse _
    · split
      · exact BlockSends.refl.refuse _
      · exact State.stcRequest_sends _ s

theorem State.refuseStoreWrite_sends (r : Result) (s : State) : BlockSends .stc s (s.refuseStoreWrite r) :=
  (BlockSends.refl.setStc _).refuse _

theorem State.takeStoreWrite_sends (p : List Byte) (s : State) : BlockSends .stc s (s.takeStoreWrite p) := by
  unfold State.takeStoreWrite; dsimp only; split
  · exact BlockSends.refl.refuse _
  · split
    · exact State.refuseStoreWrite_sends _ s
    · exact (BlockSends.refl.setStc _).trans (State.stcRequest_sends _ _)

theorem State.takeStoreClose_sends (p : List Byte) (s : State) : BlockSends .stc s (s.takeStoreClose p) := by
  unfold State.takeStoreClose; split
  · exact BlockSends.refl.refuse _
  · exact (BlockSends.refl.setStc _).trans (State.stcRequest_sends _ _)

theorem State.takeStoreErase_sends (p : List Byte) (s : State) : BlockSends .stc s (s.takeStoreErase p) := by
  unfold State.takeStoreErase; dsimp only; split
  · exact BlockSends.refl.refuse _
  · split
    · exact BlockSends.refl.refuse _
    · exact State.stcRequest_sends _ s

theorem State.takeStoreRead_sends (p : List Byte) (s : State) : BlockSends .stc s (s.takeStoreRead p) := by
  unfold State.takeStoreRead; dsimp only; split
  · exact BlockSends.refl.refuse _
  · exact State.stcRequest_sends _ s

theorem State.takeStoreList_sends (s : State) : BlockSends .stc s s.takeStoreList := State.stcRequest_sends _ s

theorem State.storeAbandon_sends (s : State) : BlockSends .stc s s.storeAbandon := by
  unfold State.storeAbandon; split
  · exact BlockSends.refl
  · split
    · exact BlockSends.refl
    · exact (BlockSends.refl.post _ _ _).setStc _

/-! ### The interlock unit -/

theorem State.tripSet_sends (p : Place) (s : State) : BlockSends .ilu s (s.tripSet p) :=
  ((BlockSends.refl.post _ _ _).setIlu _).emit rfl
theorem State.tripCleared_sends (p : Place) (c : Bool) (s : State) : BlockSends .ilu s (s.tripCleared p c) :=
  ((BlockSends.refl.post _ _ _).setIlu _).emit rfl

theorem State.evaluate_sends (p : Place) (s : State) : BlockSends .ilu s (s.evaluate p) := by
  unfold State.evaluate; dsimp only; split
  · exact BlockSends.refl
  · split
    · exact BlockSends.refl.setIlu _
    · split
      · split
        · exact BlockSends.refl.setIlu _
        · split
          · exact (BlockSends.refl.setIlu _).trans (State.tripSet_sends _ _)
          · exact BlockSends.refl.setIlu _
      · split
        · exact (BlockSends.refl.setIlu _).trans (State.tripCleared_sends _ _ _)
        · exact BlockSends.refl.setIlu _

theorem State.iluTo_sends (i : Ilu) (s : State) : BlockSends .ilu s (s.iluTo i) := by
  have h : ∀ (ps : List Place) (t : State), BlockSends .ilu s t →
      BlockSends .ilu s (ps.foldl (fun s p => s.evaluate p) t) := by
    intro ps
    induction ps with
    | nil => exact fun _ h => h
    | cons p rest ih => exact fun t h => ih _ (h.trans (State.evaluate_sends p t))
  exact h _ _ (BlockSends.refl.setIlu i)

theorem State.iluClimate_sends (t b : Int) (f : Bool) (s : State) : BlockSends .ilu s (s.iluClimate t b f) :=
  State.iluTo_sends _ s
theorem State.iluRun_sends (r : RunState) (s : State) : BlockSends .ilu s (s.iluRun r) := State.iluTo_sends _ s
theorem State.iluGenerator_sends (g : GenState) (s : State) : BlockSends .ilu s (s.iluGenerator g) :=
  State.iluTo_sends _ s
theorem State.iluDescale_sends (b : Bool) (s : State) : BlockSends .ilu s (s.iluDescale b) := State.iluTo_sends _ s
theorem State.iluFan_sends (n : Nat) (s : State) : BlockSends .ilu s (s.iluFan n) := State.iluTo_sends _ s
theorem State.iluHeat_sends (b : Bool) (s : State) : BlockSends .ilu s (s.iluHeat b) := State.iluTo_sends _ s
theorem State.iluConfigured_sends (s : State) : BlockSends .ilu s s.iluConfigured := State.iluTo_sends _ s

/-! ### The share line controller -/

theorem State.enterSilenced_sends (s : State) : BlockSends .slc s s.enterSilenced :=
  ((BlockSends.refl.post _ _ _).setSlc _).emit rfl

theorem State.slcConflict_sends (s : State) : BlockSends .slc s s.slcConflict := by
  unfold State.slcConflict; dsimp only; split
  · exact (BlockSends.refl.setSlc _).trans (State.enterSilenced_sends _)
  · exact BlockSends.refl.setSlc _

theorem State.slcCheckError_sends (s : State) : BlockSends .slc s s.slcCheckError := BlockSends.refl.setSlc _

theorem State.receptionFault_sends (f : ReceptionFault) (s : State) : BlockSends .slc s (s.receptionFault f) := by
  cases f
  · exact State.slcCheckError_sends s
  · exact State.slcCheckError_sends s
  · exact State.slcCheckError_sends s
  · exact BlockSends.refl.setSlc _

theorem State.enterLineFault_sends (s : State) : BlockSends .slc s s.enterLineFault :=
  ((BlockSends.refl.post _ _ _).setSlc _).emit rfl

theorem State.enterLineOk_sends (s : State) : BlockSends .slc s s.enterLineOk := by
  unfold State.enterLineOk; split
  · exact ((BlockSends.refl.post _ _ _).setSlc _).emit rfl
  · exact (BlockSends.refl.setSlc _).emit rfl

theorem State.countsReached_sends (s : State) : BlockSends .slc s s.countsReached := by
  unfold State.countsReached; dsimp only; split
  · exact State.enterLineFault_sends s
  · split
    · exact State.enterLineOk_sends s
    · exact BlockSends.refl.setSlc _

theorem State.passCell_sends (c : Level) (s : State) : BlockSends .slc s (s.passCell c) :=
  (BlockSends.refl.setSlc _).trans (State.countsReached_sends _)

theorem State.hearCell_sends (c : Level) (s : State) : BlockSends .slc s (s.hearCell c).1 :=
  (BlockSends.refl.setSlc _).trans (State.countsReached_sends _)

theorem State.examined_sends (f : Frame) (others : Level) (s : State) : BlockSends .slc s (s.examined f others) := by
  unfold State.examined; dsimp only; split
  · exact (State.passCell_sends _ s).trans (State.slcConflict_sends _)
  · exact (State.passCell_sends _ s).trans (State.slcCheckError_sends _)
  · exact (State.passCell_sends _ s).emit rfl
  · exact (State.passCell_sends _ s).emit rfl
  · exact State.passCell_sends _ s

theorem State.hear_sends (frame : List Byte → Option Frame) (cells : List Level) (s : State) :
    BlockSends .slc s (State.hear frame cells s s) :=
  State.hear_keeps (P := BlockSends .slc s) frame (fun c _ h => h.trans (State.hearCell_sends c _))
    (fun e _ h => h.trans (State.receptionFault_sends e _)) (fun f ack _ _ _ h => h.trans (State.examined_sends f ack _))
    cells s s BlockSends.refl BlockSends.refl

theorem State.receive_sends (f : Frame) (others : Level) (s : State) : BlockSends .slc s (s.receive f others) := by
  unfold State.receive; split
  · exact BlockSends.refl
  · exact State.hear_sends _ _ s

theorem State.slcReceptionError_sends (cells : List Level) (s : State) :
    BlockSends .slc s (s.slcReceptionError cells) := by
  unfold State.slcReceptionError; split
  · exact BlockSends.refl
  · exact State.hear_sends _ _ s

theorem State.slcStart_sends (s : State) : BlockSends .slc s s.slcStart := by
  unfold State.slcStart; dsimp only; split
  · split
    · exact BlockSends.refl.setSlc _
    · exact BlockSends.refl
  · exact BlockSends.refl

theorem State.slcLoss_sends (bit : Fin 5) (s : State) : BlockSends .slc s (s.slcLoss bit) := by
  unfold State.slcLoss; split
  · dsimp only; split
    · exact BlockSends.refl.setSlc _
    · exact BlockSends.refl
  · exact BlockSends.refl

theorem State.slcMismatch_sends (cell : Nat) (s : State) : BlockSends .slc s (s.slcMismatch cell) := by
  unfold State.slcMismatch; split
  · split
    · exact ((BlockSends.refl.setSlc _).emit (abandonedSignals_sends _)).trans (State.slcConflict_sends _)
    · exact BlockSends.refl
  · exact BlockSends.refl

theorem State.slcAcknowledge_sends (d : Level) (s : State) : BlockSends .slc s (s.slcAcknowledge d) := by
  unfold State.slcAcknowledge; split
  · dsimp only; split
    · exact (BlockSends.refl.setSlc _).emit rfl
    · exact BlockSends.refl.setSlc _
    · exact (BlockSends.refl.setSlc _).emit rfl
  · exact BlockSends.refl

theorem State.slcLineFault_sends (s : State) : BlockSends .slc s s.slcLineFault := by
  unfold State.slcLineFault; split
  · exact (BlockSends.refl.setSlc _).trans (State.enterLineFault_sends _)
  · exact BlockSends.refl

theorem State.slcLineRestored_sends (s : State) : BlockSends .slc s s.slcLineRestored := by
  unfold State.slcLineRestored; split
  · exact (BlockSends.refl.setSlc _).trans (State.enterLineOk_sends _)
  · exact BlockSends.refl

theorem State.slcFirstGap_sends (s : State) : BlockSends .slc s s.slcFirstGap := by
  unfold State.slcFirstGap; split
  · exact (BlockSends.refl.setSlc _).trans (State.enterLineOk_sends _)
  · exact BlockSends.refl

theorem State.slcClaim_sends (c : Claim) (s : State) : BlockSends .slc s (s.slcClaim c) := by
  unfold State.slcClaim; split
  · exact BlockSends.refl
  · exact BlockSends.refl.setSlc _

theorem State.slcStatus_sends (p : List Byte) (s : State) : BlockSends .slc s (s.slcStatus p) := by
  unfold State.slcStatus; split
  · exact BlockSends.refl
  · exact BlockSends.refl.setSlc _

theorem State.slcAnswer_sends (a : Answer) (s : State) : BlockSends .slc s (s.slcAnswer a) := by
  unfold State.slcAnswer; split
  · exact BlockSends.refl.emit rfl
  · split
    · exact BlockSends.refl
    · exact BlockSends.refl.setSlc _

theorem State.takeReadLineCounts_sends (s : State) : BlockSends .slc s s.takeReadLineCounts := BlockSends.refl.answer _ _

/-! ### The command handler, but for the commands it routes -/

theorem State.hand_sends (a : Answer) (s : State) : BlockSends .cmh s (s.hand a) := (BlockSends.refl.setCmh _).emit rfl

theorem State.produce_sends (a : Answer) (more : List Answer) (s : State) : BlockSends .cmh s (s.produce a more) := by
  unfold State.produce; split
  · exact (BlockSends.refl.setCmh _).trans (State.hand_sends _ _)
  · exact BlockSends.refl.setCmh _

theorem State.cmhAnswer_sends (r : Result) (d : List Byte) (s : State) : BlockSends .cmh s (s.cmhAnswer r d) := by
  unfold State.cmhAnswer; split
  · exact BlockSends.refl
  · exact State.produce_sends _ _ s

theorem State.cmhSlotEmpty_sends (s : State) : BlockSends .cmh s s.cmhSlotEmpty := by
  unfold State.cmhSlotEmpty; split
  · exact BlockSends.refl
  · exact BlockSends.refl.setCmh _

theorem State.answerHandover_sends (s : State) : BlockSends .cmh s s.answerHandover := by
  unfold State.answerHandover; split
  · exact BlockSends.refl
  · exact (BlockSends.refl.setCmh _).trans (State.hand_sends _ _)

theorem State.nextFrame_sends (s : State) : BlockSends .cmh s s.nextFrame := by
  unfold State.nextFrame; split
  · exact BlockSends.refl
  · exact (BlockSends.refl.setCmh _).trans (State.hand_sends _ _)

theorem State.takeConfigLoads_sends (p : List Byte) (s : State) : BlockSends .cmh s (s.takeConfigLoads p) := by
  unfold State.takeConfigLoads; split
  · exact BlockSends.refl.refuse _
  · exact (BlockSends.refl.setCmh _).answer _ _

theorem State.takeConfigDone_sends (s : State) : BlockSends .cmh s s.takeConfigDone := by
  unfold State.takeConfigDone; split
  · exact BlockSends.refl.refuse _
  · exact BlockSends.refl.setCmh _

theorem State.configure_sends (s : State) : BlockSends .cmh s s.configure := by
  unfold State.configure; split
  · exact BlockSends.refl
  · exact ((BlockSends.refl.setCmh _).emit rfl).answer _ _

theorem State.takeRestart_sends (s : State) : BlockSends .cmh s s.takeRestart := BlockSends.refl.answer _ _

theorem State.fillStatus_sends (s : State) : BlockSends .cmh s s.fillStatus := (BlockSends.refl.setCmh _).emit rfl

theorem State.cmhRunState_sends (s : State) : BlockSends .cmh s s.cmhRunState := by
  unfold State.cmhRunState; split
  · exact BlockSends.refl.setCmh _
  · exact State.fillStatus_sends s

theorem State.statusInterval_sends (s : State) : BlockSends .cmh s s.statusInterval := by
  unfold State.statusInterval; split
  · dsimp only; split
    · exact (BlockSends.refl.setCmh _).trans (State.fillStatus_sends _)
    · exact BlockSends.refl.setCmh _
  · exact BlockSends.refl

/-- FETCH_EVENTS takes entries from the event queue; the rest is the CMH's doing. -/
theorem State.takeFetchEvents_sends (s : State) : BlockSends .cmh s s.takeFetchEvents := by
  unfold State.takeFetchEvents; split
  · exact BlockSends.refl
  · dsimp only; split
    · exact BlockSends.refl
    · exact State.produce_sends _ _ (s.setEvq _)

/-! ### Every delivery -/

/-- The deliveries that come of a delivery are those of the block that takes it, but for a command. -/
theorem handle_sends (sig : Signal) (h : sig.isCommand = false) (s : State) : BlockSends sig.block s (handle sig s) := by
  cases sig with
  | dspDemands d => exact State.dspDemands_sends d s
  | dspBoiler d => exact State.dspBoiler_sends d s
  | dspLimit l => exact State.dspLimit_sends l s
  | dspFan l => exact State.dspFan_sends l s
  | dspLow c _ => exact State.dspLow_sends c s
  | dspTrip p a on => exact State.dspTrip_sends p a on s
  | dspConfigured r => exact State.dspConfigured_sends r s
  | clcDispatch a b => exact State.clcDispatch_sends a b s
  | clcRun r => exact State.clcRun_sends r s
  | clcStep l => exact State.clcStep_sends l s
  | clcUpdate => exact State.clcUpdate_sends s
  | clcAdjust a b c => exact State.clcAdjust_sends a b c s
  | clcTrip p a on => exact State.clcTrip_sends p a on s
  | clcProbe b _ => exact State.clcProbe_sends b s
  | clcVent b _ => exact State.clcVent_sends b s
  | clcGenerator g => exact State.clcGenerator_sends g s
  | clcConfigured r => exact State.clcConfigured_sends r s
  | iluClimate t b f => exact State.iluClimate_sends t b f s
  | iluRun r => exact State.iluRun_sends r s
  | iluGenerator g => exact State.iluGenerator_sends g s
  | iluDescale b => exact State.iluDescale_sends b s
  | iluFan n => exact State.iluFan_sends n s
  | iluHeat b => exact State.iluHeat_sends b s
  | iluConfigured => exact State.iluConfigured_sends s
  | sgcCooking v => exact State.sgcCooking_sends v s
  | sgcGrant b => exact State.sgcGrant_sends b s
  | sgcProgram r => exact State.sgcProgram_sends r s
  | sgcDrainOrder => exact State.sgcDrainOrder_sends s
  | sgcTank b c => exact State.sgcTank_sends b c s
  | sgcLow a b => exact State.sgcLow_sends a b s
  | sgcHigh b c => exact State.sgcHigh_sends b c s
  | sgcBoiler t => exact State.sgcBoiler_sends t s
  | sgcTrip p a on => exact State.sgcTrip_sends p a on s
  | sgcConfigured r => exact State.sgcConfigured_sends r s
  | sgcEntry => exact State.sgcEntry_sends s
  | sduRefill => exact State.sduRefill_sends s
  | sduFillEnded => exact State.sduFillEnded_sends s
  | sduDrainEnded => exact State.sduDrainEnded_sends s
  | sduWait b => exact State.sduWait_sends b s
  | sduGenerator g => exact State.sduGenerator_sends g s
  | sduBoiler t => exact State.sduBoiler_sends t s
  | sduTank b _ => exact State.sduTank_sends b s
  | sduRun r => exact State.sduRun_sends r s
  | sduConfigured r => exact State.sduConfigured_sends r s
  | sduScan v k => exact State.sduScan_sends v k s
  | rsqPreheat b => exact State.rsqPreheat_sends b s
  | rsqCore c => exact State.rsqCore_sends c s
  | rsqProbe b _ => exact State.rsqProbe_sends b s
  | rsqTrip p a on => exact State.rsqTrip_sends p a on s
  | rsqTank b => exact State.rsqTank_sends b s
  | rsqRunOnEnd => exact State.rsqRunOnEnd_sends s
  | rsqLocks a b => exact State.rsqLocks_sends a b s
  | rsqDescale b => exact State.rsqDescale_sends b s
  | rsqConfigured r => exact State.rsqConfigured_sends r s
  | rsqResumed => exact State.rsqResumed_sends s
  | rsqBegin r => exact State.rsqBegin_sends r s
  | rsqBegun => exact State.rsqBegun_sends s
  | rsqEntry => exact State.rsqEntry_sends s
  | lsuElementWant w => exact State.lsuElementWant_sends w s
  | lsuBoilerWant w => exact State.lsuBoilerWant_sends w s
  | lsuFloorClass f c => exact State.lsuFloorClass_sends f c s
  | lsuConfigured => exact State.lsuConfigured_sends s
  | lsuClaim n f w k => exact State.lsuClaim_sends n f w k s
  | lsuSent c => exact State.lsuSent_sends c s
  | lsuAbandoned => exact State.lsuAbandoned_sends s
  | lsuLineOk => exact State.lsuLineOk_sends s
  | lsuLineFault => exact State.lsuLineFault_sends s
  | lsuSilenced => exact State.lsuSilenced_sends s
  | slcClaim c => exact State.slcClaim_sends c s
  | slcAnswer a => exact State.slcAnswer_sends a s
  | slcStatus p => exact State.slcStatus_sends p s
  | slcCheckError => exact State.slcCheckError_sends s
  | stcRequest r => exact State.stcRequest_sends r s
  | cmhAnswer r d => exact State.cmhAnswer_sends r d s
  | cmhSlotEmpty => exact State.cmhSlotEmpty_sends s
  | cmhRunState => exact State.cmhRunState_sends s
  | cmhCommand c => simp [Signal.isCommand] at h

end Sys2Proof.Machine
end

section
/-! SUPPORT. The built-in trips at the dispatcher: they block the loads of their action sets exactly while they are
active, once the deliveries on their way are taken (R40, R166). -/

namespace Sys2Proof.Machine

/-! ### Items per trip place -/

theorem Eight.get_set {α : Type} (x : Eight α) (p q : Place) (v : α) :
    (x.set p v).get q = if q = p then v else x.get q := by
  fin_cases p <;> fin_cases q <;> rfl

theorem Eight.get_map {α β : Type} (f : α → β) (x : Eight α) (p : Place) : (x.map f).get p = f (x.get p) := by
  fin_cases p <;> rfl

theorem Places.get_none (p : Place) : Places.none.get p = false := by
  fin_cases p <;> rfl

theorem Places.any_of_get {x : Places} {p : Place} (h : x.get p = true) : x.any = true := by
  simp only [Places.any, Bool.or_eq_true]
  fin_cases p <;> simp_all [Eight.get]

/-! ### The trips on the bus -/

/-- R166: the delivery tells the DSP of a trip. -/
def Signal.isTrip : Signal → Bool
  | .dspTrip _ _ _ => true
  | _ => false

/-- R40, R166: whether a place is in the trip block set of a load, after a delivery. -/
def Signal.tripHeld (p : Place) (l : Load) (held : Bool) : Signal → Bool
  | .dspTrip q actions active => if q = p then active && (held || Actions.load actions l) else held
  | _ => held

theorem Signal.tripHeld_other {sig : Signal} (h : sig.isTrip = false) (p : Place) (l : Load) (held : Bool) :
    sig.tripHeld p l held = held := by
  cases sig with
  | dspTrip => cases h
  | _ => rfl

theorem Signal.rank_of_isTrip {sig : Signal} (h : sig.isTrip = true) : sig.rank = 0 := by
  cases sig with
  | dspTrip => rfl
  | _ => cases h

/-- Only the ILU delivers trips. -/
theorem Signal.isTrip_of_sends {sig : Signal} {k : Block} (hk : k ≠ .ilu) (h : k.sends sig = true) :
    sig.isTrip = false := by
  cases sig with
  | dspTrip =>
    have hsender : Block.ilu = k := by simpa [Block.sends, Signal.sender] using h
    exact absurd hsender.symm hk
  | _ => rfl

/-- Trips are taken before any continuation. -/
theorem Signal.filter_isTrip (sigs : List Signal) :
    sigs.filter Signal.isTrip = (sigs.filter (·.rank == 0)).filter Signal.isTrip := by
  rw [List.filter_filter]
  refine List.filter_congr fun sig _ => ?_
  cases h : sig.isTrip with
  | false => rfl
  | true => rw [Signal.rank_of_isTrip h]; rfl

/-- What counts for a trip block set is the trips on the bus. -/
theorem State.tripBlocks_eq (s : State) (p : Place) (l : Load) :
    s.tripBlocks p l = (s.bus.filter Signal.isTrip).foldl (fun held sig => sig.tripHeld p l held)
      ((s.dsp.loads.get l).tripBlock.get p) := by
  have htaken : s.tripBlocks p l =
      s.bus.foldl (fun held sig => sig.tripHeld p l held) ((s.dsp.loads.get l).tripBlock.get p) := by
    unfold State.tripBlocks
    refine congrFun (congrArg₂ _ ?_ rfl) _
    funext held sig
    cases sig <;> rfl
  rw [htaken, List.foldl_filter]
  refine congrFun (congrArg₂ _ ?_ rfl) _
  funext held sig
  split
  · rfl
  · next h => exact Signal.tripHeld_other (Bool.eq_false_iff.mpr h) p l held

/-- The deliveries of another block than the ILU are no trips. -/
theorem BlockSends.trips {k : Block} {s t : State} (h : BlockSends k s t) (hk : k ≠ .ilu) :
    t.bus.filter Signal.isTrip = s.bus.filter Signal.isTrip := by
  obtain ⟨sigs, hsigs, hbus⟩ := h
  have hnone : sigs.filter Signal.isTrip = [] := List.filter_eq_nil_iff.mpr fun sig hsig => by
    rw [Signal.isTrip_of_sends hk (List.all_eq_true.mp hsigs sig hsig)]
    exact Bool.false_ne_true
  rw [Signal.filter_isTrip, hbus, List.filter_append, ← Signal.filter_isTrip, ← Signal.filter_isTrip, hnone,
    List.append_nil]

/-! ### The invariant -/

/-- R40, R166: a built-in trip blocks the loads its action set names exactly while it is active. -/
def State.TripsDelivered (s : State) : Prop := ∀ p : Place, p.val < 4 → ∀ l,
  s.tripBlocks p l = ((s.ilu.terms.get p).active && Actions.load (s.ilu.actions p) l)

/-- Table 8-5: the built-in trips are at the first four places. -/
theorem Place.forall_builtIn {P : Place → Prop} :
    (∀ p : Place, p.val < 4 → P p) ↔ P .door ∧ P .cutout ∧ P .sensor ∧ P .dry := by
  refine ⟨fun h => ⟨h 0 (by decide), h 1 (by decide), h 2 (by decide), h 3 (by decide)⟩, ?_⟩
  rintro ⟨hdoor, hcutout, hsensor, hdry⟩ p hp
  match p, hp with
  | 0, _ => exact hdoor
  | 1, _ => exact hcutout
  | 2, _ => exact hsensor
  | 3, _ => exact hdry

theorem State.tripsDelivered_iff {s : State} : s.tripsDelivered = true ↔ s.TripsDelivered := by
  simp only [State.tripsDelivered, State.TripsDelivered, Place.forall_builtIn, List.all_eq_true, List.forall_mem_cons,
    List.not_mem_nil, false_implies, implies_true, and_true, Load.forall_mem_all, beq_iff_eq]

/-- Table 8-6: the action set of a built-in trip is fixed. -/
theorem Ilu.actions_builtIn (i j : Ilu) : ∀ {p : Place}, p.val < 4 → i.actions p = j.actions p :=
  @(Place.forall_builtIn.mpr ⟨rfl, rfl, rfl, rfl⟩)

/-- What leaves the trips delivered and on their way, and the trips active. -/
theorem State.TripsDelivered.congr {s t : State} (hs : s.TripsDelivered)
    (hblocks : ∀ p l, t.tripBlocks p l = s.tripBlocks p l)
    (hactive : ∀ p, (t.ilu.terms.get p).active = (s.ilu.terms.get p).active) : t.TripsDelivered := fun p hp l => by
  rw [hblocks, hs p hp l, hactive, Ilu.actions_builtIn t.ilu s.ilu hp]

theorem State.TripsDelivered.of_bus {s t : State} (hs : s.TripsDelivered)
    (hbus : t.bus.filter Signal.isTrip = s.bus.filter Signal.isTrip)
    (hplaces : ∀ l, (t.dsp.loads.get l).tripBlock = (s.dsp.loads.get l).tripBlock)
    (hactive : ∀ p, (t.ilu.terms.get p).active = (s.ilu.terms.get p).active) : t.TripsDelivered :=
  hs.congr (fun p l => by rw [State.tripBlocks_eq, State.tripBlocks_eq, hbus, hplaces]) hactive

/-- What differs in neither the bus, the DSP nor the ILU. -/
theorem State.TripsDelivered.of_same {s t : State} (hs : s.TripsDelivered) (hbus : t.bus = s.bus) (hdsp : t.dsp = s.dsp)
    (hilu : t.ilu = s.ilu) : t.TripsDelivered :=
  hs.of_bus (by rw [hbus]) (fun _ => by rw [hdsp]) fun _ => by rw [hilu]

/-! ### Other blocks -/

/-- What a block other than the DSP and the ILU does leaves the trips. -/
theorem State.TripsDelivered.own {s t : State} {k : Block} (hs : s.TripsDelivered) (hk : k ≠ .dsp ∧ k ≠ .ilu)
    (hstep : BlockStep k s t) (hsends : BlockSends k s t) : t.TripsDelivered :=
  hs.of_bus (hsends.trips hk.2) (fun _ => by rw [hstep.dsp hk.1]) fun _ => by rw [hstep.ilu hk.2]

/-! ### The dispatcher -/

theorem DspLoad.writeDemand_tripBlock (x : DspLoad) (n : Nat) : (x.writeDemand n).tripBlock = x.tripBlock := by
  rw [(x.writeDemand_eq n).1]

theorem Dsp.takeLimit_tripBlock (d : Dsp) (n : Nat) (l : Load) :
    ((d.takeLimit n).loads.get l).tripBlock = (d.loads.get l).tripBlock := by
  obtain hl | hl := d.takeLimit_get n l <;> rw [hl]
  rfl

theorem Dsp.expire_tripBlock (d : Dsp) (l : Load) : (d.expire.loads.get l).tripBlock = (d.loads.get l).tripBlock := by
  obtain ⟨-, -, hplaces, -⟩ := (d.switchOn_stepped l).charged
  rwa [Dsp.expire_get]

/-- No delivery to the DSP but a trip changes a trip block set. -/
theorem handle_tripBlock {sig : Signal} (hblock : sig.block = .dsp) (htrip : sig.isTrip = false) (s : State) (l : Load) :
    ((handle sig s).dsp.loads.get l).tripBlock = (s.dsp.loads.get l).tripBlock := by
  cases sig with
  | dspDemands w =>
    rw [handle, State.dspDemands, State.dspTo_dsp]
    cases l
    case boiler => rfl
    all_goals exact DspLoad.writeDemand_tripBlock _ _
  | dspBoiler w =>
    rw [handle, State.dspBoiler, State.dspTo_dsp]
    cases l
    case boiler => exact DspLoad.writeDemand_tripBlock _ _
    all_goals rfl
  | dspLimit n =>
    rw [handle, State.dspLimit_dsp]
    exact Dsp.takeLimit_tripBlock _ n l
  | dspFan n =>
    rw [handle, State.dspFan, State.dspTo_dsp]
    exact Dsp.reblock_tripBlock _ l
  | dspLow covered _ =>
    rw [handle, State.dspLow, State.dspTo_dsp]
    exact Dsp.reblock_tripBlock _ l
  | dspConfigured rated =>
    rw [handle, State.dspConfigured]
    split
    · rfl
    · rw [State.dspTo_dsp, Dsp.reblock_tripBlock]
      cases l <;> rfl
  | dspTrip => cases htrip
  | _ => cases hblock

/-- A trip on its way counts as it does once the DSP has taken it. -/
theorem Dsp.takeTrip_tripBlock (d : Dsp) (q : Place) (a : Word) (on : Bool) (p : Place) (l : Load) :
    ((d.takeTrip q a on).loads.get l).tripBlock.get p =
      (Signal.dspTrip q a on).tripHeld p l ((d.loads.get l).tripBlock.get p) := by
  rw [Dsp.takeTrip_get, Signal.tripHeld]
  by_cases hq : q = p
  · subst hq
    cases on <;> cases Actions.load a l <;> simp [Eight.get_set]
  · have hp : p ≠ q := fun h => hq h.symm
    cases on <;> cases Actions.load a l <;> simp [Eight.get_set, hq, hp]

/-- R40, R166: the DSP takes a trip off the bus. -/
theorem State.TripsDelivered.dspTrip {s : State} (hs : s.TripsDelivered) {q : Place} {a : Word} {on : Bool}
    {rest : List Signal} (hbus : s.bus = .dspTrip q a on :: rest) :
    (State.dspTrip q a on { s with bus := rest }).TripsDelivered := by
  refine hs.congr (fun p l => ?_) fun p => ?_
  · rw [State.tripBlocks_eq, State.tripBlocks_eq,
      (State.dspTrip_sends q a on { s with bus := rest }).trips (by decide), hbus, List.filter_cons_of_pos rfl,
      List.foldl_cons, State.dspTrip, State.dspTo_dsp, Dsp.reblock_tripBlock, Dsp.takeTrip_tripBlock]
  · rw [(State.dspTrip_block q a on { s with bus := rest }).ilu (by decide)]

/-! ### The interlock unit -/

/-- The trips of the ILU stand as they were. -/
theorem State.TripsDelivered.setIlu {s : State} (hs : s.TripsDelivered) {i : Ilu}
    (hi : ∀ p, (i.terms.get p).active = (s.ilu.terms.get p).active) : (s.setIlu i).TripsDelivered :=
  hs.of_bus rfl (fun _ => rfl) hi

theorem Ilu.setTerm_active {i : Ilu} {p : Place} {x : TermState} (h : x.active = (i.terms.get p).active) (q : Place) :
    ((i.setTerm p x).terms.get q).active = (i.terms.get q).active := by
  rw [Ilu.setTerm, Eight.get_set]
  split
  · next hq => rw [h, hq]
  · rfl

theorem State.TripsDelivered.setTerm {s : State} (hs : s.TripsDelivered) {p : Place} {x : TermState}
    (h : x.active = (s.ilu.terms.get p).active) : (s.setIlu (s.ilu.setTerm p x)).TripsDelivered :=
  hs.setIlu (Ilu.setTerm_active h)

theorem Ilu.beginTerm_active (i : Ilu) (p : Place) (begins : Bool) (q : Place) :
    ((i.beginTerm p begins).terms.get q).active = (i.terms.get q).active := by
  unfold Ilu.beginTerm; split
  · exact Ilu.setTerm_active (by rfl) q
  · rfl

/-- R166: a trip's activation or clearing is delivered with its action set. -/
theorem State.TripsDelivered.tripChange {s : State} (hs : s.TripsDelivered) (p : Place) (x : TermState) :
    ((s.setIlu (s.ilu.setTerm p x)).emit (tripSignals p (s.ilu.actions p) x.active)).TripsDelivered := fun q hq l => by
  have htrips : (Signal.inOrder (s.bus ++ tripSignals p (s.ilu.actions p) x.active)).filter Signal.isTrip =
      s.bus.filter Signal.isTrip ++ [.dspTrip p (s.ilu.actions p) x.active] := by
    rw [Signal.filter_isTrip, Signal.inOrder_filter_rank, ← Signal.filter_isTrip, List.filter_append]
    rfl
  have hactions : (s.ilu.setTerm p x).actions q = s.ilu.actions q := Ilu.actions_builtIn _ _ hq
  have hheld := hs q hq l
  rw [State.tripBlocks_eq] at hheld
  rw [State.tripBlocks_eq, State.emit_bus, State.setIlu_bus, htrips, List.foldl_append, State.emit_dsp, State.setIlu_dsp,
    hheld, State.emit_ilu, State.setIlu_ilu, hactions, List.foldl_cons, List.foldl_nil, Signal.tripHeld, Ilu.setTerm,
    Eight.get_set]
  by_cases hp : p = q
  · subst hp
    rw [if_pos rfl, if_pos rfl]
    cases x.active <;> cases Actions.load (s.ilu.actions p) l <;> simp
  · rw [if_neg hp, if_neg (Ne.symm hp)]

theorem State.TripsDelivered.tripSet {s : State} (hs : s.TripsDelivered) (p : Place) : (s.tripSet p).TripsDelivered :=
  State.TripsDelivered.tripChange (s := s.post .tripSet p.val (s.ilu.actions p)) (hs.of_same rfl rfl rfl) p _

theorem State.TripsDelivered.tripCleared {s : State} (hs : s.TripsDelivered) (p : Place) (byCommand : Bool) :
    (s.tripCleared p byCommand).TripsDelivered :=
  State.TripsDelivered.tripChange (s := s.post .tripCleared p.val (if byCommand then 1 else 0)) (hs.of_same rfl rfl rfl)
    p { s.ilu.terms.get p with active := false }

/-- A term recomputed: a trip that it sets or clears is delivered. -/
theorem State.TripsDelivered.evaluate {s : State} (hs : s.TripsDelivered) (p : Place) :
    (s.evaluate p).TripsDelivered := by
  have hterm := fun (x : TermState) (h : x.active = (s.ilu.terms.get p).active) => hs.setTerm h
  unfold State.evaluate; dsimp only; split
  · exact hs
  · split
    · exact hterm _ (by rfl)
    · split
      · split
        · exact hterm _ (by rfl)
        · split
          · exact (hterm _ (by rfl)).tripSet p
          · exact hterm _ (by rfl)
      · split
        · exact (hterm _ (by rfl)).tripCleared p false
        · exact hterm _ (by rfl)

theorem State.TripsDelivered.iluTo {s : State} (hs : s.TripsDelivered) {i : Ilu}
    (hi : ∀ p, (i.terms.get p).active = (s.ilu.terms.get p).active) : (s.iluTo i).TripsDelivered := by
  have heach : ∀ (ps : List Place) {t : State}, t.TripsDelivered →
      (ps.foldl (fun s p => s.evaluate p) t).TripsDelivered := by
    intro ps
    induction ps with
    | nil => exact fun h => h
    | cons p rest ih => exact fun h => ih (h.evaluate p)
  exact heach _ (hs.setIlu hi)

/-- A change of an input is no trip. -/
theorem inputSignals_trips (old new : Inputs InputState) : (inputSignals old new).filter Signal.isTrip = [] := by
  have hsigIf : ∀ c (sig : Signal), sig.isTrip = false → (sigIf c sig).filter Signal.isTrip = [] := fun c sig h => by
    cases c <;> simp [sigIf, h]
  have hboth : ∀ (c : Bool) (sigs : List Signal), sigs.filter Signal.isTrip = [] →
      (if c then sigs else []).filter Signal.isTrip = [] := fun c sigs h => by
    cases c <;> simp [h]
  simp only [inputSignals, List.filter_append, List.append_eq_nil_iff]
  exact ⟨⟨⟨⟨hboth _ _ rfl, hboth _ _ rfl⟩, hsigIf _ _ rfl⟩, hboth _ _ rfl⟩, hsigIf _ _ rfl⟩

theorem State.TripsDelivered.iluSample {s : State} (hs : s.TripsDelivered) (pins : Inputs Bool) :
    (s.iluSample pins).TripsDelivered := by
  have hemit : (s.emit (inputSignals s.ilu.inputs (takeSamples s.ilu.inputs pins))).TripsDelivered := by
    refine hs.of_bus ?_ (fun _ => rfl) fun _ => rfl
    rw [State.emit_bus, Signal.filter_isTrip, Signal.inOrder_filter_rank, ← Signal.filter_isTrip, List.filter_append,
      inputSignals_trips, List.append_nil]
  exact hemit.iluTo fun p => (Ilu.beginTerm_active _ _ _ p).trans (Ilu.beginTerm_active _ _ _ p)

/-- R158 to R162: a delivery to the ILU gives it new source values, or begins terms. -/
theorem handle_iluTo {sig : Signal} (hblock : sig.block = .ilu) (s : State) :
    ∃ i, handle sig s = s.iluTo i ∧ ∀ p, (i.terms.get p).active = (s.ilu.terms.get p).active := by
  cases sig with
  | iluClimate => rw [handle, State.iluClimate]; exact ⟨_, rfl, fun _ => rfl⟩
  | iluRun => rw [handle, State.iluRun]; exact ⟨_, rfl, fun _ => rfl⟩
  | iluGenerator => rw [handle, State.iluGenerator]; exact ⟨_, rfl, fun _ => rfl⟩
  | iluDescale => rw [handle, State.iluDescale]; exact ⟨_, rfl, fun _ => rfl⟩
  | iluFan => rw [handle, State.iluFan]; exact ⟨_, rfl, fun _ => rfl⟩
  | iluHeat => rw [handle, State.iluHeat]; exact ⟨_, rfl, fun _ => rfl⟩
  | iluConfigured =>
    rw [handle, State.iluConfigured]
    exact ⟨_, rfl, fun p => (Ilu.beginTerm_active _ _ _ p).trans <| (Ilu.beginTerm_active _ _ _ p).trans <|
      (Ilu.beginTerm_active _ _ _ p).trans (Ilu.beginTerm_active _ _ _ p)⟩
  | _ => cases hblock

theorem State.TripsDelivered.iluPersistence {s : State} (hs : s.TripsDelivered) (p : Place) :
    (s.iluPersistence p).TripsDelivered := by
  unfold State.iluPersistence; dsimp only; split
  · exact hs.tripSet p
  · exact hs

/-! ### Commands -/

theorem State.TripsDelivered.answer {s : State} (hs : s.TripsDelivered) (r : Result) (d : List Byte) :
    (s.answer r d).TripsDelivered :=
  hs.own (by decide) ((BlockStep.refl (k := .cmh)).answer r d) (BlockSends.refl.answer r d)

theorem State.TripsDelivered.refuse {s : State} (hs : s.TripsDelivered) (r : Result) : (s.refuse r).TripsDelivered :=
  hs.answer r []

/-- R168: CONFIG_TERM changes no trip. -/
theorem State.TripsDelivered.takeConfigTerm {s : State} (hs : s.TripsDelivered) (payload : List Byte) :
    (s.takeConfigTerm payload).TripsDelivered := by
  unfold State.takeConfigTerm; split
  · exact hs.refuse _
  · refine (hs.setIlu fun p => ?_).answer _ _
    split <;> rfl

/-- R165: CLEAR_TRIP. -/
theorem State.TripsDelivered.takeClearTrip {s : State} (hs : s.TripsDelivered) (payload : List Byte) :
    (s.takeClearTrip payload).TripsDelivered := by
  unfold State.takeClearTrip; dsimp only; split
  · split
    · exact hs.refuse _
    · split
      · exact hs.refuse _
      · exact (hs.tripCleared _ _).answer _ _
  · exact hs.refuse _

theorem State.TripsDelivered.takeFetchEvents {s : State} (hs : s.TripsDelivered) : s.takeFetchEvents.TripsDelivered := by
  obtain ⟨q, hq⟩ := State.takeFetchEvents_block s
  have hsends : BlockSends .cmh (s.setEvq q) s.takeFetchEvents := s.takeFetchEvents_sends
  exact State.TripsDelivered.own (s := s.setEvq q) (hs.of_same rfl rfl rfl) (by decide) hq hsends

theorem State.TripsDelivered.takeConfirm {s : State} (hs : s.TripsDelivered) : s.takeConfirm.TripsDelivered := by
  have hsgc := hs.own (by decide) s.sgcConfirm_block s.sgcConfirm_sends
  unfold State.takeConfirm; split
  · split
    · exact hsgc
    · exact hs.own (by decide) s.sduConfirm_block s.sduConfirm_sends
  · split
    · exact hsgc
    · exact hs.own (by decide) s.rsqConfirm_block s.rsqConfirm_sends

/-- Table 10-2: only CONFIG_TERM and CLEAR_TRIP go to the ILU, and none to the DSP. -/
theorem State.TripsDelivered.take {s : State} (hs : s.TripsDelivered) (code : Byte) (payload : List Byte) :
    (s.take code payload).TripsDelivered := by
  have other {k : Block} {t : State} (hk : k ≠ .dsp ∧ k ≠ .ilu) := hs.own (t := t) hk
  unfold State.take
  split
  · exact other (by decide) (s.takeConfigLoads_block payload) (s.takeConfigLoads_sends payload)
  · exact hs.takeConfigTerm payload
  · exact other (by decide) s.takeConfigDone_block s.takeConfigDone_sends
  · exact other (by decide) (s.takeStartManual_block payload) (s.takeStartManual_sends payload)
  · exact other (by decide) (s.takeRunRecipe_block payload) (s.takeRunRecipe_sends payload)
  · exact other (by decide) (s.takeAdjust_block payload) (s.takeAdjust_sends payload)
  · exact other (by decide) s.takePause_block s.takePause_sends
  · exact other (by decide) s.takeResume_block s.takeResume_sends
  · exact hs.takeConfirm
  · exact other (by decide) s.takeSkipStep_block s.takeSkipStep_sends
  · exact other (by decide) s.takeStop_block s.takeStop_sends
  · exact other (by decide) (s.takeStoreOpen_block payload) (s.takeStoreOpen_sends payload)
  · exact other (by decide) (s.takeStoreWrite_block payload) (s.takeStoreWrite_sends payload)
  · exact other (by decide) (s.takeStoreClose_block payload) (s.takeStoreClose_sends payload)
  · exact other (by decide) (s.takeStoreErase_block payload) (s.takeStoreErase_sends payload)
  · exact other (by decide) (s.takeStoreRead_block payload) (s.takeStoreRead_sends payload)
  · exact other (by decide) s.takeStoreList_block s.takeStoreList_sends
  · exact other (by decide) (s.takeSetHardness_block payload) (s.takeSetHardness_sends payload)
  · exact other (by decide) s.takeDescaleStart_block s.takeDescaleStart_sends
  · exact other (by decide) s.takeRinseStart_block s.takeRinseStart_sends
  · exact other (by decide) s.takeDescaleAbort_block s.takeDescaleAbort_sends
  · exact other (by decide) s.takeReadScale_block s.takeReadScale_sends
  · exact hs.takeFetchEvents
  · exact hs.takeClearTrip payload
  · exact other (by decide) (s.takeReadPeers_block payload) (s.takeReadPeers_sends payload)
  · exact other (by decide) s.takeReadLineCounts_block s.takeReadLineCounts_sends
  · exact other (by decide) s.takeRestart_block s.takeRestart_sends
  · exact hs

theorem State.TripsDelivered.cmhCommand {s : State} (hs : s.TripsDelivered) (c : Command) :
    (s.cmhCommand c).TripsDelivered := by
  have hbuffer : (s.setCmh { s.cmh with buffer := some c }).TripsDelivered := hs.of_same rfl rfl rfl
  unfold State.cmhCommand; dsimp only; split
  · unfold State.refuseDecoded; split
    · exact hbuffer.own (by decide) (State.refuseStoreWrite_block _ _) (State.refuseStoreWrite_sends _ _)
    · exact hbuffer.refuse _
  · exact hbuffer
  · split
    · exact hbuffer.of_same rfl rfl rfl
    · exact hbuffer.take _ _

theorem State.TripsDelivered.takeDeferred {s : State} (hs : s.TripsDelivered) : s.takeDeferred.TripsDelivered := by
  have hdeferred : (s.setCmh { s.cmh with deferred := false }).TripsDelivered := hs.of_same rfl rfl rfl
  unfold State.takeDeferred; dsimp only; split
  · exact hdeferred.take _ _
  · exact hdeferred

/-! ### Every step -/

/-- R166: taking a delivery off the bus keeps the trips delivered. -/
theorem keptByDeliveries_tripsDelivered : KeptByDeliveries State.TripsDelivered where
  delivered s sig rest hbus hs := by
    cases htrip : sig.isTrip with
    | true =>
      cases sig with
      | dspTrip q a on => exact hs.dspTrip hbus
      | _ => cases htrip
    | false =>
      have hrest : State.TripsDelivered { s with bus := rest } := by
        refine hs.of_bus ?_ (fun _ => rfl) fun _ => rfl
        rw [hbus, List.filter_cons_of_neg (by simp [htrip])]
      cases hcommand : sig.isCommand with
      | true =>
        cases sig with
        | cmhCommand c => exact hrest.cmhCommand c
        | _ => cases hcommand
      | false =>
        have hstep := handle_block sig hcommand { s with bus := rest }
        have hsends := handle_sends sig hcommand { s with bus := rest }
        by_cases hilu : sig.block = .ilu
        · obtain ⟨i, heq, hactive⟩ := handle_iluTo hilu { s with bus := rest }
          rw [heq]
          exact hrest.iluTo hactive
        · by_cases hdsp : sig.block = .dsp
          · refine hrest.of_bus (hsends.trips hilu) (handle_tripBlock hdsp htrip _) fun p => ?_
            rw [hstep.ilu hilu]
          · exact hrest.own ⟨hdsp, hilu⟩ hstep hsends

/-- Tables 2-6 and 8-8: after reset no trip is active, and none blocks a load. -/
theorem State.afterReset_tripsDelivered (cause : EventCode) (pins : Straps) (mem : List MemCell) (freeUse : Nat)
    (pending : List Instr) : (State.afterReset cause pins mem freeUse pending).TripsDelivered := fun p _ l => by
  have hplaces : (Dsp.afterReset.loads.get l).tripBlock = Places.none := by cases l <;> rfl
  have hactive : (Ilu.afterReset.terms.get p).active = false := by fin_cases p <;> rfl
  change (Dsp.afterReset.loads.get l).tripBlock.get p = ((Ilu.afterReset.terms.get p).active && _)
  rw [hplaces, Places.get_none, hactive, Bool.false_and]

theorem State.resetBy_tripsDelivered (cause : EventCode) (pins : Straps) (s : State) :
    (s.resetBy cause pins).TripsDelivered := by
  unfold State.resetBy; dsimp only; split
  · exact (State.afterReset_tripsDelivered _ _ _ _ _).own (by decide) (State.enterSilenced_block _)
      (State.enterSilenced_sends _)
  · exact State.afterReset_tripsDelivered _ _ _ _ _

theorem State.TripsDelivered.tick {s : State} (hs : s.TripsDelivered) : s.tick.TripsDelivered :=
  hs.of_bus rfl (fun _ => rfl) fun p =>
    (congrArg TermState.active (Eight.get_map TermState.tick s.ilu.terms p)).trans rfl

theorem State.TripsDelivered.perform {s : State} (hs : s.TripsDelivered) (k : FollowUp) :
    (perform k s).TripsDelivered := by
  have hread : (s.setStc { s.stc with readDone := none }).TripsDelivered := hs.of_same rfl rfl rfl
  cases k
  case restartTakesEffect => exact State.resetBy_tripsDelivered _ _ s
  case startReadComplete =>
    unfold Machine.perform; dsimp only; split
    · exact hread.own (by decide) (State.rsqStartRead_block _ _) (State.rsqStartRead_sends _ _)
    · exact hs
  case stepReadComplete =>
    unfold Machine.perform; dsimp only; split
    · exact hread.own (by decide) (State.rsqStepRead_block _ _) (State.rsqStepRead_sends _ _)
    · exact hs
  case storeRequestServed => exact hs.own (by decide) s.serveNext_block s.serveNext_sends
  case deferredConfigCommand => exact hs.takeDeferred
  case configuredReached => exact hs.own (by decide) s.configure_block s.configure_sends
  case answerHandover => exact hs.own (by decide) s.answerHandover_block s.answerHandover_sends
  case fetchEventsNextFrame => exact hs.own (by decide) s.nextFrame_block s.nextFrame_sends

/-- R32 to R35: a slot expiry changes no trip block set. -/
theorem State.TripsDelivered.dspSlotExpiry {s : State} (hs : s.TripsDelivered) : s.dspSlotExpiry.TripsDelivered := by
  refine hs.of_bus (s.dspSlotExpiry_sends.trips (by decide)) (fun l => ?_) fun p => ?_
  · rw [State.dspSlotExpiry_dsp, Dsp.expire_tripBlock]
  · rw [s.dspSlotExpiry_block.ilu (by decide)]

/-- The built-in trips stay delivered through everything a step consists of. -/
theorem kept_tripsDelivered : Kept State.TripsDelivered where
  toKeptByDeliveries := keptByDeliveries_tripsDelivered
  pending _ _ h := h.of_same rfl rfl rfl
  pins _ _ h := h.of_same rfl rfl rfl
  performed k _ h := h.perform k
  reset pins s _ := State.resetBy_tripsDelivered _ pins s
  tick _ h := h.tick
  dspSlotExpiry _ h := h.dspSlotExpiry
  iluSample pins _ h := h.iluSample pins
  iluPersistence p _ h := h.iluPersistence p
  clcMeasure a b c s h := h.own (by decide) (s.clcMeasure_block a b c) (s.clcMeasure_sends a b c)
  clcControlExpiry s h := h.own (by decide) s.clcControlExpiry_block s.clcControlExpiry_sends
  clcRunOnExpiry s h := h.own (by decide) s.clcRunOnExpiry_block s.clcRunOnExpiry_sends
  clcOpenExpiry s h := h.own (by decide) s.clcOpenExpiry_block s.clcOpenExpiry_sends
  clcCloseExpiry s h := h.own (by decide) s.clcCloseExpiry_block s.clcCloseExpiry_sends
  lsuListenExpiry s h := h.own (by decide) s.lsuListenExpiry_block s.lsuListenExpiry_sends
  lsuPeriodExpiry s h := h.own (by decide) s.lsuPeriodExpiry_block s.lsuPeriodExpiry_sends
  lsuIntervalExpiry s h := h.own (by decide) s.lsuIntervalExpiry_block s.lsuIntervalExpiry_sends
  lsuHoldOffExpiry s h := h.own (by decide) s.lsuHoldOffExpiry_block s.lsuHoldOffExpiry_sends
  lsuPeerSilent n s h := h.own (by decide) (State.lsuPeerSilent_block n s) (State.lsuPeerSilent_sends n s)
  lsuPeerLost n s h := h.own (by decide) (State.lsuPeerLost_block n s) (State.lsuPeerLost_sends n s)
  sgcFillTimeout s h := h.own (by decide) s.sgcFillTimeout_block s.sgcFillTimeout_sends
  sgcDrainExpiry s h := h.own (by decide) s.sgcDrainExpiry_block s.sgcDrainExpiry_sends
  sduSoakComplete s h := h.own (by decide) s.sduSoakComplete_block s.sduSoakComplete_sends
  rsqStepTimeEnd s h := h.own (by decide) s.rsqStepTimeEnd_block s.rsqStepTimeEnd_sends
  rsqPauseExpiry s h := h.own (by decide) s.rsqPauseExpiry_block s.rsqPauseExpiry_sends
  rsqRunCap s h := h.own (by decide) s.rsqRunCap_block s.rsqRunCap_sends
  stcScan s h := h.own (by decide) s.stcScan_block s.stcScan_sends
  storeOperationComplete kept s h :=
    h.own (by decide) (s.storeOperationComplete_block kept) (s.storeOperationComplete_sends kept)
  storeAbandon s h := h.own (by decide) s.storeAbandon_block s.storeAbandon_sends
  receive f others s _ h := h.own (by decide) (s.receive_block f others) (s.receive_sends f others)
  slcReceptionError cells s h := h.own (by decide) (s.slcReceptionError_block cells) (s.slcReceptionError_sends cells)
  slcStart s h := h.own (by decide) s.slcStart_block s.slcStart_sends
  slcLoss bit s h := h.own (by decide) (s.slcLoss_block bit) (s.slcLoss_sends bit)
  slcMismatch cell s h := h.own (by decide) (s.slcMismatch_block cell) (s.slcMismatch_sends cell)
  slcAcknowledge read s h := h.own (by decide) (s.slcAcknowledge_block read) (s.slcAcknowledge_sends read)
  slcLineFault s h := h.own (by decide) s.slcLineFault_block s.slcLineFault_sends
  slcLineRestored s h := h.own (by decide) s.slcLineRestored_block s.slcLineRestored_sends
  slcFirstGap s h := h.own (by decide) s.slcFirstGap_block s.slcFirstGap_sends
  fillStatus s h := h.own (by decide) s.fillStatus_block s.fillStatus_sends
  statusInterval s h := h.own (by decide) s.statusInterval_block s.statusInterval_sends

/-- R40: once every trip has been taken, a load named in the action set of an active built-in trip is blocked. -/
theorem State.TripsDelivered.isBlocked {s : State} (hs : s.TripsDelivered) (hbus : s.bus = []) {p : Place}
    (hp : p.val < 4) (hactive : (s.ilu.terms.get p).active = true) {l : Load} (hl : Actions.load (s.ilu.actions p) l = true) :
    s.dsp.isBlocked l = true := by
  have hheld : (s.dsp.loads.get l).tripBlock.get p = true := by
    have := hs p hp l
    rwa [State.tripBlocks_eq, hbus, List.filter_nil, List.foldl_nil, hactive, hl] at this
  rw [Dsp.isBlocked, Places.any_of_get hheld]
  rfl

/-- Settles O11: every delivery, command and follow-up step keeps what the trips on the bus will block in line with the
trips that are active; a load they block is off, as the dispatcher stays sound (O7). -/
theorem builtInTripsHoldLoadsOff : Obligations.BuiltInTripsHoldLoadsOff := by
  intro s t hs hsound ht
  have htrips := kept_tripsDelivered.step (State.tripsDelivered_iff.mp hs) ht
  have hdsp := Dsp.sound_iff.mp (dispatcherStaysSound s t hsound ht)
  exact ⟨State.tripsDelivered_iff.mpr htrips, fun hbus p hp hactive l hl =>
    hdsp.off (htrips.isBlocked hbus hp hactive hl)⟩

end Sys2Proof.Machine
end

section
/-! SUPPORT. The share's own matters, the LSU, the SLC, the limit at the dispatcher and the deliveries they go by, and what
leaves them alone; what a command can do to them. -/

namespace Sys2Proof.Machine

/-! ### The share's deliveries -/

/-- The deliveries by which the claims and the applied limit go (R56, R63, R66, R179). -/
def Signal.isShare : Signal → Bool
  | .dspLimit _ | .slcClaim _ | .lsuClaim _ _ _ _ | .lsuSent _ => true
  | _ => false

/-- The share's deliveries on the bus. -/
def State.shares (s : State) : List Signal := s.bus.filter Signal.isShare

theorem Signal.rank_of_isShare {sig : Signal} (h : sig.isShare = true) : sig.rank = 0 := by
  cases sig with
  | dspLimit | slcClaim | lsuClaim | lsuSent => rfl
  | _ => cases h

/-- Only the LSU and the SLC deliver them. -/
theorem Signal.isShare_of_sends {sig : Signal} {k : Block} (hk : k ≠ .lsu ∧ k ≠ .slc) (h : k.sends sig = true) :
    sig.isShare = false := by
  have hsender : ∀ j, sig.sender = some j → j = k := fun j hj => by
    simpa [Block.sends, hj] using h
  cases sig with
  | dspLimit | slcClaim => exact absurd (hsender .lsu rfl).symm hk.1
  | lsuClaim | lsuSent => exact absurd (hsender .slc rfl).symm hk.2
  | _ => rfl

/-- They are taken before any continuation. -/
theorem Signal.filter_isShare (sigs : List Signal) :
    sigs.filter Signal.isShare = (sigs.filter (·.rank == 0)).filter Signal.isShare := by
  rw [List.filter_filter]
  refine List.filter_congr fun sig _ => ?_
  cases h : sig.isShare with
  | false => rfl
  | true => rw [Signal.rank_of_isShare h]; rfl

@[simp] theorem State.emit_shares (s : State) (sigs : List Signal) :
    (s.emit sigs).shares = s.shares ++ sigs.filter Signal.isShare := by
  rw [State.shares, State.emit_bus, Signal.filter_isShare, Signal.inOrder_filter_rank, ← Signal.filter_isShare,
    List.filter_append]
  rfl

/-- The other blocks' deliveries leave them. -/
theorem BlockSends.shares {k : Block} {s t : State} (h : BlockSends k s t) (hk : k ≠ .lsu ∧ k ≠ .slc) :
    t.shares = s.shares := by
  obtain ⟨sigs, hsigs, hbus⟩ := h
  have hnone : sigs.filter Signal.isShare = [] := List.filter_eq_nil_iff.mpr fun sig hsig => by
    rw [Signal.isShare_of_sends hk (List.all_eq_true.mp hsigs sig hsig)]
    exact Bool.false_ne_true
  rw [State.shares, Signal.filter_isShare, hbus, List.filter_append, ← Signal.filter_isShare, ← Signal.filter_isShare,
    hnone, List.append_nil, State.shares]

/-! ### Doings aside from the share -/

/-- From one state to another without a change to the LSU, the SLC, the strap levels, the limit at the dispatcher and the
share's deliveries; the CONFIGURED state and the scan are not undone (R146, R186). -/
structure State.OffShare (s t : State) : Prop where
  lsu        : t.lsu = s.lsu
  slc        : t.slc = s.slc
  pins       : t.pins = s.pins
  limit      : t.dsp.limit = s.dsp.limit
  shares     : t.shares = s.shares
  configured : s.cmh.configured = true → t.cmh.configured = true
  scanned    : s.stc.scanned = true → t.stc.scanned = true

theorem State.OffShare.refl (s : State) : s.OffShare s := ⟨rfl, rfl, rfl, rfl, rfl, id, id⟩

theorem State.OffShare.trans {s t u : State} (h : s.OffShare t) (h' : t.OffShare u) : s.OffShare u :=
  ⟨h'.lsu.trans h.lsu, h'.slc.trans h.slc, h'.pins.trans h.pins, h'.limit.trans h.limit, h'.shares.trans h.shares,
    h'.configured ∘ h.configured, h'.scanned ∘ h.scanned⟩

/-- The doings of the blocks whose matters these are not. -/
theorem BlockStep.offShare {k : Block} {s t : State} (h : BlockStep k s t) (h' : BlockSends k s t)
    (hk : k = .clc ∨ k = .sgc ∨ k = .sdu ∨ k = .rsq ∨ k = .ilu) : s.OffShare t := by
  obtain rfl | rfl | rfl | rfl | rfl := hk <;>
    exact ⟨h.lsu (by decide), h.slc (by decide), h.pins, congrArg Dsp.limit (h.dsp (by decide)), h'.shares (by decide),
      fun hc => (congrArg Cmh.configured (h.cmh (by decide))).trans hc,
      fun hs => (congrArg Stc.scanned (h.stc (by decide))).trans hs⟩

/-- The doings of the DSP, but for a new limit. -/
theorem BlockStep.offShare_dsp {s t : State} (h : BlockStep .dsp s t) (h' : BlockSends .dsp s t)
    (hlimit : t.dsp.limit = s.dsp.limit) : s.OffShare t :=
  ⟨h.lsu (by decide), h.slc (by decide), h.pins, hlimit, h'.shares (by decide),
    fun hc => (congrArg Cmh.configured (h.cmh (by decide))).trans hc,
    fun hs => (congrArg Stc.scanned (h.stc (by decide))).trans hs⟩

/-- The doings of the STC do not undo the scan. -/
theorem BlockStep.offShare_stc {s t : State} (h : BlockStep .stc s t) (h' : BlockSends .stc s t)
    (hscanned : s.stc.scanned = true → t.stc.scanned = true) : s.OffShare t :=
  ⟨h.lsu (by decide), h.slc (by decide), h.pins, congrArg Dsp.limit (h.dsp (by decide)), h'.shares (by decide),
    fun hc => (congrArg Cmh.configured (h.cmh (by decide))).trans hc, hscanned⟩

/-- The doings of the CMH do not undo the CONFIGURED state. -/
theorem BlockStep.offShare_cmh {s t : State} (h : BlockStep .cmh s t) (h' : BlockSends .cmh s t)
    (hconfigured : s.cmh.configured = true → t.cmh.configured = true) : s.OffShare t :=
  ⟨h.lsu (by decide), h.slc (by decide), h.pins, congrArg Dsp.limit (h.dsp (by decide)), h'.shares (by decide),
    hconfigured, fun hs => (congrArg Stc.scanned (h.stc (by decide))).trans hs⟩

/-! ### The store controller keeps the scan -/

theorem State.storeDone_scanned (r : StoreRequest) (s : State) : (s.storeDone r).stc.scanned = s.stc.scanned := by
  unfold State.storeDone
  dsimp only
  split
  case h_3 => split <;> rfl
  all_goals rfl

theorem State.storeFailed_scanned (r : StoreRequest) (w : Option Nat) (s : State) :
    (s.storeFailed r w).stc.scanned = s.stc.scanned := by
  unfold State.storeFailed
  dsimp only
  split
  case h_3 => split <;> rfl
  all_goals rfl

theorem State.serve_scanned (r : StoreRequest) (s : State) : (s.serve r).stc.scanned = s.stc.scanned := by
  unfold State.serve
  dsimp only
  split
  case h_2 => split <;> rfl
  case h_3 =>
    split
    · split <;> rfl
    · rfl
  case h_9 => split <;> rfl
  all_goals rfl

theorem State.serveNext_scanned (s : State) : s.serveNext.stc.scanned = s.stc.scanned := by
  unfold State.serveNext
  split
  · rfl
  · exact State.serve_scanned _ _

theorem State.stcRequest_scanned (r : StoreRequest) (s : State) : (s.stcRequest r).stc.scanned = s.stc.scanned := by
  unfold State.stcRequest
  split
  · exact State.serve_scanned _ _
  · rfl

theorem State.storeOperationComplete_scanned (kept : List (Nat × Word)) (s : State) :
    (s.storeOperationComplete kept).stc.scanned = s.stc.scanned := by
  unfold State.storeOperationComplete
  split
  · rfl
  · dsimp only
    split
    · split
      · rfl
      · exact (State.serveNext_scanned _).trans (State.storeDone_scanned _ _)
    · split
      · exact (State.serveNext_scanned _).trans (State.storeFailed_scanned _ _ _)
      · rfl

theorem State.stcScan_scanned {s : State} (h : s.stc.scanned = true) : s.stcScan.stc.scanned = true := by
  unfold State.stcScan
  rwa [h, Bool.true_or, if_pos rfl]

theorem State.storeAbandon_scanned (s : State) : s.storeAbandon.stc.scanned = s.stc.scanned := by
  unfold State.storeAbandon
  split
  · rfl
  · split <;> rfl

theorem State.takeStoreOpen_scanned (p : List Byte) (s : State) :
    (s.takeStoreOpen p).stc.scanned = s.stc.scanned := by
  unfold State.takeStoreOpen
  dsimp only
  split
  · rfl
  · split
    · rfl
    · split
      · rfl
      · exact State.stcRequest_scanned _ s

theorem State.takeStoreWrite_scanned (p : List Byte) (s : State) :
    (s.takeStoreWrite p).stc.scanned = s.stc.scanned := by
  unfold State.takeStoreWrite
  dsimp only
  split
  · rfl
  · split
    · rfl
    · exact State.stcRequest_scanned _ _

theorem State.takeStoreClose_scanned (p : List Byte) (s : State) :
    (s.takeStoreClose p).stc.scanned = s.stc.scanned := by
  unfold State.takeStoreClose
  split
  · rfl
  · exact State.stcRequest_scanned _ _

theorem State.takeStoreErase_scanned (p : List Byte) (s : State) :
    (s.takeStoreErase p).stc.scanned = s.stc.scanned := by
  unfold State.takeStoreErase
  dsimp only
  split
  · rfl
  · split
    · rfl
    · exact State.stcRequest_scanned _ s

theorem State.takeStoreRead_scanned (p : List Byte) (s : State) :
    (s.takeStoreRead p).stc.scanned = s.stc.scanned := by
  unfold State.takeStoreRead
  dsimp only
  split
  · rfl
  · exact State.stcRequest_scanned _ s

/-! ### The command handler keeps the CONFIGURED state -/

theorem State.produce_configured (a : Answer) (more : List Answer) (s : State) :
    (s.produce a more).cmh.configured = s.cmh.configured := by
  unfold State.produce
  split <;> rfl

theorem State.cmhAnswer_configured (r : Result) (d : List Byte) (s : State) :
    (s.cmhAnswer r d).cmh.configured = s.cmh.configured := by
  unfold State.cmhAnswer
  split
  · rfl
  · exact State.produce_configured _ _ s

theorem State.cmhSlotEmpty_configured (s : State) : s.cmhSlotEmpty.cmh.configured = s.cmh.configured := by
  unfold State.cmhSlotEmpty
  split <;> rfl

theorem State.answerHandover_configured (s : State) : s.answerHandover.cmh.configured = s.cmh.configured := by
  unfold State.answerHandover
  split <;> rfl

theorem State.nextFrame_configured (s : State) : s.nextFrame.cmh.configured = s.cmh.configured := by
  unfold State.nextFrame
  split <;> rfl

theorem State.takeConfigLoads_configured (p : List Byte) (s : State) :
    (s.takeConfigLoads p).cmh.configured = s.cmh.configured := by
  unfold State.takeConfigLoads
  split <;> rfl

theorem State.takeConfigDone_configured (s : State) : s.takeConfigDone.cmh.configured = s.cmh.configured := by
  unfold State.takeConfigDone
  split <;> rfl

theorem State.configure_configured {s : State} (h : s.cmh.configured = true) : s.configure.cmh.configured = true := by
  unfold State.configure
  split
  · exact h
  · rfl

theorem State.cmhRunState_configured (s : State) : s.cmhRunState.cmh.configured = s.cmh.configured := by
  unfold State.cmhRunState
  split <;> rfl

theorem State.statusInterval_configured (s : State) : s.statusInterval.cmh.configured = s.cmh.configured := by
  unfold State.statusInterval
  split
  · dsimp only
    split <;> rfl
  · rfl

theorem State.takeFetchEvents_configured (s : State) : s.takeFetchEvents.cmh.configured = s.cmh.configured := by
  unfold State.takeFetchEvents
  split
  · rfl
  · dsimp only
    split
    · rfl
    · exact State.produce_configured _ _ (s.setEvq _)

/-! ### Deliveries of the interlock unit -/

theorem inputSignals_sends (old new : Inputs InputState) : Block.ilu.Sends (inputSignals old new) :=
  .append (.append (.append (.append (.ite rfl rfl) (.ite rfl rfl)) .sigIf) (.ite rfl rfl)) .sigIf

theorem State.iluSample_sends (pins : Inputs Bool) (s : State) : BlockSends .ilu s (s.iluSample pins) :=
  (BlockSends.refl.emit (inputSignals_sends _ _)).trans (State.iluTo_sends _ _)

theorem State.iluPersistence_sends (p : Place) (s : State) : BlockSends .ilu s (s.iluPersistence p) := by
  unfold State.iluPersistence
  dsimp only
  split
  · exact State.tripSet_sends p s
  · exact BlockSends.refl

theorem State.takeConfigTerm_sends (p : List Byte) (s : State) : BlockSends .ilu s (s.takeConfigTerm p) := by
  unfold State.takeConfigTerm
  split
  · exact BlockSends.refl.refuse _
  · exact (BlockSends.refl.setIlu _).answer _ _

theorem State.takeClearTrip_sends (p : List Byte) (s : State) : BlockSends .ilu s (s.takeClearTrip p) := by
  unfold State.takeClearTrip
  dsimp only
  split
  · split
    · exact BlockSends.refl.refuse _
    · split
      · exact BlockSends.refl.refuse _
      · exact (State.tripCleared_sends _ _ s).answer _ _
  · exact BlockSends.refl.refuse _

/-! ### Commands -/

theorem State.answer_offShare (r : Result) (d : List Byte) (s : State) : s.OffShare (s.answer r d) :=
  ((BlockStep.refl (k := .clc)).answer r d).offShare (BlockSends.refl.answer r d) (.inl rfl)

theorem State.takeFetchEvents_offShare (s : State) : s.OffShare s.takeFetchEvents := by
  obtain ⟨q, hq⟩ := State.takeFetchEvents_block s
  have hsends : BlockSends .cmh (s.setEvq q) s.takeFetchEvents := s.takeFetchEvents_sends
  exact State.OffShare.trans (t := s.setEvq q) ⟨rfl, rfl, rfl, rfl, rfl, id, id⟩
    (hq.offShare_cmh hsends fun hc => (State.takeFetchEvents_configured s).trans hc)

theorem State.takeReadPeers_offShare (payload : List Byte) (s : State) : s.OffShare (s.takeReadPeers payload) := by
  unfold State.takeReadPeers
  split <;> exact State.answer_offShare _ _ s

theorem State.takeConfirm_offShare (s : State) : s.OffShare s.takeConfirm := by
  have hsgc := s.sgcConfirm_block.offShare s.sgcConfirm_sends (by simp)
  unfold State.takeConfirm
  split
  · split
    · exact hsgc
    · exact s.sduConfirm_block.offShare s.sduConfirm_sends (by simp)
  · split
    · exact hsgc
    · exact s.rsqConfirm_block.offShare s.rsqConfirm_sends (by simp)

/-- Table 10-2: the commands taken read the LSU and the SLC, and change neither. -/
theorem State.take_offShare (code : Byte) (payload : List Byte) (s : State) : s.OffShare (s.take code payload) := by
  have rsq {t : State} (h : BlockStep .rsq s t) (h' : BlockSends .rsq s t) := h.offShare h' (by simp)
  have sdu {t : State} (h : BlockStep .sdu s t) (h' : BlockSends .sdu s t) := h.offShare h' (by simp)
  have ilu {t : State} (h : BlockStep .ilu s t) (h' : BlockSends .ilu s t) := h.offShare h' (by simp)
  have stc {t : State} (h : BlockStep .stc s t) (h' : BlockSends .stc s t) (hs : t.stc.scanned = s.stc.scanned) :=
    h.offShare_stc h' hs.trans
  have cmh {t : State} (h : BlockStep .cmh s t) (h' : BlockSends .cmh s t)
      (hc : t.cmh.configured = s.cmh.configured) := h.offShare_cmh h' hc.trans
  unfold State.take
  split
  · exact cmh (s.takeConfigLoads_block payload) (s.takeConfigLoads_sends payload) (s.takeConfigLoads_configured payload)
  · exact ilu (s.takeConfigTerm_block payload) (s.takeConfigTerm_sends payload)
  · exact cmh s.takeConfigDone_block s.takeConfigDone_sends s.takeConfigDone_configured
  · exact rsq (s.takeStartManual_block payload) (s.takeStartManual_sends payload)
  · exact rsq (s.takeRunRecipe_block payload) (s.takeRunRecipe_sends payload)
  · exact rsq (s.takeAdjust_block payload) (s.takeAdjust_sends payload)
  · exact rsq s.takePause_block s.takePause_sends
  · exact rsq s.takeResume_block s.takeResume_sends
  · exact s.takeConfirm_offShare
  · exact rsq s.takeSkipStep_block s.takeSkipStep_sends
  · exact rsq s.takeStop_block s.takeStop_sends
  · exact stc (s.takeStoreOpen_block payload) (s.takeStoreOpen_sends payload) (s.takeStoreOpen_scanned payload)
  · exact stc (s.takeStoreWrite_block payload) (s.takeStoreWrite_sends payload) (s.takeStoreWrite_scanned payload)
  · exact stc (s.takeStoreClose_block payload) (s.takeStoreClose_sends payload) (s.takeStoreClose_scanned payload)
  · exact stc (s.takeStoreErase_block payload) (s.takeStoreErase_sends payload) (s.takeStoreErase_scanned payload)
  · exact stc (s.takeStoreRead_block payload) (s.takeStoreRead_sends payload) (s.takeStoreRead_scanned payload)
  · exact stc s.takeStoreList_block s.takeStoreList_sends (State.stcRequest_scanned _ s)
  · exact sdu (s.takeSetHardness_block payload) (s.takeSetHardness_sends payload)
  · exact sdu s.takeDescaleStart_block s.takeDescaleStart_sends
  · exact sdu s.takeRinseStart_block s.takeRinseStart_sends
  · exact sdu s.takeDescaleAbort_block s.takeDescaleAbort_sends
  · exact s.answer_offShare _ _
  · exact s.takeFetchEvents_offShare
  · exact ilu (s.takeClearTrip_block payload) (s.takeClearTrip_sends payload)
  · exact s.takeReadPeers_offShare payload
  · exact s.answer_offShare _ _
  · exact s.answer_offShare _ _
  · exact .refl s

theorem State.cmhCommand_offShare (c : Command) (s : State) : s.OffShare (s.cmhCommand c) := by
  have hbuffer : s.OffShare (s.setCmh { s.cmh with buffer := some c }) := ⟨rfl, rfl, rfl, rfl, rfl, id, id⟩
  refine hbuffer.trans ?_
  unfold State.cmhCommand
  dsimp only
  split
  · unfold State.refuseDecoded
    split
    · exact (State.refuseStoreWrite_block _ _).offShare_stc (State.refuseStoreWrite_sends _ _) id
    · exact State.answer_offShare _ _ _
  · exact .refl _
  · split
    · exact ⟨rfl, rfl, rfl, rfl, rfl, id, id⟩
    · exact State.take_offShare _ _ _

theorem State.takeDeferred_offShare (s : State) : s.OffShare s.takeDeferred := by
  have hdeferred : s.OffShare (s.setCmh { s.cmh with deferred := false }) := ⟨rfl, rfl, rfl, rfl, rfl, id, id⟩
  refine hdeferred.trans ?_
  unfold State.takeDeferred
  dsimp only
  split
  · exact State.take_offShare _ _ _
  · exact .refl _

/-! ### Deliveries and follow-up steps -/

theorem Dsp.shed_limit (ls : List Load) (d : Dsp) : (Dsp.shed ls d).limit = d.limit := by
  induction ls generalizing d with
  | nil => rfl
  | cons l ls ih =>
    rw [Dsp.shed]
    split
    · rfl
    · exact ih _

theorem Dsp.takeLimit_limit (d : Dsp) (n : Nat) : (d.takeLimit n).limit = n := Dsp.shed_limit _ _

theorem Dsp.expire_limit (d : Dsp) : d.expire.limit = d.limit := by
  rw [d.expire_other]

/-- A delivery to another block than the LSU and the SLC, other than a new limit. -/
theorem handle_offShare (sig : Signal) (hlsu : sig.block ≠ .lsu) (hslc : sig.block ≠ .slc)
    (hlimit : sig.isShare = false) (s : State) : s.OffShare (handle sig s) := by
  cases hcommand : sig.isCommand with
  | true =>
    cases sig with
    | cmhCommand c => exact State.cmhCommand_offShare c s
    | _ => cases hcommand
  | false =>
    have hstep := handle_block sig hcommand s
    have hsends := handle_sends sig hcommand s
    cases hblock : sig.block <;> rw [hblock] at hstep hsends
    case lsu => exact absurd hblock hlsu
    case slc => exact absurd hblock hslc
    case clc | sgc | sdu | rsq | ilu => exact hstep.offShare hsends (by simp)
    case dsp =>
      refine hstep.offShare_dsp hsends ?_
      have hto (new : Dsp) (hnew : new.limit = s.dsp.limit) : (s.dspTo new []).dsp.limit = s.dsp.limit := by
        rw [State.dspTo_dsp, hnew]
      cases sig with
      | dspLimit => cases hlimit
      | dspConfigured r =>
        rw [handle, State.dspConfigured]
        split
        · rfl
        · exact hto _ rfl
      | dspDemands | dspBoiler | dspFan | dspLow | dspTrip => exact hto _ rfl
      | _ => cases hblock
    case stc =>
      refine hstep.offShare_stc hsends ?_
      cases sig with
      | stcRequest r => exact (State.stcRequest_scanned r s).trans
      | _ => cases hblock
    case cmh =>
      refine hstep.offShare_cmh hsends ?_
      cases sig with
      | cmhAnswer r d => exact (State.cmhAnswer_configured r d s).trans
      | cmhSlotEmpty => exact s.cmhSlotEmpty_configured.trans
      | cmhRunState => exact s.cmhRunState_configured.trans
      | cmhCommand => cases hcommand
      | _ => cases hblock

/-- A follow-up step but for a restart. -/
theorem perform_offShare {k : FollowUp} (hk : k ≠ .restartTakesEffect) (s : State) : s.OffShare (perform k s) := by
  have hread : s.OffShare (s.setStc { s.stc with readDone := none }) := ⟨rfl, rfl, rfl, rfl, rfl, id, id⟩
  cases k
  case restartTakesEffect => exact absurd rfl hk
  case startReadComplete =>
    unfold perform
    dsimp only
    split
    · exact hread.trans ((State.rsqStartRead_block _ _).offShare (State.rsqStartRead_sends _ _) (by simp))
    · exact .refl s
  case stepReadComplete =>
    unfold perform
    dsimp only
    split
    · exact hread.trans ((State.rsqStepRead_block _ _).offShare (State.rsqStepRead_sends _ _) (by simp))
    · exact .refl s
  case storeRequestServed =>
    exact s.serveNext_block.offShare_stc s.serveNext_sends s.serveNext_scanned.trans
  case deferredConfigCommand => exact s.takeDeferred_offShare
  case configuredReached => exact s.configure_block.offShare_cmh s.configure_sends State.configure_configured
  case answerHandover =>
    exact s.answerHandover_block.offShare_cmh s.answerHandover_sends s.answerHandover_configured.trans
  case fetchEventsNextFrame => exact s.nextFrame_block.offShare_cmh s.nextFrame_sends s.nextFrame_configured.trans

end Sys2Proof.Machine
end

section
/-! SUPPORT. What the LSU and the SLC do: the ways in which the LSU takes a new state, and what the SLC keeps of the claims
it holds (R48 to R71, R170 to R182). -/

namespace Sys2Proof.Machine

/-! ### The LSU -/

/-- The ways in which the LSU comes to a new state, before its allowance and its limit are brought up to date; a sent and a
received claim come with their deliveries only. -/
inductive Lsu.Takes (l : Lsu) : Option Signal → Lsu → Prop where
  | timers {sig} (listen period interval : Option Nat) :
    Lsu.Takes l sig { l with listen := listen, claimPeriod := period, minInterval := interval }
  | inputs {sig} (new : Lsu) (inputs : new = { l with
      elementWant := new.elementWant, boilerWant := new.boilerWant, floorInput := new.floorInput,
      classInput := new.classInput, configured := new.configured }) :
    Lsu.Takes l sig { new with dc := new.demandClaim }
  | cleared {sig} (c : Claim) (pending : l.pc = some c) :
    Lsu.Takes l sig { l with cc := c, pc := none, holdOff := none }
  | sent (c : Claim) (shares : l.mode ≠ .waiting ∧ l.mode ≠ .isolated) :
    Lsu.Takes l (some (.lsuSent c))
      { l.takeSent c with claimPeriod := some 1000, minInterval := some 200, mode := .sharing }
  | claim (source : Fin 8) (floor want cls : Nat) (valid : claimFieldsValid floor want cls = true) :
    Lsu.Takes l (some (.lsuClaim source floor want cls))
      (l.withPeers (putPeer ⟨source.val, false, floor, want, cls, 0⟩ l.peers))
  | silent {sig} (p : Peer) (entry : findPeer p.station l.peers = some p) :
    Lsu.Takes l sig (l.withPeers (putPeer { p with silent := true, age := 3500 } l.peers))
  | lost {sig} (station : Nat) : Lsu.Takes l sig (l.withPeers (l.peers.filter (·.station != station)))
  | listens {sig} (waiting : l.mode = .waiting) : Lsu.Takes l sig { l with mode := .listening, listen := some 3500 }
  | recovers {sig} (isolated : l.mode = .isolated) :
    Lsu.Takes l sig { l with
      mode := .recovering, cc := ⟨min l.dc.floor l.limit, l.limit, l.dc.cls⟩, listen := some 3500 }
  | isolates {sig} (silenced : Bool) (kept : l.silenced = true → silenced = true) :
    Lsu.Takes l sig (Lsu.isolate { l with silenced := silenced })
  | silenced {sig} (isolated : l.mode = .isolated) : Lsu.Takes l sig { l with silenced := true }

/-- What the LSU does at a delivery, or on its own account: nothing, a check error reported (R56), or a new state taken,
with its demand claim handed over or not. -/
inductive State.LsuStep (sig : Option Signal) (s : State) : State → Prop where
  | nothing : State.LsuStep sig s s
  | checkError : State.LsuStep sig s (s.emit [.slcCheckError])
  | takes (q : Evq) (new : Lsu) (after : List Signal) (new_of : s.lsu.Takes sig new)
      (after_of : after = [] ∨ after = [.slcClaim new.dc]) : State.LsuStep sig s ((s.setEvq q).lsuTo new after)

theorem sigIf_cases (c : Bool) (sig : Signal) : sigIf c sig = [] ∨ sigIf c sig = [sig] := by
  cases c
  · exact .inl rfl
  · exact .inr rfl

theorem State.claimChange_cases (l : Lsu) (s : State) : s.claimChange l = [] ∨ s.claimChange l = [.slcClaim l.dc] := by
  unfold State.claimChange
  split
  · exact sigIf_cases _ _
  · exact sigIf_cases _ _
  · exact sigIf_cases _ _
  · exact .inl rfl

section
variable {sig : Option Signal} (s : State)

theorem State.lsuInputs_step (new : Lsu) (inputs : new = { s.lsu with
    elementWant := new.elementWant, boilerWant := new.boilerWant, floorInput := new.floorInput,
    classInput := new.classInput, configured := new.configured }) : State.LsuStep sig s (s.lsuInputs new) := by
  refine .takes s.evq _ _ (.inputs new inputs) ?_
  split
  · exact .inl rfl
  · exact State.claimChange_cases _ s

theorem State.lsuListenExpiry_step : State.LsuStep sig s s.lsuListenExpiry := by
  unfold State.lsuListenExpiry
  split
  · exact .takes s.evq _ _ (.timers none _ _) (.inr rfl)
  · exact .nothing

theorem State.lsuPeriodExpiry_step : State.LsuStep sig s s.lsuPeriodExpiry := by
  unfold State.lsuPeriodExpiry
  split
  · refine .takes s.evq _ _ (.timers _ none _) ?_
    split
    case h_4 => exact .inl rfl
    all_goals exact .inr rfl
  · exact .nothing

theorem State.lsuIntervalExpiry_step : State.LsuStep sig s s.lsuIntervalExpiry := by
  unfold State.lsuIntervalExpiry
  split
  · exact .takes s.evq _ _ (.timers _ _ none) (sigIf_cases _ _)
  · exact .nothing

theorem State.lsuHoldOffExpiry_step : State.LsuStep sig s s.lsuHoldOffExpiry := by
  unfold State.lsuHoldOffExpiry
  split
  · next hpc => exact .takes s.evq _ _ (.cleared _ hpc) (.inl rfl)
  · exact .nothing

theorem State.lsuSent_step (c : Claim) : State.LsuStep (some (.lsuSent c)) s (s.lsuSent c) := by
  unfold State.lsuSent
  split
  · exact .nothing
  · exact .nothing
  · next hwaiting hisolated => exact .takes s.evq _ _ (.sent c ⟨hwaiting, hisolated⟩) (.inl rfl)

theorem State.lsuAbandoned_step : State.LsuStep sig s s.lsuAbandoned := by
  unfold State.lsuAbandoned
  split
  · exact .nothing
  · exact .nothing
  · exact .takes s.evq _ _ (.timers _ (some 1000) _) (.inl rfl)

theorem State.lsuClaim_step (source : Fin 8) (floor want cls : Nat) :
    State.LsuStep (some (.lsuClaim source floor want cls)) s (s.lsuClaim source floor want cls) := by
  unfold State.lsuClaim
  split
  · next hvalid =>
    have htakes := Lsu.Takes.claim (l := s.lsu) source floor want cls hvalid
    dsimp only
    split
    · exact .takes (s.evq.append .peerJoined source.val 0) _ _ htakes (.inl rfl)
    · split
      · exact .takes (s.evq.append .peerJoined source.val 1) _ _ htakes (.inl rfl)
      · exact .takes s.evq _ _ htakes (.inl rfl)
  · exact .checkError

theorem findPeer_station {station : Nat} {ps : List Peer} {p : Peer} (h : findPeer station ps = some p) :
    p.station = station := by
  simpa using List.find?_some h

theorem State.lsuPeerSilent_step (station : Nat) : State.LsuStep sig s (s.lsuPeerSilent station) := by
  unfold State.lsuPeerSilent
  split
  · exact .nothing
  · next p hp =>
    split
    · exact .nothing
    · exact .takes (s.evq.append .peerSilent station (word p.want)) _ _ (.silent p (by rwa [findPeer_station hp])) (.inl rfl)

theorem State.lsuPeerLost_step (station : Nat) : State.LsuStep sig s (s.lsuPeerLost station) := by
  unfold State.lsuPeerLost
  split
  · exact .nothing
  · split
    · exact .takes (s.evq.append .peerLost station 0) _ _ (.lost station) (.inl rfl)
    · exact .nothing

theorem State.lsuLineOk_step : State.LsuStep sig s s.lsuLineOk := by
  unfold State.lsuLineOk
  split
  · next hwaiting => exact .takes s.evq _ _ (.listens hwaiting) (.inl rfl)
  · next hisolated =>
    split
    · exact .nothing
    · exact .takes (s.evq.append .isolatedLeft 0 (word s.lsu.limit)) _ _ (.recovers hisolated) (.inl rfl)
  · exact .nothing

theorem State.lsuLineFault_step : State.LsuStep sig s s.lsuLineFault := by
  unfold State.lsuLineFault
  split
  · exact .nothing
  · exact .takes (s.evq.append .isolatedEntered 0 (word s.lsu.isolatedLimit)) _ _ (.isolates s.lsu.silenced id) (.inl rfl)

theorem State.lsuSilenced_step : State.LsuStep sig s s.lsuSilenced := by
  unfold State.lsuSilenced
  dsimp only
  split
  · next hisolated => exact .takes s.evq _ _ (.silenced hisolated) (.inl rfl)
  · exact .takes (s.evq.append .isolatedEntered 1 (word s.lsu.isolatedLimit)) _ _ (.isolates true fun _ => rfl) (.inl rfl)

end

/-- What a delivery to the LSU can do. -/
theorem handle_lsuStep (sig : Signal) (h : sig.block = .lsu) (s : State) : State.LsuStep (some sig) s (handle sig s) := by
  cases sig with
  | lsuElementWant w => exact State.lsuInputs_step s _ rfl
  | lsuBoilerWant w => exact State.lsuInputs_step s _ rfl
  | lsuFloorClass f c => exact State.lsuInputs_step s _ rfl
  | lsuConfigured => exact State.lsuInputs_step s _ rfl
  | lsuClaim n f w k => exact State.lsuClaim_step s n f w k
  | lsuSent c => exact State.lsuSent_step s c
  | lsuAbandoned => exact State.lsuAbandoned_step s
  | lsuLineOk => exact State.lsuLineOk_step s
  | lsuLineFault => exact State.lsuLineFault_step s
  | lsuSilenced => exact State.lsuSilenced_step s
  | _ => cases h

/-- R61, R65: only the allowance and the limit are brought up to date. -/
theorem Lsu.refresh_eq (l : Lsu) : l.refresh = { l with allowance := l.refresh.allowance, limit := l.refresh.limit } := rfl

theorem Lsu.refresh_refresh (l : Lsu) : l.refresh.refresh = l.refresh := rfl

/-- R66, R179: the share's deliveries of the LSU are a change of its limit and its demand claim. -/
theorem State.lsuTo_shares (s : State) (new : Lsu) (after : List Signal) :
    (s.lsuTo new after).shares = s.shares ++ sigIf (s.lsu.limit != new.refresh.limit) (.dspLimit new.refresh.limit) ++
      after.filter Signal.isShare := by
  rw [State.lsuTo, State.emit_shares, List.filter_append, ← List.append_assoc]
  congr 2
  cases s.lsu.limit != new.refresh.limit <;> rfl

theorem State.mem_lsuTo_shares {s : State} {new : Lsu} {after : List Signal} {sig : Signal}
    (h : sig ∈ (s.lsuTo new after).shares) : sig ∈ s.shares ∨ sig = .dspLimit new.refresh.limit ∨ sig ∈ after := by
  rw [State.lsuTo_shares, List.mem_append, List.mem_append] at h
  obtain (h | h) | h := h
  · exact .inl h
  · obtain hc | hc := sigIf_cases (s.lsu.limit != new.refresh.limit) (.dspLimit new.refresh.limit) <;> rw [hc] at h
    · cases h
    · exact .inr (.inl (List.mem_singleton.mp h))
  · exact .inr (.inr (List.mem_filter.mp h).1)

/-! ### The SLC -/

/-- The claims the SLC holds: in the CLAIM slot or in flight. -/
def Slc.Holds (l : Slc) (c : Claim) : Prop := l.claimSlot = some c ∨ ∃ f, l.inFlight = some f ∧ f.frame = .claim c

/-- The deliveries to the LSU that the SLC may make: the report of a claim it holds (R178), and the claim of another station
(R174), in SILENCED with a valid own number only (R177). -/
def Slc.MaySend (l : Slc) : Signal → Prop
  | .lsuSent c => l.Holds c
  | .lsuClaim source _ _ _ => source.val < 7 ∧ source.val ≠ l.own ∧ (l.line = .silenced → l.own ≠ 7)
  | _ => False

/-- What the SLC does to the share's matters: the own number and SILENCED stay, no claim comes to it, and what it delivers
it may. -/
structure State.SlcStep (s t : State) : Prop where
  own      : t.slc.own = s.slc.own
  silenced : s.slc.line = .silenced → t.slc.line = .silenced
  holds    : ∀ c, t.slc.Holds c → s.slc.Holds c
  sends    : ∃ sigs, t.shares = s.shares ++ sigs ∧ ∀ sig ∈ sigs, s.slc.MaySend sig

theorem Slc.MaySend.mono {l l' : Slc} (hown : l'.own = l.own) (hsilenced : l.line = .silenced → l'.line = .silenced)
    (hholds : ∀ c, l'.Holds c → l.Holds c) {sig : Signal} (h : l'.MaySend sig) : l.MaySend sig := by
  cases sig with
  | lsuSent c => exact hholds c h
  | lsuClaim source _ _ _ =>
    obtain ⟨hlt, hforeign, hvalid⟩ := h
    rw [hown] at hforeign hvalid
    exact ⟨hlt, hforeign, hvalid ∘ hsilenced⟩
  | _ => exact h

namespace State.SlcStep

variable {s t u : State}

protected theorem refl : SlcStep s s := ⟨rfl, id, fun _ => id, [], by simp, by simp⟩

protected theorem trans (h : SlcStep s t) (h' : SlcStep t u) : SlcStep s u := by
  obtain ⟨hown, hsilenced, hholds, sigs, hshares, hsigs⟩ := h
  obtain ⟨hown', hsilenced', hholds', sigs', hshares', hsigs'⟩ := h'
  refine ⟨hown'.trans hown, hsilenced' ∘ hsilenced, fun c => hholds c ∘ hholds' c, sigs ++ sigs', ?_, fun sig hsig => ?_⟩
  · rw [hshares', hshares, List.append_assoc]
  · obtain hsig | hsig := List.mem_append.mp hsig
    · exact hsigs sig hsig
    · exact (hsigs' sig hsig).mono hown hsilenced hholds

theorem post (h : SlcStep s t) (c : EventCode) (n : Nat) (v : Word) : SlcStep s (t.post c n v) :=
  h.trans ⟨rfl, id, fun _ => id, [], by simp [State.shares], by simp⟩

/-- A new state of the SLC, with no claim but those held. -/
theorem setSlc (h : SlcStep s t) (l : Slc) (hown : l.own = t.slc.own)
    (hsilenced : t.slc.line = .silenced → l.line = .silenced) (hslot : l.claimSlot = none ∨ l.claimSlot = t.slc.claimSlot)
    (hflight : l.inFlight = none ∨ l.inFlight = t.slc.inFlight) : SlcStep s (t.setSlc l) := by
  refine h.trans ⟨hown, hsilenced, fun c hc => ?_, [], by simp [State.shares], by simp⟩
  obtain hc | ⟨f, hf, hc⟩ := hc
  · obtain hslot | hslot := hslot <;> rw [State.setSlc_slc, hslot] at hc
    · cases hc
    · exact .inl hc
  · obtain hflight | hflight := hflight <;> rw [State.setSlc_slc, hflight] at hf
    · cases hf
    · exact .inr ⟨f, hf, hc⟩

/-- A new state of the SLC, with the same own number, line, CLAIM slot and frame in flight. -/
theorem setSlc_same (h : SlcStep s t) (l : Slc) (hown : l.own = t.slc.own) (hline : l.line = t.slc.line)
    (hslot : l.claimSlot = t.slc.claimSlot) (hflight : l.inFlight = t.slc.inFlight) : SlcStep s (t.setSlc l) :=
  h.setSlc l hown hline.trans (.inr hslot) (.inr hflight)

theorem lineOnly (h : SlcStep s t) {l : Slc} (hl : t.slc.LineOnly l) : SlcStep s (t.setSlc l) := by
  rw [hl]
  exact h.setSlc_same _ rfl rfl rfl rfl

/-- Deliveries that are no matter of the share. -/
theorem emit (h : SlcStep s t) {sigs : List Signal} (hsigs : sigs.filter Signal.isShare = []) :
    SlcStep s (t.emit sigs) :=
  h.trans ⟨rfl, id, fun _ => id, [], by rw [State.emit_shares, hsigs], by simp⟩

end State.SlcStep

open State.SlcStep

theorem State.enterSilenced_step (s : State) : s.SlcStep s.enterSilenced :=
  ((State.SlcStep.refl.post _ _ _).setSlc { s.slc.emptied with line := .silenced } rfl (fun _ => rfl) (.inl rfl)
    (.inl rfl)).emit (sigs := [.cmhSlotEmpty, .lsuSilenced]) rfl

theorem State.slcConflict_step (s : State) : s.SlcStep s.slcConflict := by
  have hcounted : s.SlcStep (s.setSlc { s.slc with
      conflicts := satSucc countMax s.slc.conflicts, consecutive := satSucc 3 s.slc.consecutive }) :=
    State.SlcStep.refl.setSlc_same _ rfl rfl rfl rfl
  unfold State.slcConflict
  dsimp only
  split
  · exact hcounted.trans (State.enterSilenced_step _)
  · exact hcounted

theorem State.slcCheckError_step (s : State) : s.SlcStep s.slcCheckError :=
  State.SlcStep.refl.setSlc_same _ rfl rfl rfl rfl

theorem State.receptionFault_step (f : ReceptionFault) (s : State) : s.SlcStep (s.receptionFault f) := by
  cases f
  case truncated => exact State.SlcStep.refl.setSlc_same _ rfl rfl rfl rfl
  all_goals exact State.slcCheckError_step s

/-- R181: a stuck line is found in SYNCING and LINE_OK only. -/
theorem State.enterLineFault_step {s : State} (h : s.slc.line ≠ .silenced) : s.SlcStep s.enterLineFault :=
  ((State.SlcStep.refl.post _ _ _).setSlc
    { s.slc.emptied with line := .lineFault, rx := .ignoring, rxCells := [], consecutive := 0 } rfl
    (fun hs => absurd hs h) (.inl rfl) (.inl rfl)).emit (sigs := [.cmhSlotEmpty, .lsuLineFault]) rfl

theorem State.enterLineOk_step {s : State} (h : s.slc.line ≠ .silenced) : s.SlcStep s.enterLineOk := by
  have hslc {t : State} (hst : s.SlcStep t) (ht : t.slc = s.slc) :
      s.SlcStep ((t.setSlc { s.slc with line := .lineOk, rx := .waiting }).emit [.lsuLineOk]) :=
    (hst.setSlc _ (by rw [ht]) (fun hs => absurd (ht ▸ hs) h) (.inr (by rw [ht])) (.inr (by rw [ht]))).emit rfl
  unfold State.enterLineOk
  split
  · exact hslc (State.SlcStep.refl.post _ _ _) rfl
  · exact hslc .refl rfl

theorem State.countsReached_step (s : State) : s.SlcStep s.countsReached := by
  unfold State.countsReached
  dsimp only
  split
  · next h =>
    refine State.enterLineFault_step fun hs => ?_
    simp [hs] at h
  · split
    · next h =>
      refine State.enterLineOk_step fun hs => ?_
      simp [hs] at h
    · exact State.SlcStep.refl.lineOnly (Slc.gap_lineOnly _)

theorem State.passCell_step (c : Level) (s : State) : s.SlcStep (s.passCell c) :=
  (State.SlcStep.refl.lineOnly (Slc.counts_lineOnly [c] s.slc)).trans (State.countsReached_step _)

theorem State.hearCell_step (c : Level) (s : State) : s.SlcStep (s.hearCell c).1 :=
  (State.SlcStep.refl.lineOnly ((Slc.counts_lineOnly [c] s.slc).trans (Slc.hearCell_lineOnly c _))).trans
    (State.countsReached_step _)

/-- Table 9-3: a claim taken is another station's, and no SILENCED part without a valid number takes one. -/
theorem Slc.examine_claim {l : Slc} {free : Bool} {f : Frame} {floor want cls : Nat}
    (h : l.examine free f = .claim floor want cls) :
    f.source ≠ l.own ∧ f.source ≠ 7 ∧ (l.line = .silenced → l.own ≠ 7) := by
  unfold Slc.examine at h
  split at h
  · cases h
  · next hown =>
    split at h
    · cases h
    · next hseven =>
      refine ⟨hown, hseven, fun hs => ?_⟩
      rw [if_pos hs] at h
      split at h
      · split at h
        · next hvalid =>
          simp only [Bool.and_eq_true, decide_eq_true_eq] at hvalid
          exact hvalid.2
        · cases h
      · cases h

/-- R174: a frame read whole is examined. -/
theorem State.examined_step {f : Frame} {s : State} (hf : f.source < 8 ∨ f.source = s.slc.own) (others : Level) :
    s.SlcStep (s.examined f others) := by
  unfold State.examined
  dsimp only
  split
  · exact (State.passCell_step _ s).trans (State.slcConflict_step _)
  · exact (State.passCell_step _ s).trans (State.slcCheckError_step _)
  · next floor want cls hx =>
    obtain ⟨hown, hseven, hvalid⟩ := Slc.examine_claim hx
    have hlt : f.source < 8 := hf.resolve_right hown
    have hval : (Fin.ofNat 8 f.source).val = f.source := Nat.mod_eq_of_lt hlt
    have hmay : s.slc.MaySend (.lsuClaim (Fin.ofNat 8 f.source) floor want cls) := by
      refine ⟨?_, ?_, hvalid⟩ <;> rw [hval]
      · omega
      · exact hown
    obtain ⟨kown, ksilenced, kholds, sigs, kshares, ksigs⟩ :=
      State.passCell_step (wired (if s.slc.line = .lineOk then .dominant else .recessive) others) s
    refine ⟨kown, ksilenced, kholds, sigs ++ [.lsuClaim (Fin.ofNat 8 f.source) floor want cls], ?_, fun sig hsig => ?_⟩
    · rw [State.emit_shares, kshares, List.append_assoc]
      rfl
    · obtain hsig | hsig := List.mem_append.mp hsig
      · exact ksigs sig hsig
      · rwa [List.mem_singleton.mp hsig]
  · exact (State.passCell_step _ s).emit rfl
  · exact State.passCell_step _ s

theorem State.hear_step {frame : List Byte → Option Frame} {s : State}
    (hframe : ∀ bytes f, frame bytes = some f → f.source < 8 ∨ f.source = s.slc.own) (cells : List Level) :
    s.SlcStep (State.hear frame cells s s) :=
  State.hear_keeps (P := s.SlcStep) frame (fun c _ h => h.trans (State.hearCell_step c _))
    (fun e _ h => h.trans (State.receptionFault_step e _))
    (fun _ ack _ _ hf h => h.trans (State.examined_step ((hframe _ _ hf).imp_right fun ho => ho.trans h.own.symm) ack))
    cells s s .refl .refl

theorem State.receive_step {f : Frame} {s : State} (hf : f.source < 8 ∨ f.source = s.slc.own) (others : Level) :
    s.SlcStep (s.receive f others) := by
  unfold State.receive
  split
  · exact .refl
  · exact State.hear_step (fun _ _ hg => by cases hg; exact hf) _

theorem State.slcReceptionError_step (cells : List Level) (s : State) : s.SlcStep (s.slcReceptionError cells) := by
  unfold State.slcReceptionError
  split
  · exact .refl
  · exact State.hear_step (fun _ _ hf => .inl (Frame.ofBytes_source hf)) _

theorem Slc.offer_claim {l : Slc} {c : Claim} (h : l.offer = some (.claim c)) : l.claimSlot = some c := by
  unfold Slc.offer at h
  split at h <;> cases h
  assumption

/-- R179: the claim that leaves the slot is in flight. -/
theorem State.slcStart_step (s : State) : s.SlcStep s.slcStart := by
  unfold State.slcStart
  dsimp only
  split
  · split
    · next f hf =>
      refine ⟨?own, ?line, fun c hc => ?_, [], by simp [State.shares], by simp⟩
      case own => cases f <;> rfl
      case line => cases f <;> exact id
      obtain hc | ⟨g, hg, hc⟩ := hc
      · cases f
        case claim => cases hc
        all_goals exact .inl hc
      · cases hg
        obtain rfl : f = .claim c := hc
        exact .inl (Slc.offer_claim hf)
    · exact .refl
  · exact .refl

/-- R180: a claim that is lost returns to its slot. -/
theorem State.slcLoss_step (bit : Fin 5) (s : State) : s.SlcStep (s.slcLoss bit) := by
  unfold State.slcLoss
  split
  · next f hf =>
    dsimp only
    split
    · refine ⟨?own, ?line, fun c hc => ?_, [], by simp [State.shares], by simp⟩
      case own => cases f.frame <;> rfl
      case line => cases f.frame <;> exact id
      obtain hc | ⟨g, hg, hc⟩ := hc
      · cases hframe : f.frame <;> rw [hframe] at hc
        case claim d =>
          obtain hslot | ⟨-, hd⟩ := Option.or_eq_some_iff.mp hc
          · exact .inl hslot
          · cases hd
            exact .inr ⟨f, hf, hframe⟩
        all_goals exact .inl hc
      · cases hg
    · exact .refl
  · exact .refl

theorem State.slcMismatch_step (cell : Nat) (s : State) : s.SlcStep (s.slcMismatch cell) := by
  unfold State.slcMismatch
  split
  · next f _ =>
    have hnone : (abandonedSignals f.frame).filter Signal.isShare = [] := by cases f.frame <;> rfl
    have hcut (l : Slc) (hown : l.own = s.slc.own) (hline : l.line = s.slc.line) (hslot : l.claimSlot = s.slc.claimSlot)
        (hflight : l.inFlight = none) : s.SlcStep ((s.setSlc l).emit (abandonedSignals f.frame)).slcConflict :=
      State.SlcStep.trans ((State.SlcStep.refl.setSlc l hown hline.trans (.inr hslot) (.inl hflight)).emit hnone)
        (State.slcConflict_step _)
    split
    · exact hcut _ rfl rfl rfl rfl
    · exact .refl
  · exact .refl

/-- R178: the claim reported sent was in flight. -/
theorem State.slcAcknowledge_step (read : Level) (s : State) : s.SlcStep (s.slcAcknowledge read) := by
  unfold State.slcAcknowledge
  split
  · next f hf =>
    have hl {l : Slc} (hown : l.own = s.slc.own) (hline : l.line = s.slc.line) (hslot : l.claimSlot = s.slc.claimSlot)
        (hflight : l.inFlight = none) : s.SlcStep (s.setSlc l) :=
      State.SlcStep.refl.setSlc l hown hline.trans (.inr hslot) (.inl hflight)
    dsimp only
    split
    · next c hframe =>
      obtain ⟨hown, hline, hholds, -, -, -⟩ := hl (l := { s.slc.counts (f.until f.cells.length ++ [read]) with
        inFlight := none, consecutive := 0 }) rfl rfl rfl rfl
      refine ⟨hown, hline, hholds, [.lsuSent c], ?_, fun sig hsig => ?_⟩
      · rw [State.emit_shares]
        rfl
      · rw [List.mem_singleton.mp hsig]
        exact .inr ⟨f, hf, hframe⟩
    · exact hl rfl rfl rfl rfl
    · refine State.SlcStep.emit (hl ?_ ?_ ?_ ?_) rfl <;> split <;> rfl
  · exact .refl

theorem State.slcLineFault_step (s : State) : s.SlcStep s.slcLineFault := by
  unfold State.slcLineFault
  split
  · next h =>
    refine (State.SlcStep.refl.lineOnly (Slc.counts_lineOnly _ s.slc)).trans (State.enterLineFault_step fun hs => ?_)
    simp [show s.slc.line = .silenced from hs] at h
  · exact .refl

theorem State.enterLineOk_counts_step {s : State} (h : s.slc.line ≠ .silenced) (cells : List Level) :
    s.SlcStep (s.setSlc (s.slc.counts cells)).enterLineOk :=
  (State.SlcStep.refl.lineOnly (Slc.counts_lineOnly cells s.slc)).trans (State.enterLineOk_step h)

theorem State.slcLineRestored_step (s : State) : s.SlcStep s.slcLineRestored := by
  unfold State.slcLineRestored
  split
  · next h => exact State.enterLineOk_counts_step (by rw [h]; decide) _
  · exact .refl

theorem State.slcFirstGap_step (s : State) : s.SlcStep s.slcFirstGap := by
  unfold State.slcFirstGap
  split
  · next h => exact State.enterLineOk_counts_step (by rw [h]; decide) _
  · exact .refl

/-- What is delivered to the SLC, other than a claim. -/
theorem handle_slcStep {sig : Signal} (h : sig.block = .slc) (hclaim : sig.isShare = false) (s : State) :
    s.SlcStep (handle sig s) := by
  cases sig with
  | slcClaim c => cases hclaim
  | slcAnswer a =>
    rw [handle, State.slcAnswer]
    split
    · exact State.SlcStep.refl.emit rfl
    · split
      · exact .refl
      · exact State.SlcStep.refl.setSlc_same _ rfl rfl rfl rfl
  | slcStatus p =>
    rw [handle, State.slcStatus]
    split
    · exact .refl
    · exact State.SlcStep.refl.setSlc_same _ rfl rfl rfl rfl
  | slcCheckError => exact State.slcCheckError_step s
  | _ => cases h

/-- R179: a claim is taken into its slot, or discarded. -/
theorem State.slcClaim_cases (c : Claim) (s : State) :
    s.slcClaim c = s ∨ s.slcClaim c = s.setSlc { s.slc with claimSlot := some c } := by
  unfold State.slcClaim
  split
  · exact .inl rfl
  · exact .inr rfl

/-- What a delivery to the SLC can do to the share's matters: a claim comes to its slot, or nothing that the SLC does not do
on its own account. -/
inductive State.SlcTook (s : State) (sig : Signal) : State → Prop where
  | claim (c : Claim) (is_claim : sig = .slcClaim c) :
    State.SlcTook s sig (s.setSlc { s.slc with claimSlot := some c })
  | other {t : State} (step : s.SlcStep t) (block : BlockStep .slc s t) : State.SlcTook s sig t

theorem handle_slcTook {sig : Signal} (h : sig.block = .slc) (s : State) : s.SlcTook sig (handle sig s) := by
  have hcommand : sig.isCommand = false := by
    cases sig with
    | cmhCommand => cases h
    | _ => rfl
  have hblock := handle_block sig hcommand s
  rw [h] at hblock
  cases hshare : sig.isShare with
  | true =>
    cases sig with
    | slcClaim c =>
      obtain hc | hc := State.slcClaim_cases c s <;> rw [handle, hc]
      · exact .other .refl .refl
      · exact .claim c rfl
    | dspLimit | lsuClaim | lsuSent => cases h
    | _ => cases hshare
  | false => exact .other (handle_slcStep h hshare s) hblock

/-- The own effects of the SLC's commands. -/
inductive State.SlcDoes (s : State) : State → Prop where
  | receive (f : Frame) (others : Level) (source : f.source < 8 ∨ f.source = s.slc.own) :
    State.SlcDoes s (s.receive f others)
  | receptionError (cells : List Level) : State.SlcDoes s (s.slcReceptionError cells)
  | start : State.SlcDoes s s.slcStart
  | loss (bit : Fin 5) : State.SlcDoes s (s.slcLoss bit)
  | mismatch (cell : Nat) : State.SlcDoes s (s.slcMismatch cell)
  | acknowledge (read : Level) : State.SlcDoes s (s.slcAcknowledge read)
  | lineFault : State.SlcDoes s s.slcLineFault
  | lineRestored : State.SlcDoes s s.slcLineRestored
  | firstGap : State.SlcDoes s s.slcFirstGap

theorem State.SlcDoes.step {s t : State} (h : s.SlcDoes t) : s.SlcStep t := by
  cases h with
  | receive f others source => exact State.receive_step source others
  | receptionError cells => exact State.slcReceptionError_step cells s
  | start => exact s.slcStart_step
  | loss bit => exact s.slcLoss_step bit
  | mismatch cell => exact s.slcMismatch_step cell
  | acknowledge read => exact s.slcAcknowledge_step read
  | lineFault => exact s.slcLineFault_step
  | lineRestored => exact s.slcLineRestored_step
  | firstGap => exact s.slcFirstGap_step

theorem State.SlcDoes.block {s t : State} (h : s.SlcDoes t) : BlockStep .slc s t := by
  cases h with
  | receive f others _ => exact State.receive_block f others s
  | receptionError cells => exact State.slcReceptionError_block cells s
  | start => exact s.slcStart_block
  | loss bit => exact s.slcLoss_block bit
  | mismatch cell => exact s.slcMismatch_block cell
  | acknowledge read => exact s.slcAcknowledge_block read
  | lineFault => exact s.slcLineFault_block
  | lineRestored => exact s.slcLineRestored_block
  | firstGap => exact s.slcFirstGap_block

end Sys2Proof.Machine
end

section
/-! SUPPORT. The share's matters through a step: what the LSU, the SLC and a new limit at the dispatcher keep, every event
keeps. -/

namespace Sys2Proof.Machine

/-! ### What a command does to the share's matters -/

/-- The own effect of a command: that of an LSU command, that of an SLC command, or a doing aside from the share. -/
inductive State.OwnEffect (s : State) : State → Prop where
  | offShare {t : State} (h : s.OffShare t) : State.OwnEffect s t
  | lsu {t : State} (h : State.LsuStep none s t) : State.OwnEffect s t
  | slc {t : State} (h : s.SlcDoes t) : State.OwnEffect s t

/-- What a command can do: its own effect, a follow-up step, a restart or a reset. -/
inductive Instr.Effect (i : Instr) (s : State) : State → Prop where
  | own (f : State → State) (effect : ∀ s : State, s.OwnEffect (f s)) : Instr.Effect i s (s.event f)
  | followUp (k : FollowUp) : Instr.Effect i s (s.followUp k)
  | restart (levels : Straps) : Instr.Effect i s (s.restart levels)
  | reset (station budget : Fin 8) (is_reset : i = .powerOnReset station budget) :
    Instr.Effect i s ((s.resetBy .powerOn ⟨station, budget⟩).settle settleFuel)

section
variable {i : Instr} {s : State} {f : State → State}

theorem Instr.Effect.other {k : Block} (h : ∀ s, BlockStep k s (f s)) (h' : ∀ s, BlockSends k s (f s))
    (hk : k = .clc ∨ k = .sgc ∨ k = .sdu ∨ k = .rsq ∨ k = .ilu) : Instr.Effect i s (s.event f) :=
  .own f fun s => .offShare ((h s).offShare (h' s) hk)

theorem Instr.Effect.lsu (h : ∀ s, State.LsuStep none s (f s)) : Instr.Effect i s (s.event f) :=
  .own f fun s => .lsu (h s)

theorem Instr.Effect.slc (h : ∀ s : State, s.SlcDoes (f s)) : Instr.Effect i s (s.event f) := .own f fun s => .slc (h s)

end

/-- A row whose bytes make no frame does nothing. -/
theorem State.slcFrame_effect (bytes : List Byte) (others : Level) (s : State) : s.OwnEffect (s.slcFrame bytes others) := by
  unfold State.slcFrame
  split
  · next f hf => exact .slc (.receive f others (.inl (Frame.ofBytes_source hf)))
  · exact .offShare (.refl s)

theorem exec_effect {i : Instr} {s t : State} (h : exec i s = .next t) : Instr.Effect i s t := by
  have panel : ∀ source code payload, Instr.Effect i s (s.panel source code payload) := fun source _ _ =>
    .slc fun _ => .receive _ _ (.inl (Nat.lt_succ_of_lt source.isLt))
  cases i <;> cases h
  case powerOnReset => exact .reset _ _ rfl
  case measurementExpiry => exact .other (State.clcMeasure_block _ _ _) (State.clcMeasure_sends _ _ _) (by simp)
  case controlTimerExpiry => exact .other State.clcControlExpiry_block State.clcControlExpiry_sends (by simp)
  case runOnTimerExpiry => exact .other State.clcRunOnExpiry_block State.clcRunOnExpiry_sends (by simp)
  case openDriveExpiry => exact .other State.clcOpenExpiry_block State.clcOpenExpiry_sends (by simp)
  case closeTravelTimeout => exact .other State.clcCloseExpiry_block State.clcCloseExpiry_sends (by simp)
  case slotExpiry =>
    refine .own _ fun s => .offShare (s.dspSlotExpiry_block.offShare_dsp s.dspSlotExpiry_sends ?_)
    rw [State.dspSlotExpiry_dsp, Dsp.expire_limit]
  case listenWindowExpiry => exact .lsu fun s => s.lsuListenExpiry_step
  case claimPeriodExpiry => exact .lsu fun s => s.lsuPeriodExpiry_step
  case minimumIntervalExpiry => exact .lsu fun s => s.lsuIntervalExpiry_step
  case raiseHoldOffExpiry => exact .lsu fun s => s.lsuHoldOffExpiry_step
  case claimReceived source _ _ _ _ => exact .slc fun _ => .receive _ _ (.inl (Nat.lt_succ_of_lt source.isLt))
  case peerSilent => exact .lsu fun s => s.lsuPeerSilent_step _
  case peerLost => exact .lsu fun s => s.lsuPeerLost_step _
  case fillTimeout => exact .other State.sgcFillTimeout_block State.sgcFillTimeout_sends (by simp)
  case drainTimerExpiry => exact .other State.sgcDrainExpiry_block State.sgcDrainExpiry_sends (by simp)
  case soakComplete => exact .other State.sduSoakComplete_block State.sduSoakComplete_sends (by simp)
  case startReadComplete => exact .followUp _
  case stepReadComplete => exact .followUp _
  case stepTimeEnd => exact .other State.rsqStepTimeEnd_block State.rsqStepTimeEnd_sends (by simp)
  case pauseTimerExpiry => exact .other State.rsqPauseExpiry_block State.rsqPauseExpiry_sends (by simp)
  case runTimeCap => exact .other State.rsqRunCap_block State.rsqRunCap_sends (by simp)
  case wakeTimerExpiry =>
    exact .own _ fun s => .offShare (s.stcScan_block.offShare_stc s.stcScan_sends State.stcScan_scanned)
  case storeOperationComplete =>
    exact .own _ fun s => .offShare ((State.storeOperationComplete_block _ s).offShare_stc
      (State.storeOperationComplete_sends _ s) (State.storeOperationComplete_scanned _ s).trans)
  case storeRequestServed => exact .followUp _
  case storeAbandoned =>
    exact .own _ fun s => .offShare (s.storeAbandon_block.offShare_stc s.storeAbandon_sends s.storeAbandon_scanned.trans)
  case sampleExpiry => exact .other (State.iluSample_block _) (State.iluSample_sends _) (by simp)
  case persistenceExpiry => exact .other (State.iluPersistence_block _) (State.iluPersistence_sends _) (by simp)
  case receptionError => exact .slc fun _ => .receptionError _
  case frameDiscarded => exact .own _ fun s => s.slcFrame_effect _ _
  case ownSourceFrameReceived => exact .slc fun _ => .receive _ _ (.inr rfl)
  case transmitStart => exact .slc fun _ => .start
  case arbitrationLoss => exact .slc fun _ => .loss _
  case conflictWhileSending => exact .slc fun _ => .mismatch _
  case acknowledgeCell => exact .slc fun _ => .acknowledge _
  case lineFault => exact .slc fun _ => .lineFault
  case lineRestored => exact .slc fun _ => .lineRestored
  case firstIdleGap => exact .slc fun _ => .firstGap
  case statusTimerExpiry => exact .own _ fun s => .offShare (s.fillStatus_block.offShare_cmh s.fillStatus_sends id)
  case statusIntervalExpiry =>
    exact .own _ fun s => .offShare (s.statusInterval_block.offShare_cmh s.statusInterval_sends
      s.statusInterval_configured.trans)
  case configuredReached => exact .followUp _
  case deferredConfigCommand => exact .followUp _
  case fetchEventsNextFrame => exact .followUp _
  case restartTakesEffect => exact .restart _
  case answerHandover => exact .followUp _
  all_goals exact panel _ _ _

/-! ### What an event keeps -/

/-- A property that the doings aside from the share keep, and the LSU, the SLC and a new limit, by their own effects and at
their deliveries. -/
structure KeptByShare (P : State → Prop) : Prop where
  offShare : ∀ {s t}, s.OffShare t → P s → P t
  limitTaken : ∀ {s n rest}, s.bus = .dspLimit n :: rest → P s → P (handle (.dspLimit n) { s with bus := rest })
  lsuDone : ∀ {s t}, State.LsuStep none s t → P s → P t
  lsuTaken : ∀ {s sig rest t}, s.bus = sig :: rest → sig.block = .lsu →
    State.LsuStep (some sig) { s with bus := rest } t → P s → P t
  slcDone : ∀ {s t}, s.SlcDoes t → P s → P t
  slcTaken : ∀ {s sig rest}, s.bus = sig :: rest → sig.block = .slc → P s → P (handle sig { s with bus := rest })

/-- A delivery that is no matter of the share leaves its matters when it is taken from the bus. -/
theorem State.dropped_offShare {s : State} {sig : Signal} {rest : List Signal} (hbus : s.bus = sig :: rest)
    (h : sig.isShare = false) : s.OffShare { s with bus := rest } :=
  ⟨rfl, rfl, rfl, rfl, by simp [State.shares, hbus, h], id, id⟩

variable {P : State → Prop}

theorem KeptByShare.deliveries (K : KeptByShare P) : KeptByDeliveries P where
  delivered s sig rest hbus hs := by
    by_cases hlsu : sig.block = .lsu
    · exact K.lsuTaken hbus hlsu (handle_lsuStep sig hlsu _) hs
    by_cases hslc : sig.block = .slc
    · exact K.slcTaken hbus hslc hs
    cases hshare : sig.isShare with
    | true =>
      cases sig with
      | dspLimit n => exact K.limitTaken hbus hs
      | slcClaim => exact absurd rfl hslc
      | lsuClaim | lsuSent => exact absurd rfl hlsu
      | _ => cases hshare
    | false => exact K.offShare ((State.dropped_offShare hbus hshare).trans (handle_offShare sig hlsu hslc hshare _)) hs

theorem KeptByShare.ownEffect (K : KeptByShare P) {s t : State} (h : s.OwnEffect t) (hs : P s) : P t := by
  cases h with
  | offShare h => exact K.offShare h hs
  | lsu h => exact K.lsuDone h hs
  | slc h => exact K.slcDone h hs

/-- From a quiet state every command but a power-on reset keeps it. -/
theorem KeptByShare.exec_of_quiet (K : KeptByShare P) {i : Instr} {s t : State} (hquiet : s.quiet = true)
    (hreset : ∀ station budget, i ≠ .powerOnReset station budget) (ht : exec i s = .next t) (hs : P s) : P t := by
  cases exec_effect ht with
  | own f effect =>
    rw [State.event_of_quiet hquiet]
    exact K.deliveries.settle _ (K.ownEffect (effect s) hs)
  | followUp k => rwa [State.followUp_of_quiet hquiet]
  | restart levels => rwa [State.restart_of_quiet hquiet]
  | reset station budget hi => exact absurd hi (hreset station budget)

/-- A property that resets and the passage of time keep besides. -/
structure KeptThroughResets (P : State → Prop) : Prop extends KeptByShare P where
  reset : ∀ cause levels (s : State), P (s.resetBy cause levels)
  tick : ∀ {s : State}, P s → P s.tick

theorem KeptThroughResets.followUp (K : KeptThroughResets P) (k : FollowUp) {s : State} (h : P s) : P (s.followUp k) := by
  unfold State.followUp
  split
  · refine K.deliveries.settle _ ?_
    by_cases hk : k = .restartTakesEffect
    · subst hk
      exact K.reset _ _ _
    · exact K.offShare (perform_offShare hk s) h
  · exact h

theorem KeptThroughResets.complete (K : KeptThroughResets P) (n : Nat) {s : State} (h : P s) : P (s.complete n) := by
  induction n generalizing s with
  | zero => exact h
  | succ n ih =>
    rw [State.complete]
    split
    · exact h
    · exact ih (K.followUp _ h)

theorem KeptThroughResets.exec (K : KeptThroughResets P) {i : Instr} {s t : State} (ht : Machine.exec i s = .next t)
    (hs : P s) : P t := by
  cases exec_effect ht with
  | own f effect => exact K.deliveries.settle _ (K.ownEffect (effect _) (K.complete _ hs))
  | followUp k => exact K.followUp k hs
  | restart levels =>
    unfold State.restart State.followUp
    split
    · split
      · exact K.deliveries.settle _ (K.reset _ _ _)
      · next hdue hnot => exact absurd hdue hnot
    · exact hs
  | reset station budget _ => exact K.deliveries.settle _ (K.reset _ _ _)

/-- Such a property every step keeps. -/
theorem KeptThroughResets.step (K : KeptThroughResets P) {s t : State} (ht : Machine.step s = .next t) (hs : P s) : P t := by
  rw [Machine.step] at ht
  split at ht
  · cases ht
    exact K.tick (K.complete _ hs)
  · exact K.exec ht (K.offShare (s := s) ⟨rfl, rfl, rfl, rfl, rfl, id, id⟩ hs)

end Sys2Proof.Machine
end

section
/-! SUPPORT. The shares of one view: the allowance is at most the budget and at most the want, and the allowances of all
claimants sum to at most the budget (R59, R60). -/

namespace Sys2Proof.Machine

/-! ### Sums over the claims of a view -/

theorem sumFloors_eq (cs : List Claim) : sumFloors cs = (cs.map (·.floor)).sum := List.sum_eq_foldl.symm

theorem sumExtras_eq (cs : List Claim) (k : Nat) : sumExtras cs k = ((cs.filter (·.cls == k)).map (·.extra)).sum :=
  List.sum_eq_foldl.symm

theorem floor_le_sumFloors {own : Claim} {cs : List Claim} (h : own ∈ cs) : own.floor ≤ sumFloors cs := by
  rw [sumFloors_eq]
  exact List.le_sum_of_mem (List.mem_map_of_mem h)

theorem extra_le_sumExtras {own : Claim} {cs : List Claim} (h : own ∈ cs) : own.extra ≤ sumExtras cs own.cls := by
  rw [sumExtras_eq]
  exact List.le_sum_of_mem (List.mem_map_of_mem (List.mem_filter.mpr ⟨h, beq_self_eq_true _⟩))

theorem sumFloors_perm {cs cs' : List Claim} (h : cs.Perm cs') : sumFloors cs = sumFloors cs' := by
  rw [sumFloors_eq, sumFloors_eq]
  exact (h.map _).sum_eq

theorem sumExtras_perm {cs cs' : List Claim} (h : cs.Perm cs') (k : Nat) : sumExtras cs k = sumExtras cs' k := by
  rw [sumExtras_eq, sumExtras_eq]
  exact ((h.filter _).map _).sum_eq

theorem sumExtras_mono {cs cs' : List Claim} (h : cs.Sublist cs') (k : Nat) : sumExtras cs k ≤ sumExtras cs' k := by
  rw [sumExtras_eq, sumExtras_eq]
  exact ((h.filter _).map _).sum_le_sum fun _ _ => Nat.zero_le _

/-- Parts rounded down sum to at most the part of the sum. -/
theorem sum_map_mul_div_le {α : Type} (f : α → Nat) (r d : Nat) (xs : List α) :
    (xs.map fun x => f x * r / d).sum ≤ (xs.map f).sum * r / d := by
  induction xs with
  | nil => simp
  | cons x xs ih =>
    simp only [List.map_cons, List.sum_cons, Nat.add_mul]
    exact (Nat.add_le_add_left ih _).trans Nat.div_add_div_le_add_div

theorem sum_map_filter_add_not {α : Type} (p : α → Bool) (f : α → Nat) (xs : List α) :
    (xs.map f).sum = ((xs.filter p).map f).sum + ((xs.filter fun x => !p x).map f).sum := by
  rw [← ((List.filter_append_perm p xs).map f).sum_eq, List.map_append, List.sum_append]

theorem mul_div_le_left {a r d : Nat} (h : r ≤ d) : a * r / d ≤ a :=
  Nat.div_le_of_le_mul (by rw [Nat.mul_comm d]; exact Nat.mul_le_mul_left a h)

theorem mul_div_le_right {a r d : Nat} (h : a ≤ d) : a * r / d ≤ r := by
  rw [Nat.mul_comm]
  exact mul_div_le_left h

/-! ### One share -/

/-- R60: no claim receives more than its extra, nor more than there is. -/
theorem ownExtra_le {own : Claim} {cs : List Claim} (h : own ∈ cs) (ks : List Nat) (r : Nat) :
    ownExtra own cs ks r ≤ own.extra ∧ ownExtra own cs ks r ≤ r := by
  induction ks generalizing r with
  | nil => exact ⟨Nat.zero_le _, Nat.zero_le _⟩
  | cons k ks ih =>
    rw [ownExtra]
    split
    · next hk =>
      have hextra := extra_le_sumExtras h
      rw [hk] at hextra
      split
      · exact ⟨le_rfl, by omega⟩
      · exact ⟨mul_div_le_left (by omega), mul_div_le_right hextra⟩
    · obtain ⟨hextra, hrest⟩ := ih (if sumExtras cs k ≤ r then r - sumExtras cs k else 0)
      refine ⟨hextra, hrest.trans ?_⟩
      split <;> omega

/-- R59: the share of a claim of the view `cs`. -/
def shareIn (budget : Nat) (cs : List Claim) (own : Claim) : Nat :=
  if budget < sumFloors cs then own.floor * budget / sumFloors cs
  else own.floor + ownExtra own cs [0, 1, 2, 3] (budget - sumFloors cs)

theorem shareOf_eq (budget : Nat) (own : Claim) (others : List Claim) :
    shareOf budget own others = shareIn budget (own :: others) own := rfl

theorem shareOf_le_budget (budget : Nat) (own : Claim) (others : List Claim) : shareOf budget own others ≤ budget := by
  have hmem : own ∈ own :: others := List.mem_cons_self
  have hfloor := floor_le_sumFloors hmem
  have hextra := (ownExtra_le hmem [0, 1, 2, 3] (budget - sumFloors (own :: others))).2
  rw [shareOf_eq, shareIn]
  split
  · exact mul_div_le_right hfloor
  · omega

theorem shareOf_le_want (budget : Nat) {own : Claim} (h : own.floor ≤ own.want) (others : List Claim) :
    shareOf budget own others ≤ own.want := by
  have hextra := (ownExtra_le (own := own) (List.mem_cons_self (l := others)) [0, 1, 2, 3]
    (budget - sumFloors (own :: others))).1
  rw [Claim.extra] at hextra
  rw [shareOf_eq, shareIn]
  split
  · next hlow => exact (mul_div_le_left hlow.le).trans h
  · omega

/-! ### All shares of a view -/

/-- The view from which a share is computed may be given in any order. -/
theorem shareIn_perm {cs cs' : List Claim} (h : cs.Perm cs') (budget : Nat) (own : Claim) :
    shareIn budget cs own = shareIn budget cs' own := by
  have hextra : ∀ ks r, ownExtra own cs ks r = ownExtra own cs' ks r := by
    intro ks
    induction ks with
    | nil => exact fun _ => rfl
    | cons k ks ih =>
      intro r
      simp only [ownExtra, sumExtras_perm h, ih]
  rw [shareIn, shareIn, sumFloors_perm h, hextra]

/-- R60: class by class, the extras received sum to at most what there is. -/
theorem sum_ownExtra_le {cs claimants : List Claim} (h : claimants.Sublist cs) (ks : List Nat) (r : Nat) :
    (claimants.map fun c => ownExtra c cs ks r).sum ≤ r := by
  induction ks generalizing claimants r with
  | nil => simp [ownExtra]
  | cons k ks ih =>
    have hof : (claimants.filter (·.cls == k)).map (fun c => ownExtra c cs (k :: ks) r) =
        (claimants.filter (·.cls == k)).map fun c =>
          if sumExtras cs k ≤ r then c.extra else c.extra * r / sumExtras cs k :=
      List.map_congr_left fun c hc => by
        have hcls : c.cls = k := by simpa using (List.mem_filter.mp hc).2
        rw [ownExtra, if_pos hcls]
    have hother : (claimants.filter (!·.cls == k)).map (fun c => ownExtra c cs (k :: ks) r) =
        (claimants.filter (!·.cls == k)).map fun c =>
          ownExtra c cs ks (if sumExtras cs k ≤ r then r - sumExtras cs k else 0) :=
      List.map_congr_left fun c hc => by
        have hcls : c.cls ≠ k := by simpa using (List.mem_filter.mp hc).2
        rw [ownExtra, if_neg hcls]
    have hclass : ((claimants.filter (·.cls == k)).map (·.extra)).sum ≤ sumExtras cs k := by
      rw [← sumExtras_eq]
      exact sumExtras_mono h k
    have hrest := ih (List.filter_sublist.trans h : (claimants.filter (!·.cls == k)).Sublist cs)
      (if sumExtras cs k ≤ r then r - sumExtras cs k else 0)
    rw [sum_map_filter_add_not (·.cls == k), hof, hother]
    split at hrest <;> simp only [*, if_true, if_false]
    · omega
    · have hpart := (sum_map_mul_div_le Claim.extra r (sumExtras cs k) (claimants.filter (·.cls == k))).trans
        (mul_div_le_right hclass)
      omega

theorem sum_shareIn_le (budget : Nat) (cs : List Claim) : (cs.map (shareIn budget cs)).sum ≤ budget := by
  by_cases h : budget < sumFloors cs
  · have hshare : cs.map (shareIn budget cs) = cs.map fun c => c.floor * budget / sumFloors cs :=
      List.map_congr_left fun c _ => if_pos h
    rw [hshare]
    exact (sum_map_mul_div_le Claim.floor budget (sumFloors cs) cs).trans (mul_div_le_right (sumFloors_eq cs).ge)
  · have hshare : cs.map (shareIn budget cs) =
        cs.map fun c => c.floor + ownExtra c cs [0, 1, 2, 3] (budget - sumFloors cs) :=
      List.map_congr_left fun c _ => if_neg h
    have hextras := sum_ownExtra_le (List.Sublist.refl cs) [0, 1, 2, 3] (budget - sumFloors cs)
    rw [hshare, List.sum_map_add, ← sumFloors_eq]
    omega

/-- Settles O19: each claimant's own view is the one view in another order, and in one view the floors and the extras
received sum to at most the budget. -/
theorem sharesSumWithinBudget : Obligations.SharesSumWithinBudget := by
  intro budget view _
  refine Eq.trans_le (congrArg List.sum (List.ext_getElem (by simp) fun i hi _ => ?_)) (sum_shareIn_le budget view)
  have hi : i < view.length := by simpa using hi
  simp only [List.getElem_map, List.getElem_range, List.getElem?_eq_getElem hi, shareOf_eq]
  exact shareIn_perm (List.getElem_cons_eraseIdx_perm hi) _ _

end Sys2Proof.Machine
end

section
/-! SUPPORT. What stays settled until the next reset, and the limit and the claims through every step (R47, R58, R61 to R67,
R146, R170, R177, R186). -/

namespace Sys2Proof.Machine

/-! ### What stays settled until the next reset -/

/-- From one state to another without a change to what a reset settles; the CONFIGURED state, SILENCED and the scan are not
undone, and S_peak does not fall. -/
structure State.Settled (s t : State) : Prop where
  own        : t.slc.own = s.slc.own
  lsuOwn     : t.lsu.own = s.lsu.own
  budget     : t.lsu.budget = s.lsu.budget
  pins       : t.pins = s.pins
  configured : s.cmh.configured = true → t.cmh.configured = true
  line       : s.slc.line = .silenced → t.slc.line = .silenced
  silenced   : s.lsu.silenced = true → t.lsu.silenced = true
  scanned    : s.stc.scanned = true → t.stc.scanned = true
  peak       : s.lsu.peak ≤ t.lsu.peak

theorem State.Settled.refl (s : State) : s.Settled s := ⟨rfl, rfl, rfl, rfl, id, id, id, id, le_rfl⟩

theorem State.Settled.trans {s t u : State} (h : s.Settled t) (h' : t.Settled u) : s.Settled u :=
  ⟨h'.own.trans h.own, h'.lsuOwn.trans h.lsuOwn, h'.budget.trans h.budget, h'.pins.trans h.pins,
    h'.configured ∘ h.configured, h'.line ∘ h.line, h'.silenced ∘ h.silenced, h'.scanned ∘ h.scanned,
    h.peak.trans h'.peak⟩

/-- R47, R58, R67: what the LSU keeps of its own. -/
theorem Lsu.Takes.settled {l new : Lsu} {sig : Option Signal} (h : l.Takes sig new) :
    new.own = l.own ∧ new.budget = l.budget ∧ (l.silenced = true → new.silenced = true) ∧ l.peak ≤ new.peak := by
  cases h with
  | inputs new inputs =>
    rw [inputs]
    exact ⟨rfl, rfl, id, le_rfl⟩
  | sent c _ =>
    have hsent : l.takeSent c = { l with
        lc := (l.takeSent c).lc, cc := (l.takeSent c).cc, pc := (l.takeSent c).pc, holdOff := (l.takeSent c).holdOff } := by
      unfold Lsu.takeSent
      dsimp only
      split <;> rfl
    rw [hsent]
    exact ⟨rfl, rfl, id, le_rfl⟩
  | claim | silent | lost => exact ⟨rfl, rfl, id, le_max_left _ _⟩
  | isolates silenced kept => exact ⟨rfl, rfl, kept, le_rfl⟩
  | silenced => exact ⟨rfl, rfl, fun _ => rfl, le_rfl⟩
  | timers | cleared | listens | recovers => exact ⟨rfl, rfl, id, le_rfl⟩

theorem State.LsuStep.settled {s t : State} {sig : Option Signal} (h : State.LsuStep sig s t) : s.Settled t := by
  cases h with
  | nothing => exact .refl s
  | checkError => exact ⟨rfl, rfl, rfl, rfl, id, id, id, id, le_rfl⟩
  | takes q new after new_of _ =>
    obtain ⟨hown, hbudget, hsilenced, hpeak⟩ := new_of.settled
    exact ⟨rfl, hown, hbudget, rfl, id, id, hsilenced, id, hpeak⟩

theorem State.OffShare.settled {s t : State} (h : s.OffShare t) : s.Settled t :=
  ⟨by rw [h.slc], by rw [h.lsu], by rw [h.lsu], h.pins, h.configured, by rw [h.slc]; exact id, by rw [h.lsu]; exact id,
    h.scanned, by rw [h.lsu]⟩

/-- A doing of the SLC that keeps the own number and SILENCED. -/
theorem BlockStep.settled_slc {s t : State} (h : BlockStep .slc s t) (hown : t.slc.own = s.slc.own)
    (hline : s.slc.line = .silenced → t.slc.line = .silenced) : s.Settled t :=
  ⟨hown, by rw [h.lsu (by decide)], by rw [h.lsu (by decide)], h.pins, by rw [h.cmh (by decide)]; exact id, hline,
    by rw [h.lsu (by decide)]; exact id, by rw [h.stc (by decide)]; exact id, by rw [h.lsu (by decide)]⟩

theorem State.SlcTook.settled {s t : State} {sig : Signal} (h : s.SlcTook sig t) : s.Settled t := by
  cases h with
  | claim c _ => exact ⟨rfl, rfl, rfl, rfl, id, id, id, id, le_rfl⟩
  | other step block => exact block.settled_slc step.own step.silenced

theorem State.settled_dropped (s : State) (rest : List Signal) : s.Settled { s with bus := rest } :=
  ⟨rfl, rfl, rfl, rfl, id, id, id, id, le_rfl⟩

/-- What is settled in one state stays so through an event. -/
theorem keptByShare_settled (s : State) : KeptByShare s.Settled where
  offShare h hs := hs.trans h.settled
  limitTaken {t n rest} _ hs := by
    have h := State.dspLimit_block n { t with bus := rest }
    exact hs.trans ⟨by rw [handle, h.slc (by decide)], by rw [handle, h.lsu (by decide)],
      by rw [handle, h.lsu (by decide)], h.pins, by rw [handle, h.cmh (by decide)]; exact id,
      by rw [handle, h.slc (by decide)]; exact id, by rw [handle, h.lsu (by decide)]; exact id,
      by rw [handle, h.stc (by decide)]; exact id, by rw [handle, h.lsu (by decide)]⟩
  lsuDone h hs := hs.trans h.settled
  lsuTaken {t _ rest _} _ _ h hs := (hs.trans (t.settled_dropped rest)).trans h.settled
  slcDone h hs := hs.trans (h.block.settled_slc h.step.own h.step.silenced)
  slcTaken {t _ rest} _ hsig hs := (hs.trans (t.settled_dropped rest)).trans (handle_slcTook hsig _).settled

/-- Settles O17: no doing of any block undoes what a reset settles, and from a quiet state only a power-on reset resets. -/
theorem settledMattersKeptUntilReset : Obligations.SettledMattersKeptUntilReset := by
  intro i s t hquiet hreset ht
  obtain ⟨hown, hlsuOwn, hbudget, hpins, hconfigured, hline, hsilenced, hscanned, hpeak⟩ :=
    (keptByShare_settled s).exec_of_quiet hquiet hreset ht (.refl s)
  exact ⟨hown, hlsuOwn, hbudget, hpins, hconfigured, hline, hsilenced, hscanned, hpeak⟩

end Sys2Proof.Machine
end

section
/-! SUPPORT. The applied limit at the LSU and at the dispatcher, and the claims held, waiting and sent, through every step
(R48, R50, R61 to R68). -/

namespace Sys2Proof.Machine

/-! ### The applied limit -/

/-- R66: the limit at the dispatcher after a delivery. -/
def Signal.limitAfter (limit : Nat) : Signal → Nat
  | .dspLimit n => n
  | _ => limit

/-- R61, R65, R66: the allowance and the limit stand as their rules give them, and the limits on their way end in the
LSU's. -/
structure State.LimitSound (s : State) : Prop where
  refreshed : s.lsu.refresh = s.lsu
  delivered : s.shares.foldl Signal.limitAfter s.dsp.limit = s.lsu.limit

/-- R65: in every mode the limit is at most the budget. -/
theorem Lsu.refresh_limit_le_budget (l : Lsu) : l.refresh.limit ≤ l.budget := by
  have hshare : l.isolatedLimit ≤ l.budget := (min_le_right _ _).trans (Nat.div_le_self _ _)
  have hlimit : l.refresh.limit = Lsu.limitNow { l with allowance := l.allowanceNow } := rfl
  rw [hlimit]
  unfold Lsu.limitNow
  split
  · exact Nat.zero_le _
  · exact Nat.zero_le _
  · exact shareOf_le_budget _ _ _
  · exact hshare
  · exact hshare

/-- What counts for the limit at the dispatcher is the share's deliveries. -/
theorem State.foldl_limitAfter (s : State) : s.bus.foldl (fun l sig => match sig with
    | .dspLimit x => x
    | _ => l) s.dsp.limit = s.shares.foldl Signal.limitAfter s.dsp.limit := by
  rw [State.shares, List.foldl_filter]
  refine congrFun (congrArg₂ _ ?_ rfl) _
  funext l sig
  cases sig <;> rfl

theorem State.limitSound_iff {s : State} : s.limitSound = true ↔ s.LimitSound := by
  simp only [State.limitSound, Bool.and_eq_true, decide_eq_true_eq]
  constructor
  · rintro ⟨⟨hrefresh, -⟩, hbus⟩
    exact ⟨hrefresh, s.foldl_limitAfter.symm.trans hbus⟩
  · rintro ⟨hrefresh, hbus⟩
    refine ⟨⟨hrefresh, ?_⟩, s.foldl_limitAfter.trans hbus⟩
    rw [← hrefresh]
    exact Lsu.refresh_limit_le_budget _

/-- Deliveries without a new limit leave the limit at the dispatcher. -/
theorem foldl_limitAfter_append {sigs sigs' : List Signal} (h : ∀ n, .dspLimit n ∉ sigs') (limit : Nat) :
    (sigs ++ sigs').foldl Signal.limitAfter limit = sigs.foldl Signal.limitAfter limit := by
  rw [List.foldl_append]
  generalize sigs.foldl Signal.limitAfter limit = limit
  induction sigs' with
  | nil => rfl
  | cons sig sigs' ih =>
    have hsig : sig.limitAfter limit = limit := by
      cases sig with
      | dspLimit n => exact absurd List.mem_cons_self (h n)
      | _ => rfl
    rw [List.foldl_cons, hsig]
    exact ih fun n hn => h n (List.mem_cons_of_mem _ hn)

theorem State.LimitSound.of_shares {s t : State} (hs : s.LimitSound) (hlsu : t.lsu = s.lsu)
    (hlimit : t.dsp.limit = s.dsp.limit) {sigs : List Signal} (hshares : t.shares = s.shares ++ sigs)
    (hsigs : ∀ n, .dspLimit n ∉ sigs) : t.LimitSound := by
  refine ⟨by rw [hlsu, hs.refreshed], ?_⟩
  rw [hshares, hlimit, foldl_limitAfter_append hsigs, hs.delivered, hlsu]

/-- The SLC delivers no limit. -/
theorem State.LimitSound.slcStep {s t : State} (hs : s.LimitSound) (h : s.SlcStep t) (hblock : BlockStep .slc s t) :
    t.LimitSound := by
  obtain ⟨-, -, -, sigs, hshares, hsigs⟩ := h
  exact hs.of_shares (hblock.lsu (by decide)) (congrArg Dsp.limit (hblock.dsp (by decide))) hshares
    fun n hn => hsigs _ hn

theorem State.LimitSound.slcTook {s t : State} {sig : Signal} (hs : s.LimitSound) (h : s.SlcTook sig t) :
    t.LimitSound := by
  cases h with
  | claim c _ => exact hs.of_shares rfl rfl (sigs := []) (List.append_nil _).symm (by simp)
  | other step block => exact hs.slcStep step block

/-- R66: the LSU delivers every change of its limit. -/
theorem State.LimitSound.lsuStep {s t : State} {sig : Option Signal} (hs : s.LimitSound) (h : State.LsuStep sig s t) :
    t.LimitSound := by
  cases h with
  | nothing => exact hs
  | checkError => exact hs.of_shares rfl rfl (State.emit_shares s _) (by simp [Signal.isShare])
  | takes q new after new_of after_of =>
    refine ⟨new.refresh_refresh, ?_⟩
    have hafter : ∀ n, .dspLimit n ∉ after.filter Signal.isShare := by
      obtain rfl | rfl := after_of <;> simp [Signal.isShare]
    rw [State.lsuTo_shares, foldl_limitAfter_append hafter, List.foldl_append]
    change (sigIf (s.lsu.limit != new.refresh.limit) _).foldl Signal.limitAfter
      (s.shares.foldl Signal.limitAfter s.dsp.limit) = new.refresh.limit
    rw [hs.delivered]
    cases h : s.lsu.limit != new.refresh.limit with
    | true => rfl
    | false => exact bne_eq_false_iff_eq.mp h

/-- A delivery other than a limit may be taken from the bus. -/
theorem State.LimitSound.drop {s : State} (hs : s.LimitSound) {sig : Signal} {rest : List Signal}
    (hbus : s.bus = sig :: rest) (hsig : ∀ n, sig ≠ .dspLimit n) : State.LimitSound { s with bus := rest } := by
  refine ⟨hs.refreshed, ?_⟩
  have hdelivered := hs.delivered
  rw [State.shares, hbus, List.filter_cons] at hdelivered
  split at hdelivered
  · rw [List.foldl_cons] at hdelivered
    cases sig with
    | dspLimit n => exact absurd rfl (hsig n)
    | _ => exact hdelivered
  · exact hdelivered

theorem State.afterReset_limitSound (cause : EventCode) (levels : Straps) (mem : List MemCell) (freeUse : Nat)
    (pending : List Instr) : (State.afterReset cause levels mem freeUse pending).LimitSound :=
  ⟨(Lsu.afterReset_fresh levels).1, rfl⟩

/-- R58: a claim counts whatever the age of its entry, so a millisecond changes neither the allowance nor the limit. -/
theorem Lsu.tick_refresh (l : Lsu) : l.tick.refresh = l.refresh.tick := by
  have hpeers : l.tick.countedPeers = l.countedPeers := by
    simp only [Lsu.countedPeers, Lsu.tick, List.map_map]
    rfl
  have hallow : l.tick.allowanceNow = l.allowanceNow := by
    rw [Lsu.allowanceNow, hpeers]
    rfl
  rw [Lsu.refresh, hallow]
  rfl

theorem keptThroughResets_limitSound : KeptThroughResets State.LimitSound where
  offShare h hs := hs.of_shares h.lsu h.limit (sigs := []) (by rw [h.shares, List.append_nil]) (by simp)
  limitTaken {s n rest} hbus hs := by
    have hblock := State.dspLimit_block n { s with bus := rest }
    have hshares : (handle (.dspLimit n) { s with bus := rest }).shares = rest.filter Signal.isShare :=
      (State.dspLimit_sends n { s with bus := rest }).shares (by decide)
    have hlimit : (handle (.dspLimit n) { s with bus := rest }).dsp.limit = n := by
      rw [handle, State.dspLimit_dsp, Dsp.takeLimit_limit]
    have hdelivered := hs.delivered
    rw [State.shares, hbus, List.filter_cons_of_pos rfl, List.foldl_cons] at hdelivered
    have hlsu : (handle (.dspLimit n) { s with bus := rest }).lsu = s.lsu := hblock.lsu (by decide)
    refine ⟨by rw [hlsu, hs.refreshed], ?_⟩
    rw [hshares, hlimit, hlsu]
    exact hdelivered
  lsuDone h hs := hs.lsuStep h
  lsuTaken hbus hsig h hs := (hs.drop hbus fun n hn => by cases hn ▸ hsig).lsuStep h
  slcDone h hs := hs.slcStep h.step h.block
  slcTaken hbus hsig hs := (hs.drop hbus fun n hn => by cases hn ▸ hsig).slcTook (handle_slcTook hsig _)
  reset cause levels s := by
    unfold State.resetBy
    dsimp only
    split
    · exact (State.afterReset_limitSound _ _ _ _ _).slcStep (State.enterSilenced_step _) (State.enterSilenced_block _)
    · exact State.afterReset_limitSound _ _ _ _ _
  tick {s} hs := by
    refine ⟨?_, hs.delivered⟩
    change s.lsu.tick.refresh = s.lsu.tick
    rw [Lsu.tick_refresh, hs.refreshed]

/-! ### The claims -/

/-- A claim that waits between the blocks (R63, R179). -/
def State.ClaimOnBus (s : State) (c : Claim) : Prop := .slcClaim c ∈ s.shares ∨ .lsuSent c ∈ s.shares

/-- R48, R50, R62, R63, R65: the claims held are in order, wherever they stand; a pending claim is the last one sent, and
in SHARING the cleared claim asks for no more than the last one sent. -/
structure State.ClaimsSound (s : State) : Prop where
  demand  : s.lsu.dc.ordered = true
  cleared : s.lsu.cc.ordered = true
  pending : s.lsu.pc = none ∨ s.lsu.pc = s.lsu.lc
  last    : ∀ c, s.lsu.lc = some c → c.ordered = true
  sharing : s.lsu.mode = .sharing → ∃ c, s.lsu.lc = some c ∧ s.lsu.cc.want ≤ c.want
  slc     : ∀ c, s.slc.Holds c → c.ordered = true
  onBus   : ∀ c, s.ClaimOnBus c → c.ordered = true

/-- Table 9-1: the claims in the slot and in flight, told apart. -/
theorem Slc.forall_holds {l : Slc} {p : Claim → Prop} : (∀ c, l.Holds c → p c) ↔
    (∀ c, l.claimSlot = some c → p c) ∧ ∀ c bytes cell, l.inFlight = some ⟨.claim c, bytes, cell⟩ → p c := by
  refine ⟨fun h => ⟨fun c hc => h c (.inl hc), fun c bytes cell hf => h c (.inr ⟨_, hf, rfl⟩)⟩, ?_⟩
  rintro ⟨hslot, hflight⟩ c (hc | ⟨⟨frame, bytes, cell⟩, hf, rfl⟩)
  · exact hslot c hc
  · exact hflight c bytes cell hf

theorem State.forall_claimOnBus {s : State} {p : Claim → Bool} : (∀ c, s.ClaimOnBus c → p c = true) ↔
    (s.bus.all fun sig => match sig with
      | .slcClaim c => p c
      | .lsuSent c => p c
      | _ => true) = true := by
  rw [List.all_eq_true]
  constructor
  · intro h sig hsig
    cases sig with
    | slcClaim c => exact h c (.inl (List.mem_filter.mpr ⟨hsig, rfl⟩))
    | lsuSent c => exact h c (.inr (List.mem_filter.mpr ⟨hsig, rfl⟩))
    | _ => rfl
  · rintro h c (hc | hc)
    · exact h _ (List.mem_filter.mp hc).1
    · exact h _ (List.mem_filter.mp hc).1

theorem State.claimsSound_iff {s : State} : s.claimsSound = true ↔ s.ClaimsSound := by
  have hlast : (match s.lsu.lc with
      | none => s.lsu.mode != .sharing
      | some c => c.ordered && (s.lsu.mode != .sharing || decide (s.lsu.cc.want ≤ c.want))) = true ↔
      (∀ c, s.lsu.lc = some c → c.ordered = true) ∧
        (s.lsu.mode = .sharing → ∃ c, s.lsu.lc = some c ∧ s.lsu.cc.want ≤ c.want) := by
    cases s.lsu.lc with
    | none => simp
    | some c => simp [← imp_iff_not_or]
  have hslot : (match s.slc.claimSlot with
      | none => true
      | some c => c.ordered) = true ↔ ∀ c, s.slc.claimSlot = some c → c.ordered = true := by
    cases s.slc.claimSlot <;> simp
  have hflight : (match s.slc.inFlight with
      | some ⟨.claim c, _, _⟩ => c.ordered
      | _ => true) = true ↔
      ∀ c bytes cell, s.slc.inFlight = some ⟨.claim c, bytes, cell⟩ → c.ordered = true := by
    obtain - | ⟨⟨frame, bytes, cell⟩⟩ := s.slc.inFlight
    · simp
    · cases frame <;> simp
  have hpending : (s.lsu.pc.isNone || s.lsu.pc == s.lsu.lc) = true ↔ s.lsu.pc = none ∨ s.lsu.pc = s.lsu.lc := by
    simp
  simp only [State.claimsSound, Bool.and_eq_true]
  constructor
  · rintro ⟨⟨⟨⟨⟨⟨hdc, hcc⟩, hpc⟩, hlc⟩, hs⟩, hf⟩, hbus⟩
    obtain ⟨hordered, hsharing⟩ := hlast.mp hlc
    exact ⟨hdc, hcc, hpending.mp hpc, hordered, hsharing, Slc.forall_holds.mpr ⟨hslot.mp hs, hflight.mp hf⟩,
      State.forall_claimOnBus.mpr hbus⟩
  · rintro ⟨hdc, hcc, hpc, hordered, hsharing, hslc, hbus⟩
    obtain ⟨hs, hf⟩ := Slc.forall_holds.mp hslc
    exact ⟨⟨⟨⟨⟨⟨hdc, hcc⟩, hpending.mpr hpc⟩, hlast.mpr ⟨hordered, hsharing⟩⟩, hslot.mpr hs⟩, hflight.mpr hf⟩,
      State.forall_claimOnBus.mp hbus⟩

theorem Claim.ordered_iff {c : Claim} : c.ordered = true ↔ c.floor ≤ c.want := decide_eq_true_iff

theorem Claim.ordered_meet {x y : Claim} (hx : x.ordered = true) (hy : y.ordered = true) :
    (x.meet y).ordered = true := by
  rw [Claim.ordered_iff] at *
  exact min_le_min hx hy

/-- R48: the demand claim wants its floor at least. -/
theorem Lsu.demandClaim_ordered (l : Lsu) : l.demandClaim.ordered = true := by
  unfold Lsu.demandClaim
  split
  · exact Claim.ordered_iff.mpr (le_max_left _ _)
  · rfl

/-- R63: the claims after a claim is sent. -/
theorem Lsu.takeSent_claims (l : Lsu) (c : Claim) :
    (l.takeSent c).dc = l.dc ∧ (l.takeSent c).lc = some c ∧ (l.takeSent c).cc = l.cc.meet c ∧
      ((l.takeSent c).pc = none ∨ (l.takeSent c).pc = some c) := by
  unfold Lsu.takeSent
  dsimp only
  split
  · exact ⟨rfl, rfl, rfl, .inr rfl⟩
  · exact ⟨rfl, rfl, rfl, .inl rfl⟩

/-- What holds of the claims at the LSU. -/
structure Lsu.ClaimsSound (l : Lsu) : Prop where
  demand  : l.dc.ordered = true
  cleared : l.cc.ordered = true
  pending : l.pc = none ∨ l.pc = l.lc
  last    : ∀ c, l.lc = some c → c.ordered = true
  sharing : l.mode = .sharing → ∃ c, l.lc = some c ∧ l.cc.want ≤ c.want

/-- R48, R63 to R69: every new state of the LSU keeps its claims in order, if a sent claim is. -/
theorem Lsu.Takes.claimsSound {l new : Lsu} {sig : Option Signal} (h : l.Takes sig new) (hl : l.ClaimsSound)
    (hsig : ∀ c, sig = some (.lsuSent c) → c.ordered = true) : new.ClaimsSound := by
  obtain ⟨hdc, hcc, hpc, hlc, hsharing⟩ := hl
  cases h with
  | inputs new inputs =>
    rw [inputs]
    exact ⟨Lsu.demandClaim_ordered _, hcc, hpc, hlc, hsharing⟩
  | cleared c pending =>
    have hlast : l.lc = some c := (hpc.resolve_left (by simp [pending])).symm.trans pending
    exact ⟨hdc, hlc c hlast, .inl rfl, hlc, fun _ => ⟨c, hlast, le_rfl⟩⟩
  | sent c _ =>
    obtain ⟨hdc', hlc', hcc', hpc'⟩ := l.takeSent_claims c
    have hc := hsig c rfl
    refine ⟨?_, ?_, ?_, fun d hd => ?_, fun _ => ⟨c, hlc', ?_⟩⟩
    · exact (congrArg Claim.ordered hdc').trans hdc
    · exact (congrArg Claim.ordered hcc').trans (Claim.ordered_meet hcc hc)
    · exact hpc'.imp_right fun h => h.trans hlc'.symm
    · cases hlc'.symm.trans hd
      exact hc
    · exact (congrArg Claim.want hcc').trans_le (min_le_right _ _)
  | recovers => exact ⟨hdc, Claim.ordered_iff.mpr (min_le_right _ _), hpc, hlc, fun h => by cases h⟩
  | listens => exact ⟨hdc, hcc, hpc, hlc, fun h => by cases h⟩
  | isolates => exact ⟨hdc, hcc, .inl rfl, hlc, fun h => by cases h⟩
  | timers | claim | silent | lost | silenced => exact ⟨hdc, hcc, hpc, hlc, hsharing⟩

theorem State.ClaimsSound.lsu {s : State} (h : s.ClaimsSound) : s.lsu.ClaimsSound :=
  ⟨h.demand, h.cleared, h.pending, h.last, h.sharing⟩

theorem State.ClaimsSound.of_lsu {s : State} (h : s.lsu.ClaimsSound) (hslc : ∀ c, s.slc.Holds c → c.ordered = true)
    (hbus : ∀ c, s.ClaimOnBus c → c.ordered = true) : s.ClaimsSound :=
  ⟨h.demand, h.cleared, h.pending, h.last, h.sharing, hslc, hbus⟩

/-- R50, R52 to R54: the LSU hands over its demand claim and no other. -/
theorem State.ClaimsSound.lsuStep {s t : State} {sig : Option Signal} (hs : s.ClaimsSound) (h : State.LsuStep sig s t)
    (hsig : ∀ c, sig = some (.lsuSent c) → c.ordered = true) : t.ClaimsSound := by
  cases h with
  | nothing => exact hs
  | checkError =>
    refine .of_lsu hs.lsu hs.slc fun c hc => hs.onBus c ?_
    rwa [State.ClaimOnBus, State.emit_shares, List.filter_cons_of_neg (by decide), List.filter_nil, List.append_nil] at hc
  | takes q new after new_of after_of =>
    have hnew := new_of.claimsSound hs.lsu hsig
    refine .of_lsu ⟨hnew.demand, hnew.cleared, hnew.pending, hnew.last, hnew.sharing⟩ hs.slc fun c hc => ?_
    obtain hc | hc := hc
    · obtain hc | hc | hc := State.mem_lsuTo_shares hc
      · exact hs.onBus c (.inl hc)
      · cases hc
      · obtain rfl | rfl := after_of
        · cases hc
        · cases List.mem_singleton.mp hc
          exact hnew.demand
    · obtain hc | hc | hc := State.mem_lsuTo_shares hc
      · exact hs.onBus c (.inr hc)
      · cases hc
      · obtain rfl | rfl := after_of <;> simp at hc

/-- R175 to R180: the SLC holds and reports no claim but those that came to it. -/
theorem State.ClaimsSound.slcStep {s t : State} (hs : s.ClaimsSound) (h : s.SlcStep t) (hblock : BlockStep .slc s t) :
    t.ClaimsSound := by
  obtain ⟨-, -, hholds, sigs, hshares, hsigs⟩ := h
  refine .of_lsu (by rw [hblock.lsu (by decide)]; exact hs.lsu) (fun c hc => hs.slc c (hholds c hc)) fun c hc => ?_
  simp only [State.ClaimOnBus, hshares, List.mem_append] at hc
  obtain (hc | hc) | hc | hc := hc
  · exact hs.onBus c (.inl hc)
  · exact (hsigs _ hc).elim
  · exact hs.onBus c (.inr hc)
  · exact hs.slc c (hsigs _ hc)

theorem State.ClaimsSound.slcTook {s t : State} {sig : Signal} (hs : s.ClaimsSound) (h : s.SlcTook sig t)
    (hsig : ∀ c, sig = .slcClaim c → c.ordered = true) : t.ClaimsSound := by
  cases h with
  | claim c is_claim =>
    refine .of_lsu hs.lsu (fun d hd => ?_) hs.onBus
    obtain hd | hd := hd
    · cases hd
      exact hsig c is_claim
    · exact hs.slc d (.inr hd)
  | other step block => exact hs.slcStep step block

theorem State.ClaimsSound.of_same {s t : State} (hs : s.ClaimsSound) (hlsu : t.lsu = s.lsu) (hslc : t.slc = s.slc)
    (hshares : t.shares ⊆ s.shares) : t.ClaimsSound :=
  .of_lsu (hlsu ▸ hs.lsu) (hslc ▸ hs.slc) fun c hc => hs.onBus c (hc.imp (@hshares _) (@hshares _))

theorem State.shares_dropped {s : State} {sig : Signal} {rest : List Signal} (hbus : s.bus = sig :: rest) :
    State.shares { s with bus := rest } ⊆ s.shares := by
  rw [State.shares, State.shares, hbus]
  exact List.filter_subset _ (List.subset_cons_self _ _)

theorem State.ClaimsSound.drop {s : State} (hs : s.ClaimsSound) {sig : Signal} {rest : List Signal}
    (hbus : s.bus = sig :: rest) : State.ClaimsSound { s with bus := rest } :=
  hs.of_same rfl rfl (State.shares_dropped hbus)

/-- The claim that is next to be taken from the bus. -/
theorem State.ClaimsSound.next {s : State} (hs : s.ClaimsSound) {sig : Signal} {rest : List Signal}
    (hbus : s.bus = sig :: rest) {c : Claim} (h : sig = .slcClaim c ∨ sig = .lsuSent c) : c.ordered = true := by
  refine hs.onBus c ?_
  rw [State.ClaimOnBus, State.shares, hbus]
  obtain rfl | rfl := h
  · exact .inl List.mem_cons_self
  · exact .inr List.mem_cons_self

theorem State.afterReset_claimsSound (cause : EventCode) (levels : Straps) (mem : List MemCell) (freeUse : Nat)
    (pending : List Instr) : (State.afterReset cause levels mem freeUse pending).ClaimsSound := by
  refine .of_lsu ⟨rfl, rfl, .inl rfl, fun _ hc => (by cases hc), fun h => by cases h⟩ (fun c hc => ?_) fun c hc => ?_
  · obtain hc | ⟨f, hf, -⟩ := hc
    · cases hc
    · cases hf
  · obtain hc | hc := hc <;> cases hc

/-- R170: the passage of time moves the frame in flight, and no claim. -/
theorem Slc.tick_holds (l : Slc) (c : Claim) : l.tick.Holds c → l.Holds c := by
  unfold Slc.tick
  split
  · split
    · next f hf =>
      rintro (hc | ⟨g, hg, hc⟩)
      · exact .inl hc
      · cases hg
        exact .inr ⟨f, hf, hc⟩
    · split
      · exact id
      · have hgap := (Slc.counts_lineOnly (List.replicate 10 .recessive) l).trans (Slc.gap_lineOnly _)
        rw [hgap]
        exact id
  · exact id

theorem keptThroughResets_claimsSound : KeptThroughResets State.ClaimsSound where
  offShare h hs := hs.of_same h.lsu h.slc fun _ hsig => h.shares ▸ hsig
  limitTaken {s n rest} hbus hs := by
    have hblock := State.dspLimit_block n { s with bus := rest }
    have hsends := State.dspLimit_sends n { s with bus := rest }
    exact (hs.drop hbus).of_same (hblock.lsu (by decide)) (hblock.slc (by decide))
      fun _ hsig => hsends.shares (by decide) ▸ hsig
  lsuDone h hs := hs.lsuStep h fun _ hc => by cases hc
  lsuTaken hbus _ h hs := (hs.drop hbus).lsuStep h fun _ hc => by
    cases hc
    exact hs.next hbus (.inr rfl)
  slcDone h hs := hs.slcStep h.step h.block
  slcTaken hbus hsig hs := (hs.drop hbus).slcTook (handle_slcTook hsig _) fun _ hc => hs.next hbus (.inl hc)
  reset cause levels s := by
    unfold State.resetBy
    dsimp only
    split
    · exact (State.afterReset_claimsSound _ _ _ _ _).slcStep (State.enterSilenced_step _) (State.enterSilenced_block _)
    · exact State.afterReset_claimsSound _ _ _ _ _
  tick {s} hs := .of_lsu ⟨hs.demand, hs.cleared, hs.pending, hs.last, hs.sharing⟩
    (fun c hc => hs.slc c (s.slc.tick_holds c hc)) hs.onBus

/-! ### The applied limit and the claims -/

/-- Settles O8: the limit stands as its mode forms it, from a share of the cleared claim, which asks for no more than the
last claim sent. -/
theorem appliedLimitKeepsToClaims : Obligations.AppliedLimitKeepsToClaims := by
  intro s t hlimit hclaims ht
  have hl := keptThroughResets_limitSound.step ht (State.limitSound_iff.mp hlimit)
  have hc := keptThroughResets_claimsSound.step ht (State.claimsSound_iff.mp hclaims)
  have hformed : t.lsu.limit = Lsu.limitNow t.lsu := by
    have := congrArg Lsu.limitNow hl.refreshed
    exact (congrArg Lsu.limit hl.refreshed).symm.trans this
  have hallowance : t.lsu.allowance = shareOf t.lsu.budget t.lsu.cc t.lsu.countedPeers :=
    (congrArg Lsu.allowance hl.refreshed).symm
  have hwant : t.lsu.allowance ≤ t.lsu.cc.want := by
    rw [hallowance]
    exact shareOf_le_want _ (Claim.ordered_iff.mp hc.cleared) _
  refine ⟨State.limitSound_iff.mpr hl, State.claimsSound_iff.mpr hc, ?budget, ?idle, ?sharing, ?isolated, ?delivered⟩
  case budget =>
    rw [← hl.refreshed]
    exact Lsu.refresh_limit_le_budget _
  case idle =>
    rintro (hmode | hmode) <;> rw [hformed, Lsu.limitNow, hmode]
  case sharing =>
    intro hmode
    have hshare : t.lsu.limit = t.lsu.allowance := by rw [hformed, Lsu.limitNow, hmode]
    obtain ⟨sent, hsent, hle⟩ := hc.sharing hmode
    exact ⟨hshare, hwant, sent, hsent, hle, hshare.trans_le (hwant.trans hle)⟩
  case isolated =>
    rintro (hmode | hmode) <;> rw [hformed, Lsu.limitNow, hmode] <;> rfl
  case delivered =>
    intro hbus
    have hdsp := hl.delivered
    rw [State.shares, hbus, List.filter_nil, List.foldl_nil] at hdsp
    exact ⟨hdsp, by rw [Dsp.headroom, hdsp]⟩

end Sys2Proof.Machine
end

section
/-! SUPPORT. The peer table: its order, its entries and S_peak through every step, and what one entry's change leaves of the
others (R47, R56 to R58). -/

namespace Sys2Proof.Machine

/-! ### Entries put, found and removed -/

theorem findPeer_cons (station : Nat) (q : Peer) (rest : List Peer) :
    findPeer station (q :: rest) = if q.station = station then some q else findPeer station rest := by
  rw [findPeer, List.find?_cons]
  by_cases h : q.station = station
  · rw [if_pos h, beq_iff_eq.mpr h]
  · rw [if_neg h, beq_eq_false_iff_ne.mpr h]
    rfl

theorem findPeer_putPeer_same (p : Peer) (ps : List Peer) : findPeer p.station (putPeer p ps) = some p := by
  induction ps with
  | nil => exact (findPeer_cons _ _ _).trans (if_pos rfl)
  | cons q rest ih =>
    rw [putPeer]
    split
    · exact (findPeer_cons _ _ _).trans (if_pos rfl)
    · split
      · exact (findPeer_cons _ _ _).trans (if_pos rfl)
      · next hne => rwa [findPeer_cons, if_neg (Ne.symm hne)]

theorem findPeer_putPeer_other {p : Peer} {station : Nat} (h : station ≠ p.station) (ps : List Peer) :
    findPeer station (putPeer p ps) = findPeer station ps := by
  induction ps with
  | nil => exact (findPeer_cons _ _ _).trans (if_neg h.symm)
  | cons q rest ih =>
    rw [putPeer]
    split
    · exact (findPeer_cons _ _ _).trans (if_neg h.symm)
    · split
      · next heq => rw [findPeer_cons, findPeer_cons, if_neg h.symm, if_neg (heq ▸ h.symm)]
      · rw [findPeer_cons, findPeer_cons, ih]

theorem findPeer_removed_same (station : Nat) (ps : List Peer) :
    findPeer station (ps.filter (·.station != station)) = none := by
  rw [findPeer, List.find?_eq_none]
  intro p hp
  simpa using (List.mem_filter.mp hp).2

theorem findPeer_removed_other {station other : Nat} (h : other ≠ station) (ps : List Peer) :
    findPeer other (ps.filter (·.station != station)) = findPeer other ps := by
  induction ps with
  | nil => rfl
  | cons q rest ih =>
    by_cases hq : q.station = station
    · rw [List.filter_cons_of_neg (by simp [hq]), findPeer_cons, if_neg (hq ▸ h.symm), ih]
    · rw [List.filter_cons_of_pos (by simp [hq]), findPeer_cons, findPeer_cons, ih]

theorem mem_of_findPeer {station : Nat} {ps : List Peer} {p : Peer} (h : findPeer station ps = some p) : p ∈ ps :=
  List.mem_of_find?_eq_some h

theorem eq_or_mem_of_mem_putPeer {p q : Peer} {ps : List Peer} (h : q ∈ putPeer p ps) : q = p ∨ q ∈ ps := by
  induction ps with
  | nil => exact .inl (List.mem_singleton.mp h)
  | cons r rest ih =>
    rw [putPeer] at h
    split at h
    · exact List.mem_cons.mp h
    · split at h
      · exact (List.mem_cons.mp h).imp_right (List.mem_cons_of_mem _)
      · obtain rfl | h := List.mem_cons.mp h
        · exact .inr List.mem_cons_self
        · exact (ih h).imp_right (List.mem_cons_of_mem _)

/-! ### The order of the table -/

/-- A table in station order, one entry per station. -/
abbrev PeersInOrder (ps : List Peer) : Prop := ps.Pairwise (·.station < ·.station)

theorem peersOrdered_iff {ps : List Peer} : peersOrdered ps = true ↔ PeersInOrder ps := by
  induction ps with
  | nil => simp [peersOrdered]
  | cons p rest ih =>
    rw [peersOrdered.eq_def, Bool.and_eq_true, ih]
    refine Iff.trans (and_congr_left fun hrest => ?_) List.pairwise_cons.symm
    cases rest with
    | nil => simp
    | cons q rest =>
      rw [decide_eq_true_iff, List.forall_mem_cons]
      exact ⟨fun h => ⟨h, fun r hr => h.trans ((List.pairwise_cons.mp hrest).1 r hr)⟩, And.left⟩

theorem PeersInOrder.putPeer {ps : List Peer} (h : PeersInOrder ps) (p : Peer) : PeersInOrder (putPeer p ps) := by
  induction ps with
  | nil => exact List.pairwise_singleton _ _
  | cons q rest ih =>
    obtain ⟨hq, hrest⟩ := List.pairwise_cons.mp h
    rw [Machine.putPeer]
    split
    · next hlt =>
      exact List.pairwise_cons.mpr ⟨List.forall_mem_cons.mpr ⟨hlt, fun r hr => hlt.trans (hq r hr)⟩, h⟩
    · split
      · next heq => exact List.pairwise_cons.mpr ⟨fun r hr => heq.trans_lt (hq r hr), hrest⟩
      · next hnlt hne =>
        refine List.pairwise_cons.mpr ⟨fun r hr => ?_, ih hrest⟩
        obtain rfl | hr := eq_or_mem_of_mem_putPeer hr
        · omega
        · exact hq r hr

/-- R56: a table of other stations than the own holds at most six entries. -/
theorem PeersInOrder.length_le {ps : List Peer} (h : PeersInOrder ps) {own : Nat} (hown : own < 7)
    (hs : ∀ p ∈ ps, p.station < 7 ∧ p.station ≠ own) : ps.length ≤ 6 := by
  have hnodup : (ps.map (·.station)).Nodup := List.pairwise_map.mpr (h.imp Nat.ne_of_lt)
  have hothers : ps.map (·.station) ⊆ (List.range 7).erase own := fun n hn => by
    obtain ⟨p, hp, rfl⟩ := List.mem_map.mp hn
    exact (List.mem_erase_of_ne (hs p hp).2).mpr (List.mem_range.mpr (hs p hp).1)
  have hle := (hnodup.subperm hothers).length_le
  rwa [List.length_map, List.length_erase_of_mem (List.mem_range.mpr hown), List.length_range] at hle

/-! ### The table at the LSU -/

/-- R56 to R58: the entries are other stations', sound and in order; S_peak stays from 2 to 7 and covers them; with an
invalid own number there are none (R177). -/
structure Lsu.TableSound (own : Nat) (l : Lsu) : Prop where
  entries : ∀ p ∈ l.peers, Peer.sound own p = true
  order   : PeersInOrder l.peers
  valid   : own < 7 ∨ own = 7 ∧ l.peers = []
  two_le  : 2 ≤ l.peak
  covers  : 1 + l.peers.length ≤ l.peak
  le_max  : l.peak ≤ 7

theorem Peer.sound_iff {own : Nat} {p : Peer} : Peer.sound own p = true ↔
    p.station < 7 ∧ p.station ≠ own ∧ claimFieldsValid p.floor p.want p.cls = true ∧ p.age ≤ 63500 := by
  simp only [Peer.sound, Bool.and_eq_true, decide_eq_true_eq, and_assoc]

theorem Lsu.TableSound.length_le {own : Nat} {l : Lsu} (h : l.TableSound own) : l.peers.length ≤ 6 := by
  obtain hown | ⟨-, hnone⟩ := h.valid
  · refine h.order.length_le hown fun p hp => ?_
    obtain ⟨hlt, hne, -, -⟩ := Peer.sound_iff.mp (h.entries p hp)
    exact ⟨hlt, hne⟩
  · rw [hnone]
    exact Nat.zero_le _

/-- R58: a change of the table. -/
theorem Lsu.TableSound.withPeers {own : Nat} {l : Lsu} (h : l.TableSound own) {ps : List Peer}
    (hentries : ∀ p ∈ ps, Peer.sound own p = true) (horder : PeersInOrder ps) (hvalid : own < 7 ∨ own = 7 ∧ ps = []) :
    (l.withPeers ps).TableSound own := by
  have hcount : ps.length ≤ 6 := by
    obtain hown | ⟨-, rfl⟩ := hvalid
    · refine horder.length_le hown fun p hp => ?_
      obtain ⟨hlt, hne, -, -⟩ := Peer.sound_iff.mp (hentries p hp)
      exact ⟨hlt, hne⟩
    · exact Nat.zero_le _
  have hle := h.le_max
  exact ⟨hentries, horder, hvalid, h.two_le.trans (le_max_left _ _), le_max_right _ _, max_le hle (by omega)⟩

theorem Lsu.TableSound.putPeer {own : Nat} {l : Lsu} (h : l.TableSound own) (hown : own < 7) {p : Peer}
    (hp : Peer.sound own p = true) : (l.withPeers (putPeer p l.peers)).TableSound own :=
  h.withPeers (fun q hq => (eq_or_mem_of_mem_putPeer hq).elim (fun heq => heq ▸ hp) (h.entries q)) (h.order.putPeer p)
    (.inl hown)

theorem Lsu.TableSound.of_same {own : Nat} {l l' : Lsu} (h : l.TableSound own) (hpeers : l'.peers = l.peers)
    (hpeak : l'.peak = l.peak) : l'.TableSound own := by
  obtain ⟨hentries, horder, hvalid, htwo, hcovers, hmax⟩ := h
  exact ⟨hpeers ▸ hentries, hpeers ▸ horder, hpeers ▸ hvalid, hpeak ▸ htwo, by rw [hpeers, hpeak]; exact hcovers,
    hpeak ▸ hmax⟩

theorem Lsu.takeSent_table (l : Lsu) (c : Claim) : (l.takeSent c).peers = l.peers ∧ (l.takeSent c).peak = l.peak := by
  unfold Lsu.takeSent
  dsimp only
  split <;> exact ⟨rfl, rfl⟩

/-- R56, R57: every new state of the LSU keeps the table sound, if a received claim is another station's. -/
theorem Lsu.Takes.tableSound {l new : Lsu} {sig : Option Signal} (h : l.Takes sig new) {own : Nat} (hl : l.TableSound own)
    (hsig : ∀ source floor want cls, sig = some (.lsuClaim source floor want cls) →
      own < 7 ∧ source.val < 7 ∧ source.val ≠ own) : new.TableSound own := by
  cases h with
  | claim source floor want cls valid =>
    obtain ⟨hown, hlt, hne⟩ := hsig _ _ _ _ rfl
    exact hl.putPeer hown (Peer.sound_iff.mpr ⟨hlt, hne, valid, Nat.zero_le _⟩)
  | silent p entry =>
    have hp := mem_of_findPeer entry
    obtain hown | ⟨-, hnone⟩ := hl.valid
    · obtain ⟨hlt, hne, hfields, -⟩ := Peer.sound_iff.mp (hl.entries p hp)
      exact hl.putPeer hown (Peer.sound_iff.mpr ⟨hlt, hne, hfields, (by decide : 3500 ≤ 63500)⟩)
    · rw [hnone] at hp
      cases hp
  | lost station =>
    refine hl.withPeers (fun p hp => hl.entries p (List.mem_filter.mp hp).1) (hl.order.filter _) ?_
    exact hl.valid.imp_right fun ⟨hown, hnone⟩ => ⟨hown, by rw [hnone, List.filter_nil]⟩
  | inputs new inputs =>
    rw [inputs]
    exact hl.of_same rfl rfl
  | sent c _ =>
    obtain ⟨hpeers, hpeak⟩ := l.takeSent_table c
    exact hl.of_same hpeers hpeak
  | timers | cleared | listens | recovers | isolates | silenced => exact hl.of_same rfl rfl

/-! ### The table through every step -/

/-- R47, R56, R58, R170, as `State.peersSound` has them. -/
structure State.PeersSound (s : State) : Prop where
  own      : s.lsu.own = s.slc.own
  silenced : s.slc.own < 7 ∨ s.slc.line = .silenced
  foreign  : ∀ source floor want cls, .lsuClaim source floor want cls ∈ s.shares →
    s.slc.own < 7 ∧ source.val < 7 ∧ source.val ≠ s.slc.own
  table    : s.lsu.TableSound s.slc.own

theorem State.claimsForeign_iff {s : State} : s.claimsForeign = true ↔
    ∀ source floor want cls, .lsuClaim source floor want cls ∈ s.shares →
      s.slc.own < 7 ∧ source.val < 7 ∧ source.val ≠ s.slc.own := by
  rw [State.claimsForeign, List.all_eq_true]
  constructor
  · intro h source floor want cls hmem
    have := h _ (List.mem_filter.mp hmem).1
    simpa [and_assoc] using this
  · intro h sig hsig
    cases sig with
    | lsuClaim source floor want cls => simpa [and_assoc] using h source floor want cls (List.mem_filter.mpr ⟨hsig, rfl⟩)
    | _ => rfl

theorem State.peersSound_iff {s : State} : s.peersSound = true ↔ s.PeersSound := by
  simp only [State.peersSound, Bool.and_eq_true, Bool.or_eq_true, decide_eq_true_eq, beq_iff_eq, List.isEmpty_iff,
    List.all_eq_true, peersOrdered_iff, State.claimsForeign_iff]
  constructor
  · rintro ⟨⟨⟨⟨⟨⟨⟨⟨⟨hown, hle⟩, hsilenced⟩, hnone⟩, hforeign⟩, hentries⟩, horder⟩, htwo⟩, hcovers⟩, hmax⟩
    have hvalid : s.slc.own < 7 ∨ s.slc.own = 7 ∧ s.lsu.peers = [] := by
      obtain hlt | heq := hle.lt_or_eq
      · exact .inl hlt
      · exact .inr ⟨heq, hnone.resolve_left (by omega)⟩
    exact ⟨hown, hsilenced, hforeign, hentries, horder, hvalid, htwo, hcovers, hmax⟩
  · rintro ⟨hown, hsilenced, hforeign, hentries, horder, hvalid, htwo, hcovers, hmax⟩
    refine ⟨⟨⟨⟨⟨⟨⟨⟨⟨hown, ?_⟩, hsilenced⟩, hvalid.imp_right And.right⟩, hforeign⟩, hentries⟩, horder⟩, htwo⟩, hcovers⟩, hmax⟩
    omega

theorem State.PeersSound.of_same {s t : State} (hs : s.PeersSound) (hlsu : t.lsu = s.lsu) (hslc : t.slc = s.slc)
    (hshares : t.shares ⊆ s.shares) : t.PeersSound := by
  obtain ⟨hown, hsilenced, hforeign, htable⟩ := hs
  refine ⟨by rw [hlsu, hslc, hown], by rwa [hslc], fun source floor want cls hmem => ?_, by rwa [hlsu, hslc]⟩
  rw [hslc]
  exact hforeign source floor want cls (hshares hmem)

theorem State.PeersSound.lsuStep {s t : State} {sig : Option Signal} (hs : s.PeersSound) (h : State.LsuStep sig s t)
    (hsig : ∀ source floor want cls, sig = some (.lsuClaim source floor want cls) →
      s.slc.own < 7 ∧ source.val < 7 ∧ source.val ≠ s.slc.own) : t.PeersSound := by
  cases h with
  | nothing => exact hs
  | checkError =>
    refine hs.of_same rfl rfl fun sig hmem => ?_
    rwa [State.emit_shares, List.filter_cons_of_neg (by decide), List.filter_nil, List.append_nil] at hmem
  | takes q new after new_of after_of =>
    refine ⟨new_of.settled.1.trans hs.own, hs.silenced, fun source floor want cls hmem => ?_,
      (new_of.tableSound hs.table hsig).of_same rfl rfl⟩
    refine hs.foreign source floor want cls ?_
    obtain hmem | hmem | hmem := State.mem_lsuTo_shares hmem
    · exact hmem
    · cases hmem
    · obtain rfl | rfl := after_of <;> simp at hmem

/-- R174, R177: the SLC delivers other stations' claims, and with an invalid own number none. -/
theorem State.PeersSound.slcStep {s t : State} (hs : s.PeersSound) (h : s.SlcStep t) (hblock : BlockStep .slc s t) :
    t.PeersSound := by
  obtain ⟨hown, hsilenced, -, sigs, hshares, hsigs⟩ := h
  have hlsu := hblock.lsu (by decide)
  refine ⟨by rw [hlsu, hown, hs.own], by rw [hown]; exact hs.silenced.imp_right hsilenced,
    fun source floor want cls hmem => ?_, by rw [hlsu, hown]; exact hs.table⟩
  rw [hown]
  rw [hshares, List.mem_append] at hmem
  obtain hmem | hmem := hmem
  · exact hs.foreign source floor want cls hmem
  · obtain ⟨hlt, hne, hvalid⟩ := hsigs _ hmem
    refine ⟨hs.table.valid.resolve_right fun ⟨hseven, _⟩ => ?_, hlt, hne⟩
    exact hvalid (hs.silenced.resolve_left (by omega)) hseven

theorem State.PeersSound.slcTook {s t : State} {sig : Signal} (hs : s.PeersSound) (h : s.SlcTook sig t) : t.PeersSound := by
  cases h with
  | claim c _ => exact ⟨hs.own, hs.silenced, hs.foreign, hs.table⟩
  | other step block => exact hs.slcStep step block

theorem State.PeersSound.drop {s : State} (hs : s.PeersSound) {sig : Signal} {rest : List Signal}
    (hbus : s.bus = sig :: rest) : State.PeersSound { s with bus := rest } :=
  hs.of_same rfl rfl (State.shares_dropped hbus)

/-- Tables 3-11 and 9-5, R170: after a reset the table is empty, and an invalid own number goes with SILENCED. -/
theorem State.resetBy_peersSound (cause : EventCode) (levels : Straps) (s : State) :
    (s.resetBy cause levels).PeersSound := by
  have htable : Lsu.TableSound levels.station.val (Lsu.afterReset levels) := by
    refine ⟨fun p hp => (by cases hp), List.Pairwise.nil, ?_, (by decide : 2 ≤ 2), (by decide : 1 ≤ 2), (by decide : 2 ≤ 7)⟩
    have := levels.station.isLt
    exact (by omega : levels.station.val < 7 ∨ levels.station.val = 7).imp_right fun h => ⟨h, rfl⟩
  unfold State.resetBy
  dsimp only
  split
  · exact ⟨rfl, .inr rfl, fun _ _ _ _ hmem => by simp [State.enterSilenced, State.shares, State.post, State.afterReset,
      Signal.inOrder, Signal.rank, Signal.isShare] at hmem, htable⟩
  · next hvalid =>
    refine ⟨rfl, .inl ?_, fun _ _ _ _ hmem => (by cases hmem), htable⟩
    change levels.station.val < 7
    have := levels.station.isLt
    omega

theorem Peer.tick_sound {own : Nat} {p : Peer} (h : Peer.sound own p = true) : Peer.sound own p.tick = true := by
  obtain ⟨hlt, hne, hfields, hage⟩ := Peer.sound_iff.mp h
  refine Peer.sound_iff.mpr ⟨hlt, hne, hfields, ?_⟩
  change countUp 63500 p.age ≤ 63500
  unfold countUp
  split <;> omega

theorem Lsu.TableSound.tick {own : Nat} {l : Lsu} (h : l.TableSound own) : l.tick.TableSound own := by
  have hlength : l.tick.peers.length = l.peers.length := List.length_map _
  refine ⟨fun p hp => ?_, List.pairwise_map.mpr h.order, ?_, h.two_le, hlength ▸ h.covers, h.le_max⟩
  · obtain ⟨q, hq, rfl⟩ := List.mem_map.mp hp
    exact Peer.tick_sound (h.entries q hq)
  · exact h.valid.imp_right fun ⟨hown, hnone⟩ => ⟨hown, List.map_eq_nil_iff.mpr hnone⟩

theorem Slc.tick_own_line (l : Slc) : l.tick.own = l.own ∧ l.tick.line = l.line := by
  unfold Slc.tick
  split
  · split
    · exact ⟨rfl, rfl⟩
    · split
      · exact ⟨rfl, rfl⟩
      · rw [(Slc.counts_lineOnly (List.replicate 10 .recessive) l).trans (Slc.gap_lineOnly _)]
        exact ⟨rfl, rfl⟩
  · exact ⟨rfl, rfl⟩

theorem keptThroughResets_peersSound : KeptThroughResets State.PeersSound where
  offShare h hs := hs.of_same h.lsu h.slc fun _ hsig => h.shares ▸ hsig
  limitTaken {s n rest} hbus hs := by
    have hblock := State.dspLimit_block n { s with bus := rest }
    have hsends := State.dspLimit_sends n { s with bus := rest }
    exact (hs.drop hbus).of_same (hblock.lsu (by decide)) (hblock.slc (by decide))
      fun _ hsig => hsends.shares (by decide) ▸ hsig
  lsuDone h hs := hs.lsuStep h fun _ _ _ _ hc => by cases hc
  lsuTaken {s sig rest t} hbus _ h hs := (hs.drop hbus).lsuStep h fun source floor want cls hc => by
    cases hc
    refine hs.foreign source floor want cls ?_
    rw [State.shares, hbus]
    exact List.mem_cons_self
  slcDone h hs := hs.slcStep h.step h.block
  slcTaken hbus hsig hs := (hs.drop hbus).slcTook (handle_slcTook hsig _)
  reset cause levels s := State.resetBy_peersSound cause levels s
  tick {s} hs := by
    obtain ⟨hown, hline⟩ := s.slc.tick_own_line
    refine ⟨hs.own.trans hown.symm, ?_, fun source floor want cls hmem => ?_, ?_⟩
    · change s.slc.tick.own < 7 ∨ s.slc.tick.line = .silenced
      rw [hown, hline]
      exact hs.silenced
    · change s.slc.tick.own < 7 ∧ _ ∧ _ ≠ s.slc.tick.own
      rw [hown]
      exact hs.foreign source floor want cls hmem
    · change s.lsu.tick.TableSound s.slc.tick.own
      rw [hown]
      exact hs.table.tick

/-- Settles O9: every doing of the LSU and the SLC keeps the table sound, and nothing else changes it. -/
theorem peerTableStaysSound : Obligations.PeerTableStaysSound := by
  intro s t hs ht
  have hsound := keptThroughResets_peersSound.step ht (State.peersSound_iff.mp hs)
  exact ⟨State.peersSound_iff.mpr hsound, hsound.table.length_le⟩

end Sys2Proof.Machine
end

section
/-! The LSU on its own account and at a received claim: its timers, the claims of the peers, and their falling silent
(R50 to R66). -/

namespace Sys2Proof.Machine

/-! ### A new state of the LSU, with no delivery waiting -/

theorem State.emit_of_bus {s : State} (h : s.bus = []) (sigs : List Signal) :
    s.emit sigs = { s with bus := Signal.inOrder sigs } := by
  rw [State.emit, h]
  rfl

theorem State.lsuTo_of_bus {s : State} (h : s.bus = []) (new : Lsu) :
    s.lsuTo new [] = { s with
      lsu := new.refresh
      bus := if new.refresh.limit = s.lsu.limit then [] else [.dspLimit new.refresh.limit] } := by
  rw [State.lsuTo, List.append_nil]
  refine (State.emit_of_bus (s := s.setLsu new.refresh) h _).trans ?_
  by_cases hlimit : new.refresh.limit = s.lsu.limit
  · rw [if_pos hlimit, hlimit, bne_self_eq_false]
    rfl
  · rw [if_neg hlimit, bne_iff_ne.mpr (Ne.symm hlimit)]
    rfl

/-- R61, R65: the timers do not enter the allowance and the limit. -/
theorem Lsu.refresh_timers {l : Lsu} (h : l.refresh = l) (listen period interval : Option Nat) :
    ({ l with listen := listen, claimPeriod := period, minInterval := interval } : Lsu).refresh =
      { l with listen := listen, claimPeriod := period, minInterval := interval } :=
  congrArg (fun m : Lsu => { m with listen := listen, claimPeriod := period, minInterval := interval }) h

/-- R66: where the limit stays, the LSU delivers no limit. -/
theorem State.lsuTo_of_fresh {s : State} {new : Lsu} (hnew : new.refresh = new) (hlimit : new.limit = s.lsu.limit)
    (after : List Signal) : s.lsuTo new after = (s.setLsu new).emit after := by
  rw [State.lsuTo, hnew, hlimit, bne_self_eq_false]
  rfl

/-! ### Claims handed over, R179 -/

/-- The CLAIM slot after a claim is handed over. -/
def Slc.slotAfter (l : Slc) (c : Claim) : Option Claim :=
  if l.line = .lineFault ∨ l.line = .silenced then l.claimSlot else some c

theorem State.slcClaim_eq (c : Claim) (s : State) :
    s.slcClaim c = s.setSlc { s.slc with claimSlot := s.slc.slotAfter c } := by
  unfold State.slcClaim Slc.slotAfter Slc.discards
  by_cases h : s.slc.line = .lineFault ∨ s.slc.line = .silenced
  · rw [if_pos h, if_pos (by simpa using h)]
    rfl
  · rw [if_neg h, if_neg (by simpa using h)]

theorem State.settle_slcClaim {s : State} (h : s.bus = []) (c : Claim) :
    (s.emit [.slcClaim c]).settle settleFuel = s.setSlc { s.slc with claimSlot := s.slc.slotAfter c } := by
  rw [State.emit_of_bus h]
  refine (State.settle_cons (rest := []) rfl (settleFuel - 1)).trans ?_
  rw [handle, State.slcClaim_eq, State.settle_nil (by rfl), State.setSlc, State.setSlc, ← h]

/-! ### Timers, R52 to R54 -/

section
variable {s : State} (hquiet : s.quiet = true) (hfresh : s.fresh = true) (listen period interval : Option Nat)
include hquiet hfresh

/-- A timer of the LSU has run out, and the demand claim goes to the CLAIM slot. -/
theorem State.lsuTimer_claims :
    (s.lsuTo { s.lsu with listen := listen, claimPeriod := period, minInterval := interval }
      [.slcClaim s.lsu.dc]).settle settleFuel =
      { s with
        lsu := { s.lsu with listen := listen, claimPeriod := period, minInterval := interval }
        slc := { s.slc with claimSlot := s.slc.slotAfter s.lsu.dc } } := by
  have hlsu : s.lsu.refresh = s.lsu := (State.fresh_iff.mp hfresh .lsu).1
  rw [State.lsuTo_of_fresh (Lsu.refresh_timers hlsu listen period interval) rfl]
  exact State.settle_slcClaim (by exact (State.quiet_iff.mp hquiet).1) _

/-- A timer of the LSU has run out, with no claim to send. -/
theorem State.lsuTimer_stops :
    (s.lsuTo { s.lsu with listen := listen, claimPeriod := period, minInterval := interval } []).settle settleFuel =
      { s with lsu := { s.lsu with listen := listen, claimPeriod := period, minInterval := interval } } := by
  have hlsu : s.lsu.refresh = s.lsu := (State.fresh_iff.mp hfresh .lsu).1
  have hbus : s.bus = [] := (State.quiet_iff.mp hquiet).1
  rw [State.lsuTo_of_fresh (Lsu.refresh_timers hlsu listen period interval) rfl, State.emit_nil (by exact hbus)]
  exact State.settle_nil (by exact hbus) _

end

/-- Settles O27: each timer stops, with the demand claim handed to the SLC where the mode calls for it. -/
theorem shareTimersFillClaimSlot : Obligations.ShareTimersFillClaimSlot := by
  intro s hquiet hfresh slot
  refine ⟨fun hlisten => ?listen, fun hperiod hmode => ?period, fun hinterval hmode => ?interval⟩
  case listen =>
    rw [exec, execListenWindowExpiry, State.event_of_quiet hquiet, State.lsuListenExpiry, if_pos hlisten]
    exact congrArg _ (State.lsuTimer_claims hquiet hfresh none _ _)
  case period =>
    rw [exec, execClaimPeriodExpiry, State.event_of_quiet hquiet, State.lsuPeriodExpiry, if_pos hperiod]
    obtain hmode | hmode | hmode := hmode <;> rw [hmode]
    all_goals exact congrArg _ (State.lsuTimer_claims hquiet hfresh _ none _)
  case interval =>
    rw [exec, execMinimumIntervalExpiry, State.event_of_quiet hquiet, State.lsuIntervalExpiry, if_pos hinterval, hmode]
    by_cases hsent : s.lsu.lc = some s.lsu.dc
    · rw [if_pos hsent, hsent, bne_self_eq_false]
      exact congrArg _ (State.lsuTimer_stops hquiet hfresh _ _ none)
    · rw [if_neg hsent, bne_iff_ne.mpr hsent]
      exact congrArg _ (State.lsuTimer_claims hquiet hfresh _ _ none)

/-! ### The raise hold-off, R64 -/

/-- R65: outside SHARING the claims do not enter the limit. -/
theorem Lsu.refresh_cleared {l : Lsu} (h : l.refresh = l) (c : Claim) :
    ({ l with cc := c, pc := none, holdOff := none } : Lsu).refresh =
      { l with
        cc := c, pc := none, holdOff := none, allowance := shareOf l.budget c l.countedPeers,
        limit := if l.mode = .sharing then shareOf l.budget c l.countedPeers else l.limit } := by
  have hlimit : ({ l with cc := c, pc := none, holdOff := none } : Lsu).refresh.limit =
      if l.mode = .sharing then shareOf l.budget c l.countedPeers else l.limit := by
    have hnow : l.refresh.limit = l.limit := congrArg Lsu.limit h
    cases l with
    | mk _ _ mode =>
      cases mode
      case sharing => rfl
      all_goals exact hnow
  rw [Lsu.refresh_eq, hlimit]
  rfl

/-- Settles O28: the hold-off's expiry clears the pending claim. -/
theorem raiseHoldOffClearsPendingClaim : Obligations.RaiseHoldOffClearsPendingClaim := by
  intro s c hquiet hfresh hholdOff hpc
  have hlsu : s.lsu.refresh = s.lsu := (State.fresh_iff.mp hfresh .lsu).1
  have hexpiry : s.lsuHoldOffExpiry = s.lsuTo { s.lsu with cc := c, pc := none, holdOff := none } [] := by
    obtain ⟨n, hn⟩ := Option.isSome_iff_exists.mp hholdOff
    rw [State.lsuHoldOffExpiry, hn, hpc]
  refine ⟨s.lsuHoldOffExpiry, congrArg _ (State.event_of_quiet hquiet _), ?_⟩
  rw [hexpiry, State.lsuTo_of_bus (State.quiet_iff.mp hquiet).1, Lsu.refresh_cleared hlsu]

/-! ### Peers silent and lost, R57 and R58 -/

theorem State.lsuPeerSilent_of_live {s : State} {station : Nat} {p : Peer} (hp : findPeer station s.lsu.peers = some p)
    (hlive : p.silent = false) : s.lsuPeerSilent station = (s.post .peerSilent station (word p.want)).lsuTo
      (s.lsu.withPeers (putPeer { p with silent := true, age := 3500 } s.lsu.peers)) [] := by
  rw [State.lsuPeerSilent, hp]
  exact if_neg (by rw [hlive]; decide)

theorem State.lsuPeerLost_of_silent {s : State} {station : Nat} {p : Peer} (hp : findPeer station s.lsu.peers = some p)
    (hsilent : p.silent = true) : s.lsuPeerLost station = (s.post .peerLost station 0).lsuTo
      (s.lsu.withPeers (s.lsu.peers.filter (·.station != station))) [] := by
  rw [State.lsuPeerLost, hp]
  exact if_pos hsilent

/-- Settles O30: the entry is put back SILENT, or taken out, with S_peak and the limit brought up to date. -/
theorem peersFallSilentAndAreLost : Obligations.PeersFallSilentAndAreLost := by
  intro station s p hquiet hfresh hp
  have hbus (c : EventCode) (n : Nat) (w : Word) : (s.post c n w).bus = [] := (State.quiet_iff.mp hquiet).1
  have hstation : p.station = station.val := findPeer_station hp
  refine ⟨fun hlive => ?silent, fun hsilent => ?lost⟩
  case silent =>
    refine ⟨s.lsuPeerSilent station, congrArg _ (State.event_of_quiet hquiet _), ?_⟩
    rw [State.lsuPeerSilent_of_live hp hlive, State.lsuTo_of_bus (hbus _ _ _)]
    refine ⟨rfl, ?entry, rfl, fun other hother => ?others, rfl, rfl⟩
    case entry => exact hstation ▸ findPeer_putPeer_same { p with silent := true, age := 3500 } _
    case others => exact findPeer_putPeer_other (p := { p with silent := true, age := 3500 }) (hstation ▸ hother) _
  case lost =>
    refine ⟨s.lsuPeerLost station, congrArg _ (State.event_of_quiet hquiet _), ?_⟩
    rw [State.lsuPeerLost_of_silent hp hsilent, State.lsuTo_of_bus (hbus _ _ _)]
    exact ⟨rfl, findPeer_removed_same _ _, fun other hother => findPeer_removed_other hother _, rfl, rfl, rfl⟩

/-! ### Claims received, R56 and R174 -/

theorem wordOf_bytesOf (w : Word) : wordOf (w.extractLsb' 8 8) (w.extractLsb' 0 8) = w := by
  refine (BitVec.extractLsb'_append_extractLsb'_eq_extractLsb' (x := w) (by rfl)).trans ?_
  exact BitVec.extractLsb'_eq_self

/-- Section 10.6.1: the fields of a CLAIM's payload are those of its claim. -/
theorem claimFields_payload (floor want : Word) (cls : Byte) :
    claimFields (bytesOf floor ++ bytesOf want ++ [cls]) = some (floor.toNat, want.toNat, cls.toNat) := by
  have hfields : claimFields (bytesOf floor ++ bytesOf want ++ [cls]) =
      some ((wordOf (floor.extractLsb' 8 8) (floor.extractLsb' 0 8)).toNat,
        (wordOf (want.extractLsb' 8 8) (want.extractLsb' 0 8)).toNat, cls.toNat) := rfl
  rw [hfields, wordOf_bytesOf, wordOf_bytesOf]

/-- Table 9-3: a CLAIM of another station to all stations is taken, in LINE_OK. -/
theorem Slc.examine_foreignClaim {l : Slc} {source : Fin 7} (hline : l.line = .lineOk) (hforeign : source.val ≠ l.own)
    (free : Bool) (floor want : Word) (cls : Byte) :
    l.examine free ⟨.claim, source.val, 7, bytesOf floor ++ bytesOf want ++ [cls]⟩ =
      .claim floor.toNat want.toNat cls.toNat := by
  have hstation : ¬ source.val = 7 := by omega
  rw [Slc.examine, if_neg hforeign, if_neg hstation, if_neg (by rw [hline]; decide)]
  dsimp only
  rw [claimFields_payload]
  rfl

/-- R174: a CLAIM of another station is read, acknowledged and handed to the LSU. -/
theorem State.receive_foreignClaim {s : State} {source : Fin 7} (hbus : s.bus = []) (hsound : s.slc.lineSound = true)
    (hline : s.slc.line = .lineOk) (hflight : s.slc.inFlight = none) (hrx : s.slc.rx = .waiting)
    (hforeign : source.val ≠ s.slc.own) (floor want : Word) (cls : Byte) (ack : Level) :
    s.receive ⟨.claim, source.val, 7, bytesOf floor ++ bytesOf want ++ [cls]⟩ ack =
      { s with
        slc := s.slc.read ⟨.claim, source.val, 7, bytesOf floor ++ bytesOf want ++ [cls]⟩ .dominant
        bus := [.lsuClaim (Fin.ofNat 8 source.val) floor.toNat want.toNat cls.toNat] } := by
  have hrun : s.slc.dominantRun ≤ 7 := (Slc.run_of_lineSound hsound hflight hrx).trans (by decide)
  have hlength : (bytesOf floor ++ bytesOf want ++ [cls]).length ≤ 16 := by simp [bytesOf]
  rw [State.receive_of_waiting (Slc.reads_of_lineOk hline) hflight hrx hrun hlength,
    Slc.examine_foreignClaim hline hforeign]
  dsimp only
  rw [if_pos hline]
  exact State.emit_of_bus (by exact hbus) _

/-- R56: PEER_JOINED, for a station that is new or returned. -/
def Evq.joined (station : Nat) (entry : Option Peer) (q : Evq) : Evq :=
  match entry with
  | none => q.append .peerJoined station 0
  | some p => if p.silent then q.append .peerJoined station 1 else q

theorem State.lsuClaim_of_valid {floor want cls : Nat} (h : claimFieldsValid floor want cls = true) (source : Fin 8)
    (s : State) : s.lsuClaim source floor want cls =
      (s.setEvq (s.evq.joined source.val (findPeer source.val s.lsu.peers))).lsuTo
        (s.lsu.withPeers (putPeer ⟨source.val, false, floor, want, cls, 0⟩ s.lsu.peers)) [] := by
  rw [State.lsuClaim, if_pos h]
  unfold Evq.joined
  cases findPeer source.val s.lsu.peers with
  | none => rfl
  | some p =>
    dsimp only
    split <;> rfl

/-- Settles O29: the frame is read and its claim delivered; the LSU puts the entry, or has a check error counted. -/
theorem receivedClaimRenewsPeer : Obligations.ReceivedClaimRenewsPeer := by
  intro source floor want cls ack s hquiet hfresh hsound hline hflight hrx hforeign read
  have hbus : s.bus = [] := (State.quiet_iff.mp hquiet).1
  have hsource : (Fin.ofNat 8 source.val).val = source.val := Nat.mod_eq_of_lt (by omega)
  have hexec : exec (.claimReceived source floor want cls ack) s = .next
      ((({ s with slc := read } : State).lsuClaim (Fin.ofNat 8 source.val) floor.toNat want.toNat cls.toNat).settle
        (settleFuel - 1)) := by
    rw [exec, execClaimReceived, State.event_of_quiet hquiet,
      State.receive_foreignClaim hbus hsound hline hflight hrx hforeign]
    refine congrArg _ ((State.settle_cons (rest := []) rfl (settleFuel - 1)).trans ?_)
    rw [handle, ← hbus]
  refine ⟨fun ⟨hfloor, hwant, hcls⟩ => ?valid, fun hinvalid => ?invalid⟩
  case valid =>
    have hvalid : claimFieldsValid floor.toNat want.toNat cls.toNat = true := by
      simp only [claimFieldsValid, Bool.and_eq_true, decide_eq_true_eq]
      exact ⟨⟨hfloor, hwant⟩, hcls⟩
    refine ⟨_, hexec, ?_⟩
    rw [State.lsuClaim_of_valid hvalid, State.lsuTo_of_bus (by exact hbus), hsource]
    exact ⟨rfl, findPeer_putPeer_same ⟨source.val, false, floor.toNat, want.toNat, cls.toNat, 0⟩ _,
      fun other hother =>
        findPeer_putPeer_other (p := ⟨source.val, false, floor.toNat, want.toNat, cls.toNat, 0⟩) hother _,
      rfl, rfl, rfl, rfl⟩
  case invalid =>
    have hfields : ¬ claimFieldsValid floor.toNat want.toNat cls.toNat = true := by
      simp only [claimFieldsValid, Bool.and_eq_true, decide_eq_true_eq]
      omega
    rw [hexec, State.lsuClaim, if_neg hfields, State.emit_of_bus (by exact hbus)]
    refine congrArg _ ((State.settle_cons (rest := []) rfl (settleFuel - 2)).trans ?_)
    rw [handle, State.slcCheckError, satSucc_eq_min, State.settle_nil (by rfl), ← hbus]
    rfl

end Sys2Proof.Machine
end

section
/-! A restart that takes effect, with a valid and with an invalid station strap (R47, R170, R188). -/

namespace Sys2Proof.Machine

/-- R188: a restart is a reset by the straps sampled, with its own cause. -/
theorem exec_restartTakesEffect {s : State} (h : s.cmh.restartDue = true) (station budget : Fin 8) :
    exec (.restartTakesEffect station budget) s =
      .next ((s.resetBy .restarted ⟨station, budget⟩).settle settleFuel) := by
  have hdue : due .restartTakesEffect s = true := h
  have hdue' : due .restartTakesEffect { s with pins := ⟨station, budget⟩ } = true := h
  rw [exec, execRestartTakesEffect, State.restart, if_pos hdue, State.followUp, if_pos hdue']
  rfl

/-- R170, R67, R68: what an invalid station strap leaves of the LSU at reset. -/
theorem Lsu.afterReset_silenced (budget : Fin 8) :
    (Lsu.isolate { Lsu.afterReset ⟨7, budget⟩ with silenced := true }).refresh =
      { Lsu.afterReset ⟨7, budget⟩ with mode := .isolated, silenced := true, limit := 3 } := by
  revert budget
  decide

theorem Lsu.isolatedLimit_afterReset (budget : Fin 8) :
    Lsu.isolatedLimit { Lsu.afterReset ⟨7, budget⟩ with silenced := true } = 3 := by
  revert budget
  decide

/-- R67: the LSU of a part just reset isolates as it is silenced. -/
theorem State.lsuSilenced_afterReset {s : State} {budget : Fin 8} (hbus : s.bus = [])
    (hlsu : s.lsu = Lsu.afterReset ⟨7, budget⟩) : s.lsuSilenced = { s with
      lsu := { Lsu.afterReset ⟨7, budget⟩ with mode := .isolated, silenced := true, limit := 3 }
      evq := s.evq.append .isolatedEntered 1 3
      bus := [.dspLimit 3] } := by
  have hmode : ¬ (Lsu.afterReset ⟨7, budget⟩).mode = .isolated := by
    intro h
    cases h
  rw [State.lsuSilenced, hlsu]
  dsimp only
  rw [if_neg hmode, State.lsuIsolate, State.lsuTo_of_bus (by exact hbus), Lsu.isolatedLimit_afterReset,
    Lsu.afterReset_silenced]
  have hlimit : ¬ 3 = (s.post .isolatedEntered 1 (word 3)).lsu.limit := by
    rw [State.post_lsu, hlsu]
    intro h
    cases h
  rw [if_neg hlimit]
  rfl

/-- R28, R38: a limit leaves the dispatcher of a part just reset with nothing to shed and nothing to report. -/
theorem State.dspLimit_afterReset {s : State} (hbus : s.bus = []) (hdsp : s.dsp = Dsp.afterReset) :
    s.dspLimit 3 = { s with dsp := { Dsp.afterReset with limit := 3 } } := by
  have hshed : Dsp.shed (Dsp.shedOrder { Dsp.afterReset with limit := 3 }) { Dsp.afterReset with limit := 3 } =
      { Dsp.afterReset with limit := 3 } := Dsp.takeLimit_of_fits (by decide)
  have hgone : Dsp.switchedOff { Dsp.afterReset with limit := 3 } { Dsp.afterReset with limit := 3 } = 0 := by decide
  have hreports : Dsp.reports Dsp.afterReset { Dsp.afterReset with limit := 3 } = [] := by decide
  rw [State.dspLimit, hdsp]
  dsimp only
  rw [hshed, if_pos hgone, State.dspTo, hdsp, hreports]
  exact State.emit_nil hbus

/-- R170, R67: a part reset with an invalid station strap, silenced and isolated. -/
def State.silencedReset (cause : EventCode) (budget : Fin 8) (mem : List MemCell) (freeUse : Nat)
    (pending : List Instr) : State :=
  { State.afterReset cause ⟨7, budget⟩ mem freeUse pending with
    slc := { Slc.afterReset ⟨7, budget⟩ with line := .silenced }
    lsu := { Lsu.afterReset ⟨7, budget⟩ with mode := .isolated, silenced := true, limit := 3 }
    dsp := { Dsp.afterReset with limit := 3 }
    evq := { Evq.afterReset cause with
      queue := [⟨cause, 0, 0, 0⟩, ⟨.stationConflict, 7, 0, 0⟩, ⟨.isolatedEntered, 1, 3, 0⟩] } }

/-- The three deliveries of an invalid strap at reset: the slots empty, SILENCED, and the limit of isolation. -/
theorem State.settle_enterSilenced (cause : EventCode) (budget : Fin 8) (mem : List MemCell) (freeUse : Nat)
    (pending : List Instr) :
    (State.afterReset cause ⟨7, budget⟩ mem freeUse pending).enterSilenced.settle settleFuel =
      State.silencedReset cause budget mem freeUse pending := by
  have hfuel : settleFuel = settleFuel - 3 + 1 + 1 + 1 := rfl
  rw [hfuel, State.settle_cons (sig := .cmhSlotEmpty) (rest := [.lsuSilenced]) (by rfl), handle, State.cmhSlotEmpty]
  refine (State.settle_cons (sig := .lsuSilenced) (rest := []) rfl (settleFuel - 3 + 1)).trans ?_
  rw [handle, State.lsuSilenced_afterReset (budget := budget) rfl rfl]
  refine (State.settle_cons (sig := .dspLimit 3) (rest := []) rfl (settleFuel - 3)).trans ?_
  rw [handle, State.dspLimit_afterReset rfl rfl, State.settle_nil (by rfl)]
  rfl

/-- R170: a reset with an invalid station strap. -/
theorem State.settle_resetBy_silenced (cause : EventCode) (budget : Fin 8) (s : State) :
    (s.resetBy cause ⟨7, budget⟩).settle settleFuel = State.silencedReset cause budget
      (s.stc.cutMem s.freeUse) (if s.stc.op.isSome then s.freeUse + 1 else s.freeUse) s.pending :=
  State.settle_enterSilenced _ _ _ _ _

/-- R188: a reset with a valid station strap. -/
theorem State.settle_resetBy {station : Fin 8} (h : station ≠ 7) (cause : EventCode) (budget : Fin 8) (s : State) :
    (s.resetBy cause ⟨station, budget⟩).settle settleFuel = State.afterReset cause ⟨station, budget⟩
      (s.stc.cutMem s.freeUse) (if s.stc.op.isSome then s.freeUse + 1 else s.freeUse) s.pending := by
  have hreset : s.resetBy cause ⟨station, budget⟩ = State.afterReset cause ⟨station, budget⟩
      (s.stc.cutMem s.freeUse) (if s.stc.op.isSome then s.freeUse + 1 else s.freeUse) s.pending := if_neg h
  rw [hreset]
  exact State.settle_nil rfl _

/-- Settles O3: both resets leave one state, but for the first event. -/
theorem restartIsPowerOnResetButForItsEvent : Obligations.RestartIsPowerOnResetButForItsEvent := by
  refine ⟨fun station budget s hdue hvalid => ?valid, fun budget s hdue => ?invalid⟩
  case valid =>
    exact ⟨_, _, (exec_restartTakesEffect hdue station budget).trans (congrArg _ (State.settle_resetBy hvalid _ _ _)),
      exec_powerOnReset hvalid budget s, rfl, rfl, budgetOf_eq budget, rfl⟩
  case invalid =>
    exact ⟨_, _, (exec_restartTakesEffect hdue 7 budget).trans (congrArg _ (State.settle_resetBy_silenced _ _ _)),
      congrArg Host.Outcome.next (State.settle_resetBy_silenced .powerOn budget s), rfl, rfl, rfl⟩

end Sys2Proof.Machine
end

section
/-! The SLC as a sender: its start from a slot, the loss of arbitration, the acknowledge cell, and the LSU at a claim
reported sent (R63, R172 to R180). -/

namespace Sys2Proof.Machine

/-- An event of a quiet state that makes no delivery. -/
theorem State.event_of_no_delivery {s : State} (h : s.quiet = true) {f : State → State} (hf : (f s).bus = []) :
    s.event f = f s :=
  (State.event_of_quiet h f).trans (State.settle_nil hf _)

/-! ### Transmission start, R172 and R180 -/

theorem State.slcStart_of_no_gap {s : State} (h : s.slc.idleCount < 12) : s.slcStart = s := by
  have hgap : ¬ s.slc.idleCount = 12 := by omega
  rw [State.slcStart]
  exact if_neg (by simp [hgap])

/-- The SLC with a frame that has left its slot in flight, at its start cell. -/
def Slc.sending (l : Slc) (f : TxFrame) : Slc :=
  { l with
    inFlight := some ⟨f, (f.toFrame l.own).bytes, 0⟩, rx := .waiting, idleCount := 0
    dominantRun := min 17 (l.dominantRun + 1) }

theorem State.slcStart_of_offer {s : State} (hline : s.slc.line = .lineOk) (hflight : s.slc.inFlight = none)
    (hrx : s.slc.rx ≠ .receiving) (hgap : s.slc.idleCount = 12) {f : TxFrame} (hoffer : s.slc.offer = some f) :
    s.slcStart = s.setSlc ((s.slc.leaveSlot f).sending f) := by
  have hmay : (s.slc.line = .lineOk && s.slc.inFlight.isNone && s.slc.rx ≠ .receiving && s.slc.idleCount = 12) = true := by
    simp [hline, hflight, hrx, hgap]
  rw [State.slcStart]
  refine (if_pos hmay).trans ?_
  rw [hoffer, Slc.sending, ← satSucc_eq_min]
  cases f <;> rfl

/-- R171: the first cell of a frame is its start cell, dominant. -/
theorem Slc.sending_drives (l : Slc) (f : TxFrame) : (l.sending f).drives = .dominant := rfl

/-! ### Arbitration, R175 and R180 -/

/-- A mismatch can be read at a cell still to come that the part drives recessive. -/
theorem InFlight.mismatches_iff {f : InFlight} {cell : Nat} :
    f.mismatches cell = true ↔ f.cell < cell ∧ f.cells[cell]? = some .recessive := by
  simp only [InFlight.mismatches, InFlight.level, Bool.and_eq_true, decide_eq_true_eq, beq_iff_eq, and_assoc]
  refine and_congr_right fun _ => ?_
  constructor
  · rintro ⟨hlt, hlevel⟩
    rwa [List.getElem?_eq_getElem hlt, ← List.getD_eq_getElem _ .recessive hlt, Option.some.injEq]
  · intro h
    obtain ⟨hlt, hlevel⟩ := List.getElem?_eq_some_iff.mp h
    exact ⟨hlt, (List.getD_eq_getElem _ _ hlt).trans hlevel⟩

theorem State.slcLoss_of_mismatch {s : State} {bit : Fin 5} {f : InFlight} (hflight : s.slc.inFlight = some f)
    (h : f.mismatches (bit.val + 1) = true) : s.slcLoss bit =
      s.setSlc { (s.slc.counts (f.until (bit.val + 1) ++ [.dominant])).returnFrame f.frame with
        inFlight := none, arbitrationLosses := satSucc countMax s.slc.arbitrationLosses, rx := .receiving,
        rxBuffer := [], rxCells := f.cells.take (bit.val + 1) ++ [.dominant] } := by
  rw [State.slcLoss, hflight]
  exact if_pos h

theorem State.slcLoss_of_no_mismatch {s : State} {bit : Fin 5} {f : InFlight} (hflight : s.slc.inFlight = some f)
    (h : ¬ f.mismatches (bit.val + 1) = true) : s.slcLoss bit = s := by
  rw [State.slcLoss, hflight]
  exact if_neg h

theorem Slc.returnFrame_claimSlot (l : Slc) (f : TxFrame) : (l.returnFrame f).claimSlot = match f, l.claimSlot with
    | .claim c, none => some c
    | _, slot => slot := by
  cases f <;> cases hslot : l.claimSlot <;> simp [Slc.returnFrame, hslot]

theorem Slc.returnFrame_answerSlot (l : Slc) (f : TxFrame) : (l.returnFrame f).answerSlot = match f, l.answerSlot with
    | .answer a, none => some a
    | _, slot => slot := by
  cases f <;> cases hslot : l.answerSlot <;> simp [Slc.returnFrame, hslot]

theorem Slc.returnFrame_statusSlot (l : Slc) (f : TxFrame) : (l.returnFrame f).statusSlot = match f, l.statusSlot with
    | .status p, none => some p
    | _, slot => slot := by
  cases f <;> cases hslot : l.statusSlot <;> simp [Slc.returnFrame, hslot]

/-- R180: a frame that returns to its slot changes the slots only. -/
theorem Slc.returnFrame_slots (l : Slc) (f : TxFrame) : l.returnFrame f = { l with
    claimSlot := (l.returnFrame f).claimSlot, answerSlot := (l.returnFrame f).answerSlot,
    statusSlot := (l.returnFrame f).statusSlot } := by
  cases f <;> rfl

/-- Section 10.6.1: the kind and source cells of a CLAIM of station 0 are all dominant. -/
theorem claimCells_station_zero (c : Claim) (bit : Fin 5) :
    (cellsOf (TxFrame.toFrame 0 (.claim c)).bytes)[bit.val + 1]? = some .dominant := by
  have hheader : (TxFrame.toFrame 0 (.claim c)).header = 7#8 := rfl
  have hcells : ∀ bit : Fin 5, (byteCells 7#8)[bit.val + 1]? = some .dominant := by decide
  have hfirst : bit.val + 1 < (byteCells 7#8).length := Nat.lt_of_lt_of_le (Nat.succ_lt_succ bit.isLt) (by decide)
  rw [← hcells bit, Frame.bytes, Frame.body, hheader]
  exact List.getElem?_append_left hfirst

/-! ### The acknowledge cell, R178 -/

theorem InFlight.until_end (f : InFlight) : f.until f.cells.length = f.cells.drop (f.cell + 1) := by
  rw [InFlight.until, List.take_length]

/-! ### A claim reported sent, R63 -/

theorem Claim.moreDemanding_iff {x y : Claim} :
    x.moreDemanding y = true ↔ y.floor < x.floor ∨ y.want < x.want ∨ x.cls < y.cls := by
  simp only [Claim.moreDemanding, Bool.or_eq_true, decide_eq_true_eq, or_assoc]

/-- R63: a claim more demanding than the cleared one is pending; the hold-off starts anew unless the pending one demanded as
much. -/
theorem Lsu.takeSent_of_more {l : Lsu} {c : Claim} (h : c.moreDemanding (l.cc.meet c) = true) :
    (l.takeSent c).pc = some c ∧ (l.takeSent c).holdOff =
      if (match l.pc with
        | none => true
        | some p => c.moreDemanding p) = true then some 2000 else l.holdOff := by
  rw [Lsu.takeSent]
  dsimp only
  rw [if_pos h]
  exact ⟨rfl, rfl⟩

theorem Lsu.takeSent_of_cleared {l : Lsu} {c : Claim} (h : ¬ c.moreDemanding (l.cc.meet c) = true) :
    (l.takeSent c).pc = none ∧ (l.takeSent c).holdOff = none := by
  rw [Lsu.takeSent]
  dsimp only
  rw [if_neg h]
  exact ⟨rfl, rfl⟩

theorem State.lsuSent_lsu {s : State} (h : s.lsu.mode = .listening ∨ s.lsu.mode = .sharing ∨ s.lsu.mode = .recovering)
    (c : Claim) : (s.lsuSent c).lsu =
      Lsu.refresh { s.lsu.takeSent c with claimPeriod := some 1000, minInterval := some 200, mode := .sharing } := by
  unfold State.lsuSent
  obtain h | h | h := h <;> rw [h]
  all_goals rfl

/-- R63, R64: what a claim reported sent leaves of the sent, cleared and pending claims and their timers. -/
theorem State.lsuSent_takes {s : State} (h : s.lsu.mode = .listening ∨ s.lsu.mode = .sharing ∨ s.lsu.mode = .recovering)
    (c : Claim) : let t := (handle (.lsuSent c) s).lsu
    let more := t.cc.floor < c.floor ∨ t.cc.want < c.want ∨ c.cls < t.cc.cls
    t.mode = .sharing ∧ t.lc = some c ∧ t.claimPeriod = some 1000 ∧
      t.cc = ⟨min s.lsu.cc.floor c.floor, min s.lsu.cc.want c.want, max s.lsu.cc.cls c.cls⟩ ∧
      (more → t.pc = some c ∧ (s.lsu.pc = none → t.holdOff = some 2000)) ∧
      (∀ p, more → s.lsu.pc = some p →
        ((p.floor < c.floor ∨ p.want < c.want ∨ c.cls < p.cls) → t.holdOff = some 2000) ∧
          (¬(p.floor < c.floor ∨ p.want < c.want ∨ c.cls < p.cls) → t.holdOff = s.lsu.holdOff)) ∧
      (¬more → t.pc = none ∧ t.holdOff = none) := by
  intro t more
  have ht : t = Lsu.refresh { s.lsu.takeSent c with claimPeriod := some 1000, minInterval := some 200, mode := .sharing } :=
    State.lsuSent_lsu h c
  obtain ⟨-, hlc, hmeet, -⟩ := s.lsu.takeSent_claims c
  have hcc : t.cc = s.lsu.cc.meet c := by
    rw [ht]
    exact hmeet
  have hpc : t.pc = (s.lsu.takeSent c).pc := by rw [ht]; rfl
  have hholdOff : t.holdOff = (s.lsu.takeSent c).holdOff := by rw [ht]; rfl
  have hmore : more ↔ c.moreDemanding (s.lsu.cc.meet c) = true := by
    rw [← hcc]
    exact Claim.moreDemanding_iff.symm
  refine ⟨by rw [ht]; rfl, by rw [ht]; exact hlc, by rw [ht]; rfl, hcc, fun hm => ?pending,
    fun p hm hp => ?holdOff, fun hm => ?cleared⟩
  case pending =>
    obtain ⟨htaken, htimer⟩ := Lsu.takeSent_of_more (hmore.mp hm)
    rw [hpc, hholdOff]
    refine ⟨htaken, fun hnone => ?_⟩
    rw [htimer, hnone]
    rfl
  case holdOff =>
    obtain ⟨-, htimer⟩ := Lsu.takeSent_of_more (hmore.mp hm)
    rw [hholdOff, htimer, hp, ← Claim.moreDemanding_iff]
    exact ⟨fun h => if_pos h, fun h => if_neg h⟩
  case cleared =>
    rw [hpc, hholdOff]
    exact Lsu.takeSent_of_cleared (hmore.not.mp hm)

/-! ### The own frame from its slot to its end -/

/-- R180: what is offered in an idle gap is sent. -/
theorem State.exec_transmitStart_of_offer {s : State} (hquiet : s.quiet = true) (hline : s.slc.line = .lineOk)
    (hflight : s.slc.inFlight = none) (hrx : s.slc.rx ≠ .receiving) (hgap : s.slc.idleCount = 12) {f : TxFrame}
    (hoffer : s.slc.offer = some f) :
    exec .transmitStart s = .next (s.setSlc ((s.slc.leaveSlot f).sending f)) := by
  have hstart := State.slcStart_of_offer hline hflight hrx hgap hoffer
  have hbus : s.slcStart.bus = [] := hstart.symm ▸ (State.quiet_iff.mp hquiet).1
  exact congrArg _ ((State.event_of_no_delivery hquiet hbus).trans hstart)

/-- R178: at the acknowledge cell the frame's end is reported, and an ANSWER not acknowledged is counted. -/
theorem State.slcAcknowledge_of_inFlight {s : State} {f : InFlight} (hbus : s.bus = []) (hflight : s.slc.inFlight = some f)
    (read : Level) : s.slcAcknowledge read = { s with
      slc := { s.slc.counts (f.cells.drop (f.cell + 1) ++ [read]) with
        inFlight := none, consecutive := 0
        undelivered := match f.frame, read with
          | .answer _, .recessive => min 65535 (s.slc.undelivered + 1)
          | _, _ => s.slc.undelivered }
      bus := match f.frame with
        | .claim c => [.lsuSent c]
        | .answer _ => [.cmhSlotEmpty]
        | .status _ => [] } := by
  rw [State.slcAcknowledge, hflight]
  dsimp only
  rw [InFlight.until_end, ← satSucc_eq_min]
  cases f.frame with
  | claim c => exact State.emit_of_bus (by exact hbus) _
  | answer a => cases read <;> exact State.emit_of_bus (by exact hbus) _
  | status p =>
    dsimp only
    rw [← hbus]
    rfl

/-- Settles O54: the start, the loss, the acknowledge cell, and what the LSU makes of a claim sent. -/
theorem framesAreSentFromSlots : Obligations.FramesAreSentFromSlots := by
  refine ⟨?start, ?arbitration, ?acknowledge, fun s c hmode => State.lsuSent_takes hmode c⟩
  case start =>
    intro s hquiet hline hflight hrx
    refine ⟨fun hidle => ?_, fun hgap => ⟨fun c hc => ?_, fun a hc ha => ?_, fun p hc ha hp => ?_⟩⟩
    · have hstart := State.slcStart_of_no_gap hidle
      have hbus : s.slcStart.bus = [] := hstart.symm ▸ (State.quiet_iff.mp hquiet).1
      exact congrArg _ ((State.event_of_no_delivery hquiet hbus).trans hstart)
    · exact ⟨_, State.exec_transmitStart_of_offer hquiet hline hflight hrx hgap (by rw [Slc.offer, hc]),
        Slc.sending_drives (s.slc.leaveSlot (.claim c)) (.claim c), rfl⟩
    · exact ⟨_, State.exec_transmitStart_of_offer hquiet hline hflight hrx hgap (by rw [Slc.offer, hc, ha]),
        Slc.sending_drives (s.slc.leaveSlot (.answer a)) (.answer a), rfl⟩
    · exact ⟨_, State.exec_transmitStart_of_offer hquiet hline hflight hrx hgap (by rw [Slc.offer, hc, ha, hp]),
        Slc.sending_drives (s.slc.leaveSlot (.status p)) (.status p), rfl⟩
  case arbitration =>
    intro bit s f hquiet hflight
    refine ⟨fun hcell hlevel => ?lost, fun c hown hframe hbytes => ?won⟩
    case lost =>
      have hloss := State.slcLoss_of_mismatch hflight (InFlight.mismatches_iff.mpr ⟨Nat.lt_succ_of_le hcell, hlevel⟩)
      have hbus : (s.slcLoss bit).bus = [] := hloss.symm ▸ (State.quiet_iff.mp hquiet).1
      refine congrArg _ ((State.event_of_no_delivery hquiet hbus).trans (hloss.trans ?_))
      rw [satSucc_eq_min, Slc.returnFrame_slots, Slc.returnFrame_claimSlot, Slc.returnFrame_answerSlot,
        Slc.returnFrame_statusSlot]
      rfl
    case won =>
      have hdominant : f.cells[bit.val + 1]? = some .dominant := by
        rw [InFlight.cells, hbytes, hframe, hown]
        exact claimCells_station_zero c bit
      have hnone : ¬ f.mismatches (bit.val + 1) = true := fun h => by
        obtain ⟨-, hrecessive⟩ := InFlight.mismatches_iff.mp h
        rw [hdominant] at hrecessive
        cases hrecessive
      have hloss := State.slcLoss_of_no_mismatch hflight hnone
      have hbus : (s.slcLoss bit).bus = [] := hloss.symm ▸ (State.quiet_iff.mp hquiet).1
      exact congrArg _ ((State.event_of_no_delivery hquiet hbus).trans hloss)
  case acknowledge =>
    intro read s f hquiet hflight
    have hbus := (State.quiet_iff.mp hquiet).1
    refine ⟨_, congrArg Host.Outcome.next ((State.event_of_quiet hquiet _).trans
      (congrArg (State.settle settleFuel) (State.slcAcknowledge_of_inFlight hbus hflight read))), rfl, rfl, ?lost, ?kept, rfl⟩
    case lost =>
      rintro ⟨rfl, a, hanswer⟩
      rw [hanswer]
    case kept =>
      intro hlost
      cases hframe : f.frame with
      | claim c => rfl
      | status p => rfl
      | answer a =>
        cases read with
        | dominant => rfl
        | recessive => exact absurd ⟨rfl, a, hframe⟩ hlost

end Sys2Proof.Machine
end

section
/-! SUPPORT. The line kept sound (R170 to R173, R181, R182): its two counts, the receive state and the own frame in flight,
cell by cell and through every doing of the SLC. -/

namespace Sys2Proof.Machine

/-! ### What a sound line is -/

/-- R171, R175: an own frame in flight: the line is LINE_OK and waited on, and the dominant run is that of its cells so
far. -/
structure Slc.Sends (l : Slc) (f : InFlight) : Prop where
  line  : l.line = .lineOk
  rx    : l.rx = .waiting
  bytes : f.bytes = (f.frame.toFrame l.own).bytes
  cell  : f.cell < f.cells.length
  run   : l.dominantRun = (f.cells.take (f.cell + 1)).foldl runCell 0

/-- `Slc.lineSound` by its parts. -/
structure Slc.LineSound (l : Slc) : Prop where
  notStuck : l.line = .syncing ∨ l.line = .lineOk → l.dominantRun < 17
  noGap    : l.line = .syncing ∨ l.line = .lineFault → l.idleCount < 12
  oneCount : l.idleCount = 0 ∨ l.dominantRun = 0
  ignored  : l.reads = true ∨ l.rx = .ignoring
  waited   : l.inFlight = none → l.rx = .waiting → l.dominantRun ≤ 1
  sending  : ∀ f, l.inFlight = some f → l.Sends f

theorem not_or_iff_imp {a b : Bool} : (!a || b) = true ↔ (a = true → b = true) := by
  cases a <;> simp

theorem Slc.lineSound_iff {l : Slc} : l.lineSound = true ↔ l.LineSound := by
  cases hflight : l.inFlight with
  | none =>
    simp only [Slc.lineSound, hflight, bne, Bool.and_eq_true, not_or_iff_imp]
    simp only [Bool.or_eq_true, beq_iff_eq, decide_eq_true_eq, and_assoc]
    constructor
    · rintro ⟨hrun, hidle, hone, hignored, hwaited⟩
      exact ⟨hrun, hidle, hone, hignored, fun _ => hwaited, fun f hf => absurd (hflight.symm.trans hf) nofun⟩
    · rintro ⟨hrun, hidle, hone, hignored, hwaited, -⟩
      exact ⟨hrun, hidle, hone, hignored, hwaited hflight⟩
  | some f =>
    simp only [Slc.lineSound, hflight, Bool.and_eq_true, not_or_iff_imp]
    simp only [Bool.or_eq_true, beq_iff_eq, decide_eq_true_eq, and_assoc]
    constructor
    · rintro ⟨hrun, hidle, hone, hignored, hline, hrx, hbytes, hcell, hfrun⟩
      refine ⟨hrun, hidle, hone, hignored, fun hnone => absurd (hflight.symm.trans hnone) nofun, fun g hg => ?_⟩
      obtain rfl : f = g := Option.some.inj (hflight.symm.trans hg)
      exact ⟨hline, hrx, hbytes, hcell, hfrun⟩
    · rintro ⟨hrun, hidle, hone, hignored, -, hsending⟩
      obtain ⟨hline, hrx, hbytes, hcell, hfrun⟩ := hsending f hflight
      exact ⟨hrun, hidle, hone, hignored, hline, hrx, hbytes, hcell, hfrun⟩

/-- The slots and the counters are no matter of the line. -/
theorem Slc.LineSound.of_same {l l' : Slc} (h : l.LineSound) (hown : l'.own = l.own) (hline : l'.line = l.line)
    (hidle : l'.idleCount = l.idleCount) (hrun : l'.dominantRun = l.dominantRun) (hrx : l'.rx = l.rx)
    (hflight : l'.inFlight = l.inFlight) : l'.LineSound := by
  obtain ⟨hnotStuck, hnoGap, hone, hignored, hwaited, hsending⟩ := h
  refine ⟨?_, ?_, ?_, ?_, ?_, fun f hf => ?_⟩
  · rwa [hline, hrun]
  · rwa [hline, hidle]
  · rwa [hidle, hrun]
  · rwa [Slc.reads, hline, hrx]
  · rwa [hflight, hrx, hrun]
  · obtain ⟨hfline, hfrx, hfbytes, hfcell, hfrun⟩ := hsending f (hflight ▸ hf)
    exact ⟨hline.trans hfline, hrx.trans hfrx, hown ▸ hfbytes, hfcell, hrun.trans hfrun⟩

/-- R175: an own frame is in flight in LINE_OK only. -/
theorem Slc.LineSound.inFlight_none {l : Slc} (h : l.LineSound) (hline : l.line ≠ .lineOk) : l.inFlight = none := by
  cases hflight : l.inFlight with
  | none => rfl
  | some f => exact absurd (h.sending f hflight).line hline

/-! ### The counts over cells -/

/-- One of the two counts is 0 after every cell. -/
theorem Slc.counts_oneCount {l : Slc} (h : l.idleCount = 0 ∨ l.dominantRun = 0) (cells : List Level) :
    (l.counts cells).idleCount = 0 ∨ (l.counts cells).dominantRun = 0 := by
  induction cells generalizing l with
  | nil => exact h
  | cons c rest ih =>
    refine ih (l := l.count c) ?_
    cases c
    · exact .inl rfl
    · exact .inr rfl

theorem runCell_le_max (n : Nat) (c : Level) : runCell n c ≤ 17 := by
  cases c
  · rw [runCell, satSucc_eq_min]
    exact min_le_left _ _
  · exact Nat.zero_le _

theorem idleCell_le_max (n : Nat) (c : Level) : idleCell n c ≤ 12 := by
  cases c
  · exact Nat.zero_le _
  · rw [idleCell, satSucc_eq_min]
    exact min_le_left _ _

theorem foldl_runCell_le (cells : List Level) (n : Nat) : cells.foldl runCell n ≤ n + cells.length := by
  induction cells generalizing n with
  | nil => exact le_rfl
  | cons c rest ih =>
    have hcell := runCell_le n c
    have hrest := ih (runCell n c)
    simp only [List.foldl_cons, List.length_cons]
    omega

theorem byteCells_length (b : Byte) : (byteCells b).length = 10 := rfl

/-- R171: bytes end with a stop cell. -/
theorem foldl_runCell_bytes (bytes : List Byte) : (cellsOf bytes).foldl runCell 0 = 0 := by
  induction bytes with
  | nil => rfl
  | cons b rest ih =>
    rw [show cellsOf (b :: rest) = byteCells b ++ cellsOf rest from rfl, List.foldl_append, foldl_runCell_byte, ih]

/-- R171, R181: no own frame makes a long dominant run: a byte holds at most nine dominant cells in a row. -/
theorem foldl_runCell_take_bytes (bytes : List Byte) (n : Nat) : ((cellsOf bytes).take n).foldl runCell 0 ≤ 9 := by
  induction bytes generalizing n with
  | nil =>
    rw [show cellsOf [] = [] from rfl, List.take_nil]
    exact Nat.zero_le _
  | cons b rest ih =>
    rw [show cellsOf (b :: rest) = byteCells b ++ cellsOf rest from rfl, List.take_append, List.foldl_append, byteCells_length]
    by_cases hn : n < 10
    · rw [show n - 10 = 0 by omega, List.take_zero, List.foldl_nil]
      refine (foldl_runCell_le _ _).trans ?_
      rw [List.length_take]
      omega
    · rw [List.take_of_length_le (by rw [byteCells_length]; omega), foldl_runCell_byte]
      exact ih (n - 10)

/-- The dominant run of an own frame before one of its cells still to come. -/
theorem Slc.Sends.run_until {l : Slc} {f : InFlight} (h : l.Sends f) {cell : Nat} (hcell : f.cell < cell) :
    (l.counts (f.until cell)).dominantRun = (f.cells.take cell).foldl runCell 0 := by
  have hsplit : f.cells.take cell = f.cells.take (f.cell + 1) ++ f.until cell := by
    have hprefix : f.cells.take (f.cell + 1) = (f.cells.take cell).take (f.cell + 1) := by
      rw [List.take_take, min_eq_left hcell]
    rw [hprefix]
    exact (List.take_append_drop _ _).symm
  rw [hsplit, List.foldl_append, ← h.run]
  rfl

/-! ### The counts reached at a cell -/

/-- The SLC at a cell, with no own frame in flight, before what its counts bring about. -/
structure Slc.Counted (l : Slc) : Prop where
  run_le   : l.dominantRun ≤ 17
  idle_le  : l.idleCount ≤ 12
  oneCount : l.idleCount = 0 ∨ l.dominantRun = 0
  ignored  : l.reads = true ∨ l.rx = .ignoring
  noFlight : l.inFlight = none

/-- R173: the line is waited on after a recessive cell, or it is not waited on. -/
def Slc.Rests (l : Slc) : Prop := l.rx = .waiting → l.dominantRun = 0

/-- The SLC with no own frame in flight, on a sound line. -/
structure Slc.Hears (l : Slc) : Prop where
  sound    : l.LineSound
  noFlight : l.inFlight = none

/-- R181: the state on entry to LINE_FAULT. -/
theorem State.enterLineFault_hears {s : State} (h : s.slc.idleCount = 0) : s.enterLineFault.slc.Hears :=
  ⟨⟨fun hline => hline.elim nofun nofun, fun _ => h.trans_lt (by decide), .inl h, .inr rfl, fun _ => nofun, fun _ => nofun⟩,
    rfl⟩

theorem State.enterLineOk_slc (s : State) : s.enterLineOk.slc = { s.slc with line := .lineOk, rx := .waiting } := rfl

/-- R181, R182: the state on entry to LINE_OK. -/
theorem State.enterLineOk_hears {s : State} (hrun : s.slc.dominantRun = 0) (hflight : s.slc.inFlight = none) :
    s.enterLineOk.slc.Hears := by
  rw [State.enterLineOk_slc]
  exact ⟨⟨fun _ => hrun.trans_lt (by decide), fun hline => hline.elim nofun nofun, .inr hrun, .inl rfl,
    fun _ _ => hrun.trans_le (by decide), fun f hf => absurd (hflight.symm.trans hf) nofun⟩, hflight⟩

/-- R172: an idle gap ends with recessive cells. -/
theorem Slc.gap_rests {l : Slc} (hone : l.idleCount = 0 ∨ l.dominantRun = 0) (h : l.Rests) : l.gap.Rests := by
  intro hrx
  rw [Slc.gap_dominantRun]
  unfold Slc.gap at hrx
  split at hrx
  · next hgap =>
    simp only [Bool.and_eq_true, beq_iff_eq] at hgap
    exact hone.resolve_left (by omega)
  · exact h hrx

theorem Slc.gap_hears {l : Slc} (h : l.Hears) : l.gap.Hears := by
  obtain ⟨⟨hnotStuck, hnoGap, hone, hignored, hwaited, hsending⟩, hflight⟩ := h
  unfold Slc.gap
  split
  · next hgap =>
    simp only [Bool.and_eq_true, beq_iff_eq] at hgap
    obtain ⟨⟨hreads, -⟩, hidle⟩ := hgap
    have hrun : l.dominantRun = 0 := hone.resolve_left (by omega)
    exact ⟨⟨hnotStuck, hnoGap, hone, .inl hreads, fun _ _ => hrun.trans_le (by decide),
      fun f hf => absurd (hflight.symm.trans hf) nofun⟩, hflight⟩
  · exact ⟨⟨hnotStuck, hnoGap, hone, hignored, hwaited, hsending⟩, hflight⟩

/-- R172, R181, R182: what the counts bring about leaves a sound line, and one at rest where it was. -/
theorem State.countsReached_hears {s : State} (h : s.slc.Counted) (hwaited : s.slc.rx = .waiting → s.slc.dominantRun ≤ 1) :
    s.countsReached.slc.Hears ∧ (s.slc.Rests → s.countsReached.slc.Rests) := by
  obtain ⟨hrun, hidle, hone, hignored, hflight⟩ := h
  unfold State.countsReached
  dsimp only
  split
  · next hstuck =>
    simp only [Bool.and_eq_true, decide_eq_true_eq] at hstuck
    exact ⟨State.enterLineFault_hears (hone.resolve_right (by omega)), fun _ => nofun⟩
  · next hstuck =>
    split
    · next hgap =>
      simp only [Bool.and_eq_true, decide_eq_true_eq] at hgap
      have hzero : s.slc.dominantRun = 0 := hone.resolve_left (by omega)
      exact ⟨State.enterLineOk_hears hzero hflight, fun _ _ => hzero⟩
    · next hgap =>
      simp only [Bool.and_eq_true, Bool.or_eq_true, decide_eq_true_eq, not_and] at hstuck hgap
      have hsound : s.slc.LineSound :=
        ⟨fun hline => lt_of_le_of_ne hrun (hstuck hline), fun hline => lt_of_le_of_ne hidle (hgap hline),
          hone, hignored, fun _ => hwaited, fun f hf => absurd (hflight.symm.trans hf) nofun⟩
      exact ⟨Slc.gap_hears ⟨hsound, hflight⟩, Slc.gap_rests hone⟩

theorem Slc.Hears.counted {l : Slc} (h : l.Hears) (c : Level) : (l.count c).Counted := by
  obtain ⟨⟨-, -, hone, hignored, -, -⟩, hflight⟩ := h
  exact ⟨runCell_le_max _ _, idleCell_le_max _ _, Slc.counts_oneCount hone [c], hignored, hflight⟩

/-! ### Cells heard -/

/-- A cell that ends a reception, or is not read as its start. -/
theorem State.passCell_hears {s : State} (h : s.slc.Hears) (hrests : s.slc.Rests) (c : Level) :
    (s.passCell c).slc.Hears := by
  refine (State.countsReached_hears (h.counted c) fun hrx => ?_).1
  show runCell s.slc.dominantRun c ≤ 1
  rw [hrests hrx]
  exact runCell_le 0 c

/-- R173: a reception under way goes on, or ends with the line ignored. -/
theorem Slc.receiveCell_rx (c : Level) {l : Slc} (h : l.rx = .receiving) :
    (l.receiveCell c).1.rx = .receiving ∨ (l.receiveCell c).1.rx = .ignoring := by
  unfold Slc.receiveCell
  split
  · split
    · exact .inl h
    · split
      · exact .inr rfl
      · dsimp only
        split
        · exact .inl h
        · exact .inr rfl
  · split
    · exact .inl h
    · split
      · exact .inl h
      · exact .inr rfl

/-- R173: the receive state after a cell: where the line is still waited on, the cell was recessive; elsewhere it is read. -/
theorem Slc.hearCell_rx {l : Slc} (h : l.reads = true ∨ l.rx = .ignoring) (c : Level) :
    (l.hearCell c).1.rx = .waiting ∧ c = .recessive ∧ l.reads = true ∨
      (l.hearCell c).1.rx = .receiving ∧ l.reads = true ∨ (l.hearCell c).1.rx = .ignoring := by
  unfold Slc.hearCell
  split
  · next hrx =>
    have hreads : l.reads = true := h.resolve_right (by rw [hrx]; exact nofun)
    cases c
    · rw [hreads]
      exact .inr (.inl ⟨rfl, rfl⟩)
    · rw [hreads]
      exact .inl ⟨hrx, rfl, rfl⟩
  · next hrx =>
    have hreads : l.reads = true := h.resolve_right (by rw [hrx]; exact nofun)
    exact .inr ((Slc.receiveCell_rx c hrx).imp_left fun h => ⟨h, hreads⟩)
  · next hrx => exact .inr (.inr hrx)

/-- R173: the receiver at a cell. -/
theorem Slc.receiveCell_eq (c : Level) (l : Slc) : (l.receiveCell c).1 = { l with
    rx := (l.receiveCell c).1.rx, rxBuffer := (l.receiveCell c).1.rxBuffer, rxCells := (l.receiveCell c).1.rxCells } := by
  unfold Slc.receiveCell
  split
  · split
    · rfl
    · split
      · rfl
      · dsimp only
        split <;> rfl
  · split
    · rfl
    · split <;> rfl

theorem Slc.hearCell_eq (c : Level) (l : Slc) : (l.hearCell c).1 = { l with
    rx := (l.hearCell c).1.rx, rxBuffer := (l.hearCell c).1.rxBuffer, rxCells := (l.hearCell c).1.rxCells } := by
  unfold Slc.hearCell
  split
  · split <;> rfl
  · exact Slc.receiveCell_eq c l
  · rfl

theorem Slc.hearCell_rests {l : Slc} (h : l.reads = true ∨ l.rx = .ignoring) (c : Level) :
    ((l.count c).hearCell c).1.Rests := by
  intro hrx
  rw [Slc.hearCell_dominantRun]
  obtain ⟨-, rfl, -⟩ | ⟨hreceiving, -⟩ | hignoring := Slc.hearCell_rx (l := l.count c) h c
  · rfl
  · exact absurd (hrx.symm.trans hreceiving) nofun
  · exact absurd (hrx.symm.trans hignoring) nofun

theorem Slc.Counted.hearCell {l : Slc} (h : l.Counted) (c : Level) : (l.hearCell c).1.Counted := by
  obtain ⟨hrun, hidle, hone, hignored, hflight⟩ := h
  have hread : (l.hearCell c).1.reads = true ∨ (l.hearCell c).1.rx = .ignoring := by
    rw [Slc.reads, Slc.hearCell_line]
    obtain ⟨-, -, hreads⟩ | ⟨-, hreads⟩ | hignoring := Slc.hearCell_rx hignored c
    · exact .inl hreads
    · exact .inl hreads
    · exact .inr hignoring
  rw [Slc.hearCell_eq] at hread ⊢
  exact ⟨hrun, hidle, hone, hread, hflight⟩

/-- R170, R173: a cell read leaves a sound line, at rest. -/
theorem State.hearCell_hears {s : State} (h : s.slc.Hears) (c : Level) :
    (s.hearCell c).1.slc.Hears ∧ (s.hearCell c).1.slc.Rests := by
  have hrests : ((s.slc.count c).hearCell c).1.Rests := Slc.hearCell_rests h.sound.ignored c
  obtain ⟨hhears, hkeeps⟩ := State.countsReached_hears (s := s.setSlc ((s.slc.count c).hearCell c).1)
    ((h.counted c).hearCell c) fun hrx => (hrests hrx).trans_le (Nat.zero_le 1)
  exact ⟨hhears, hkeeps hrests⟩

theorem State.enterSilenced_hears {s : State} (h : s.slc.Hears) : s.enterSilenced.slc.Hears := by
  obtain ⟨⟨-, -, hone, -, hwaited, -⟩, hflight⟩ := h
  exact ⟨⟨fun hline => hline.elim nofun nofun, fun hline => hline.elim nofun nofun, hone, .inl rfl,
    fun _ => hwaited hflight, fun _ => nofun⟩, rfl⟩

theorem Slc.Hears.of_same {l l' : Slc} (h : l.Hears) (hown : l'.own = l.own) (hline : l'.line = l.line)
    (hidle : l'.idleCount = l.idleCount) (hrun : l'.dominantRun = l.dominantRun) (hrx : l'.rx = l.rx)
    (hflight : l'.inFlight = l.inFlight) : l'.Hears :=
  ⟨h.sound.of_same hown hline hidle hrun hrx hflight, hflight.trans h.noFlight⟩

theorem State.slcConflict_hears {s : State} (h : s.slc.Hears) : s.slcConflict.slc.Hears := by
  have hcounted : (s.setSlc { s.slc with
      conflicts := satSucc countMax s.slc.conflicts, consecutive := satSucc 3 s.slc.consecutive }).slc.Hears :=
    h.of_same rfl rfl rfl rfl rfl rfl
  unfold State.slcConflict
  dsimp only
  split
  · exact State.enterSilenced_hears hcounted
  · exact hcounted

theorem State.slcCheckError_hears {s : State} (h : s.slc.Hears) : s.slcCheckError.slc.Hears :=
  h.of_same rfl rfl rfl rfl rfl rfl

theorem State.receptionFault_hears (fault : ReceptionFault) {s : State} (h : s.slc.Hears) :
    (State.receptionFault fault s).slc.Hears := by
  cases fault
  case truncated => exact h.of_same rfl rfl rfl rfl rfl rfl
  all_goals exact State.slcCheckError_hears h

/-- R174: the acknowledge cell follows a cell that has been read, and comes to a line at rest. -/
theorem State.examined_hears (f : Frame) (others : Level) {s : State} (h : s.slc.Hears) (hrests : s.slc.Rests) :
    (s.examined f others).slc.Hears := by
  unfold State.examined
  dsimp only
  split
  · exact State.slcConflict_hears (State.passCell_hears h hrests _)
  · exact State.slcCheckError_hears (State.passCell_hears h hrests _)
  · exact State.passCell_hears h hrests _
  · exact State.passCell_hears h hrests _
  · exact State.passCell_hears h hrests _

theorem State.hear_hears (frame : List Byte → Option Frame) (cells : List Level) {kept s : State}
    (hkept : kept.slc.Hears) (hs : s.slc.Hears) : (State.hear frame cells kept s).slc.Hears := by
  fun_induction State.hear frame cells kept s with
  | case1 => exact hkept
  | case2 c rest kept s t ht ih =>
    obtain ⟨hheard, -⟩ := State.hearCell_hears hs c
    rw [ht] at hheard
    exact ih (by split <;> assumption) hheard
  | case3 c rest kept s t fault ht ih =>
    obtain ⟨hheard, -⟩ := State.hearCell_hears hs c
    rw [ht] at hheard
    exact ih (State.receptionFault_hears _ hheard) (State.receptionFault_hears _ hheard)
  | case4 c kept s t ht ack more f hf ih =>
    obtain ⟨hheard, hrests⟩ := State.hearCell_hears hs c
    rw [ht] at hheard hrests
    exact ih (State.examined_hears f ack hheard hrests) (State.examined_hears f ack hheard hrests)
  | case5 => exact hkept

/-- R175: cells are heard only while no own frame is in flight. -/
theorem Slc.toCome_inFlight {l : Slc} {cells rest : List Level} (h : l.toCome cells = some rest) : l.inFlight = none := by
  unfold Slc.toCome at h
  split at h
  · cases h
  · next hflight => simpa using hflight

theorem State.receive_sound (f : Frame) (others : Level) {s : State} (h : s.slc.LineSound) :
    (s.receive f others).slc.LineSound := by
  unfold State.receive
  split
  · exact h
  · next hcome =>
    have hhears : s.slc.Hears := ⟨h, Slc.toCome_inFlight hcome⟩
    exact (State.hear_hears _ _ hhears hhears).sound

theorem State.slcReceptionError_sound (cells : List Level) {s : State} (h : s.slc.LineSound) :
    (s.slcReceptionError cells).slc.LineSound := by
  unfold State.slcReceptionError
  split
  · exact h
  · next hcome =>
    have hhears : s.slc.Hears := ⟨h, Slc.toCome_inFlight hcome⟩
    exact (State.hear_hears _ _ hhears hhears).sound

/-! ### The own frame in flight -/

/-- R171: the start cell of an own frame. -/
theorem Slc.sending_sound {l : Slc} (hline : l.line = .lineOk) (hrun : l.dominantRun = 0) (f : TxFrame) :
    (l.sending f).LineSound := by
  have hone : (l.sending f).dominantRun = 1 := by
    rw [Slc.sending]
    dsimp only
    rw [hrun]
    rfl
  refine ⟨fun _ => hone.trans_lt (by decide), fun _ => (by decide : 0 < 12), .inl rfl, .inl ?_, fun _ _ => hone.le, ?_⟩
  · exact Slc.reads_of_lineOk hline
  · rintro g ⟨⟩
    exact ⟨hline, rfl, rfl, Nat.zero_lt_succ _, hone⟩

theorem State.slcStart_sound {s : State} (h : s.slc.LineSound) : s.slcStart.slc.LineSound := by
  by_cases hmay : s.slc.line = .lineOk ∧ s.slc.inFlight = none ∧ s.slc.rx ≠ .receiving ∧ s.slc.idleCount = 12
  · obtain ⟨hline, hflight, hrx, hidle⟩ := hmay
    cases hoffer : s.slc.offer with
    | none =>
      unfold State.slcStart
      dsimp only
      rw [hoffer]
      split <;> exact h
    | some f =>
      rw [State.slcStart_of_offer hline hflight hrx hidle hoffer]
      have hrun : s.slc.dominantRun = 0 := h.oneCount.resolve_left (by omega)
      refine Slc.sending_sound ?_ ?_ f
      · cases f <;> exact hline
      · cases f <;> exact hrun
  · rw [State.slcStart, if_neg (by simpa using hmay)]
    exact h

/-- R175, R176: the counts at a cell of the own frame that another station drives. -/
theorem Slc.Sends.cut {l : Slc} {f : InFlight} (h : l.Sends f) {cell : Nat} (hcell : f.cell < cell) :
    (l.counts (f.until cell ++ [.dominant])).dominantRun ≤ 10 ∧
      (l.counts (f.until cell ++ [.dominant])).idleCount = 0 := by
  rw [Slc.counts_append]
  have hrun : (l.counts (f.until cell)).dominantRun ≤ 9 := by
    rw [h.run_until hcell]
    exact foldl_runCell_take_bytes _ _
  exact ⟨Nat.le_trans (runCell_le (l.counts (f.until cell)).dominantRun .dominant) (Nat.succ_le_succ hrun), rfl⟩

/-- R175: the line after the loss, with the part receiving. -/
theorem State.slcLoss_sound (bit : Fin 5) {s : State} (h : s.slc.LineSound) : (s.slcLoss bit).slc.LineSound := by
  cases hflight : s.slc.inFlight with
  | none => rwa [State.slcLoss, hflight]
  | some f =>
    by_cases hmismatch : f.mismatches (bit.val + 1) = true
    · have hsends := h.sending f hflight
      obtain ⟨hcell, -⟩ := InFlight.mismatches_iff.mp hmismatch
      obtain ⟨hrun, hidle⟩ := hsends.cut hcell
      rw [State.slcLoss_of_mismatch hflight hmismatch, Slc.returnFrame_slots]
      exact ⟨fun _ => Nat.lt_of_le_of_lt hrun (by decide), fun _ => hidle.trans_lt (by decide), .inl hidle,
        .inl (Slc.reads_of_lineOk hsends.line), fun _ => nofun, fun _ => nofun⟩
    · rwa [State.slcLoss_of_no_mismatch hflight hmismatch]

/-- R176: the line after a mismatch, with the frame abandoned and the line ignored. -/
theorem State.slcMismatch_sound (cell : Nat) {s : State} (h : s.slc.LineSound) : (s.slcMismatch cell).slc.LineSound := by
  unfold State.slcMismatch
  split
  · next f hflight =>
    split
    · next hmismatch =>
      simp only [Bool.and_eq_true] at hmismatch
      have hsends := h.sending f hflight
      obtain ⟨hcell, -⟩ := InFlight.mismatches_iff.mp hmismatch.1
      obtain ⟨hrun, hidle⟩ := hsends.cut hcell
      have hcut : ({ s.slc.counts (f.until cell ++ [.dominant]) with
          inFlight := none, rx := .ignoring, rxCells := [] } : Slc).Hears :=
        ⟨⟨fun _ => Nat.lt_of_le_of_lt hrun (by decide), fun _ => hidle.trans_lt (by decide), .inl hidle, .inr rfl,
          fun _ => nofun, fun _ => nofun⟩, rfl⟩
      exact (State.slcConflict_hears hcut).sound
    · exact h
  · exact h

/-- R178: the line after the acknowledge cell. -/
theorem State.slcAcknowledge_sound (read : Level) {s : State} (h : s.slc.LineSound) :
    (s.slcAcknowledge read).slc.LineSound := by
  cases hflight : s.slc.inFlight with
  | none => rwa [State.slcAcknowledge, hflight]
  | some f =>
    have hsends := h.sending f hflight
    have hrun : (s.slc.counts (f.until f.cells.length ++ [read])).dominantRun ≤ 1 := by
      rw [Slc.counts_append]
      have hzero : (s.slc.counts (f.until f.cells.length)).dominantRun = 0 := by
        rw [hsends.run_until hsends.cell, List.take_length]
        exact foldl_runCell_bytes _
      exact Nat.le_trans (runCell_le (s.slc.counts (f.until f.cells.length)).dominantRun read) (Nat.succ_le_succ hzero.le)
    have hone := Slc.counts_oneCount h.oneCount (f.until f.cells.length ++ [read])
    have hsound : ({ s.slc.counts (f.until f.cells.length ++ [read]) with
        inFlight := none, consecutive := 0 } : Slc).LineSound :=
      ⟨fun _ => Nat.lt_of_le_of_lt hrun (by decide), fun hline => absurd hsends.line (by rintro h'; simp [h'] at hline), hone,
        .inl (Slc.reads_of_lineOk hsends.line), fun _ _ => hrun, fun _ => nofun⟩
    rw [State.slcAcknowledge, hflight]
    dsimp only
    split
    · exact hsound
    · exact hsound
    · split
      · exact hsound
      · exact hsound.of_same rfl rfl rfl rfl rfl rfl

/-! ### Line states, and time -/

theorem State.slcLineFault_sound {s : State} (h : s.slc.LineSound) : s.slcLineFault.slc.LineSound := by
  unfold State.slcLineFault
  split
  · rw [Slc.counts_seventeen]
    exact (State.enterLineFault_hears rfl).sound
  · exact h

/-- R181, R182: after twelve recessive cells. -/
theorem State.enterLineOk_sound {s : State} (h : s.slc.LineSound) (hline : s.slc.line ≠ .lineOk) :
    (s.setSlc (s.slc.counts (List.replicate 12 .recessive))).enterLineOk.slc.LineSound := by
  rw [Slc.counts_twelve]
  exact (State.enterLineOk_hears (s := s.setSlc { s.slc with idleCount := 12, dominantRun := 0 }) rfl
    (h.inFlight_none hline)).sound

theorem State.slcLineRestored_sound {s : State} (h : s.slc.LineSound) : s.slcLineRestored.slc.LineSound := by
  unfold State.slcLineRestored
  split
  · next hline => exact State.enterLineOk_sound h (by rw [hline]; exact nofun)
  · exact h

theorem State.slcFirstGap_sound {s : State} (h : s.slc.LineSound) : s.slcFirstGap.slc.LineSound := by
  unfold State.slcFirstGap
  split
  · next hline => exact State.enterLineOk_sound h (by rw [hline]; exact nofun)
  · exact h

theorem State.SlcDoes.sound {s t : State} (h : s.SlcDoes t) (hs : s.slc.LineSound) : t.slc.LineSound := by
  cases h with
  | receive f others _ => exact State.receive_sound f others hs
  | receptionError cells => exact State.slcReceptionError_sound cells hs
  | start => exact State.slcStart_sound hs
  | loss bit => exact State.slcLoss_sound bit hs
  | mismatch cell => exact State.slcMismatch_sound cell hs
  | acknowledge read => exact State.slcAcknowledge_sound read hs
  | lineFault => exact State.slcLineFault_sound hs
  | lineRestored => exact State.slcLineRestored_sound hs
  | firstGap => exact State.slcFirstGap_sound hs

/-- R179: what is handed to the SLC comes to its slots and counters. -/
theorem handle_slc_sound {sig : Signal} (hsig : sig.block = .slc) {s : State} (h : s.slc.LineSound) :
    (handle sig s).slc.LineSound := by
  cases sig with
  | slcClaim c =>
    rw [handle, State.slcClaim_eq]
    exact h.of_same rfl rfl rfl rfl rfl rfl
  | slcAnswer a =>
    rw [handle, State.slcAnswer]
    split
    · exact h
    · split
      · exact h
      · exact h.of_same rfl rfl rfl rfl rfl rfl
  | slcStatus p =>
    rw [handle, State.slcStatus]
    split
    · exact h
    · exact h.of_same rfl rfl rfl rfl rfl rfl
  | slcCheckError => exact h.of_same rfl rfl rfl rfl rfl rfl
  | _ => cases hsig

theorem Slc.afterReset_hears (pins : Straps) : (Slc.afterReset pins).Hears :=
  ⟨⟨fun _ => (by decide : 0 < 17), fun _ => (by decide : 0 < 12), .inl rfl, .inr rfl, fun _ => nofun, fun _ => nofun⟩, rfl⟩

/-- The own frame in flight after some more of its cells. -/
theorem Slc.Sends.goes_on {l : Slc} {f : InFlight} (h : l.Sends f) (n : Nat) :
    ({ l.counts ((f.cells.drop (f.cell + 1)).take n) with
        inFlight := some { f with cell := f.cell + ((f.cells.drop (f.cell + 1)).take n).length } } : Slc).Sends
      { f with cell := f.cell + ((f.cells.drop (f.cell + 1)).take n).length } := by
  obtain ⟨hline, hrx, hbytes, hcell, hrun⟩ := h
  have hlength : ((f.cells.drop (f.cell + 1)).take n).length = min n (f.cells.length - (f.cell + 1)) := by
    rw [List.length_take, List.length_drop]
  refine ⟨hline, hrx, hbytes, ?_, ?_⟩
  · show f.cell + ((f.cells.drop (f.cell + 1)).take n).length < f.cells.length
    omega
  · show ((f.cells.drop (f.cell + 1)).take n).foldl runCell l.dominantRun =
      (f.cells.take (f.cell + ((f.cells.drop (f.cell + 1)).take n).length + 1)).foldl runCell 0
    have hsplit : f.cells.take (f.cell + ((f.cells.drop (f.cell + 1)).take n).length + 1) =
        f.cells.take (f.cell + 1) ++ (f.cells.drop (f.cell + 1)).take n := by
      rw [show f.cell + ((f.cells.drop (f.cell + 1)).take n).length + 1 =
        f.cell + 1 + ((f.cells.drop (f.cell + 1)).take n).length by omega, List.take_add,
        ← List.prefix_iff_eq_take.mp (List.take_prefix _ _)]
    rw [hsplit, List.foldl_append, hrun]

theorem foldl_idleCell_quiet {n k : Nat} (h : k ≤ 12) :
    (List.replicate n Level.recessive).foldl idleCell k = min 12 (k + n) := by
  induction n generalizing k with
  | zero => exact (min_eq_right h).symm
  | succ n ih =>
    rw [List.replicate_succ, List.foldl_cons, ih (idleCell_le_max _ _), idleCell, satSucc_eq_min]
    omega

/-- R172: the ten cells of a quiet millisecond. -/
theorem Slc.counts_ten (l : Slc) : l.counts (List.replicate 10 .recessive) =
    { l with idleCount := min 12 (l.idleCount + 10), dominantRun := 0 } := by
  have hidle : (List.replicate 10 Level.recessive).foldl idleCell l.idleCount = min 12 (l.idleCount + 10) := by
    rw [List.replicate_succ, List.foldl_cons, foldl_idleCell_quiet (idleCell_le_max _ _), idleCell, satSucc_eq_min]
    omega
  rw [Slc.counts, hidle]
  rfl

/-- R170: a line that is read, in the cells of a millisecond. -/
theorem Slc.tick_sound {l : Slc} (h : l.LineSound) : l.tick.LineSound := by
  unfold Slc.tick
  split
  · next hreads =>
    split
    · next f hflight =>
      have hsends := h.sending f hflight
      have hon := hsends.goes_on 10
      dsimp only
      refine ⟨fun _ => ?_, fun hline => absurd hsends.line ?_, Slc.counts_oneCount h.oneCount _, .inl hreads, fun hnone => ?_,
        fun g hg => ?_⟩
      · exact Nat.lt_of_le_of_lt (hon.run.trans_le (foldl_runCell_take_bytes _ _)) (by decide)
      · rintro h'
        simp [h'] at hline
      · cases hnone
      · cases hg
        exact hon
    · next hflight =>
      split
      · exact h
      · rw [Slc.counts_ten]
        have hquiet : ({ l with idleCount := min 12 (l.idleCount + 10), dominantRun := 0 } : Slc).Hears := by
          refine ⟨⟨fun _ => (by decide : 0 < 17), fun hline => ?_, .inr rfl, h.ignored, fun _ _ => Nat.zero_le 1,
            fun g hg => absurd (hflight.symm.trans hg) nofun⟩, hflight⟩
          simp only [Slc.reads, Bool.or_eq_true, beq_iff_eq] at hreads
          rcases hreads with h' | h' <;> simp [h'] at hline
        exact (Slc.gap_hears hquiet).sound
  · exact h

/-- Every event, reset and idle step keeps the line sound. -/
theorem keptThroughResets_lineSound : KeptThroughResets fun s => s.slc.LineSound where
  offShare h hs := by rwa [h.slc]
  limitTaken {s n rest} _ hs := by
    rwa [handle, (State.dspLimit_block n { s with bus := rest }).slc (by decide)]
  lsuDone h hs := by
    cases h <;> exact hs
  lsuTaken _ _ h hs := by
    cases h <;> exact hs
  slcDone h hs := h.sound hs
  slcTaken {s _ rest} _ hsig hs := handle_slc_sound (s := { s with bus := rest }) hsig hs
  reset cause levels s := by
    unfold State.resetBy
    dsimp only
    split
    · exact (State.enterSilenced_hears (Slc.afterReset_hears levels)).sound
    · exact (Slc.afterReset_hears levels).sound
  tick hs := Slc.tick_sound hs

end Sys2Proof.Machine
end

section
/-! The line's states: the first gap, a stuck line and its restoring, by the rows for them and by the cells of any row, and
what the LSU makes of them (R51, R67, R69, R172, R173, R181, R182). -/

namespace Sys2Proof.Machine

/-! ### Entry to LINE_FAULT and to LINE_OK -/

theorem State.enterLineFault_of_bus {s : State} (h : s.bus = []) : s.enterLineFault = { s with
    slc := { s.slc with
      line := .lineFault, rx := .ignoring, rxCells := [], consecutive := 0, inFlight := none, claimSlot := none
      answerSlot := none, statusSlot := none }
    evq := s.evq.append .lineFault 0 (if s.slc.line = .syncing then 0 else 1)
    bus := [.cmhSlotEmpty, .lsuLineFault] } := by
  unfold State.enterLineFault
  exact State.emit_of_bus (by exact h) _

theorem State.enterLineOk_of_syncing {s : State} (h : s.bus = []) (hline : s.slc.line = .syncing) :
    s.enterLineOk = { s with slc := { s.slc with line := .lineOk, rx := .waiting }, bus := [.lsuLineOk] } := by
  rw [State.enterLineOk, if_neg (by rw [hline]; exact nofun)]
  exact State.emit_of_bus (by exact h) _

theorem State.enterLineOk_of_lineFault {s : State} (h : s.bus = []) (hline : s.slc.line = .lineFault) :
    s.enterLineOk = { s with
      slc := { s.slc with line := .lineOk, rx := .waiting }
      evq := s.evq.append .lineRestored 0 0
      bus := [.lsuLineOk] } := by
  rw [State.enterLineOk, if_pos hline]
  exact State.emit_of_bus (by exact h) _

/-! ### The cells of any row, on an ignored line -/

/-- No count is reached: no run of 17 where it counts as a stuck line, and no idle gap. -/
def Slc.Passes (l : Slc) : Prop := (l.dominantRun = 17 → l.line ≠ .syncing ∧ l.line ≠ .lineOk) ∧ l.idleCount ≠ 12

theorem State.countsReached_of_passes {s : State} (h : s.slc.Passes) : s.countsReached = s := by
  obtain ⟨hrun, hidle⟩ := h
  unfold State.countsReached Slc.gap
  dsimp only
  rw [if_neg, if_neg, if_neg]
  · rfl
  · simp [hidle]
  · simp [hidle]
  · simp only [Bool.and_eq_true, Bool.or_eq_true, decide_eq_true_eq, not_and]
    rintro hline hstuck
    obtain ⟨hsyncing, hlineOk⟩ := hrun hstuck
    exact hline.elim hsyncing hlineOk

theorem State.countsReached_of_stuck {s : State} (hline : s.slc.line = .syncing ∨ s.slc.line = .lineOk)
    (hrun : s.slc.dominantRun = 17) : s.countsReached = s.enterLineFault := by
  unfold State.countsReached
  dsimp only
  exact if_pos (by simpa [hrun] using hline)

theorem State.countsReached_of_gap {s : State} (hline : s.slc.line = .syncing ∧ s.slc.dominantRun ≠ 17 ∨ s.slc.line = .lineFault)
    (hidle : s.slc.idleCount = 12) : s.countsReached = s.enterLineOk := by
  unfold State.countsReached
  dsimp only
  rcases hline with ⟨hline, hrun⟩ | hline
  · rw [if_neg (by simp [hrun]), if_pos (by simp [hline, hidle])]
  · rw [if_neg (by simp [hline]), if_pos (by simp [hline, hidle])]

theorem State.countsReached_ignored {s : State} (h : s.slc.rx = .ignoring) : s.countsReached.slc.rx ≠ .receiving := by
  unfold State.countsReached Slc.gap
  dsimp only
  split
  · exact nofun
  · split
    · exact nofun
    · split
      · exact nofun
      · rw [State.setSlc_slc, h]
        exact nofun

theorem Slc.counts_oneCount_of_ne_nil {cells : List Level} (h : cells ≠ []) (l : Slc) :
    (l.counts cells).idleCount = 0 ∨ (l.counts cells).dominantRun = 0 := by
  obtain ⟨c, rest, rfl⟩ := List.exists_cons_of_ne_nil h
  refine Slc.counts_oneCount (l := l.count c) ?_ rest
  cases c
  · exact .inl rfl
  · exact .inr rfl

/-- R173: on an ignored line a cell is counted. -/
theorem State.hearCell_ignored {s : State} (h : s.slc.rx = .ignoring) (c : Level) :
    s.hearCell c = ((s.setSlc (s.slc.count c)).countsReached, none) := by
  have hcell : (s.slc.count c).hearCell c = (s.slc.count c, none) := by
    rw [Slc.hearCell, show (s.slc.count c).rx = .ignoring from h]
  unfold State.hearCell
  rw [hcell]
  dsimp only
  rw [ite_self]

/-- R172, R181: cells on an ignored line are counted, until a count is reached at the last of them. -/
theorem State.hear_ignored (frame : List Byte → Option Frame) {cells : List Level} (hne : cells ≠ []) {s : State}
    (hrx : s.slc.rx = .ignoring)
    (hpass : ∀ n, 0 < n → n < cells.length → (s.slc.counts (cells.take n)).Passes) (kept : State) :
    State.hear frame cells kept s = (s.setSlc (s.slc.counts cells)).countsReached := by
  induction cells generalizing s kept with
  | nil => exact absurd rfl hne
  | cons c rest ih =>
    have hcount : (s.setSlc (s.slc.count c)).slc.rx = .ignoring := hrx
    rw [State.hear.eq_def]
    dsimp only
    rw [State.hearCell_ignored hrx]
    dsimp only
    cases hrest : rest with
    | nil =>
      rw [State.hear, if_neg (State.countsReached_ignored hcount)]
      rfl
    | cons d more =>
      have hfirst : (s.setSlc (s.slc.count c)).countsReached = s.setSlc (s.slc.count c) := by
        refine State.countsReached_of_passes (hpass 1 Nat.one_pos ?_)
        rw [hrest]
        exact Nat.succ_lt_succ (Nat.succ_pos _)
      rw [hfirst, ← hrest]
      refine ih (by rw [hrest]; exact List.cons_ne_nil _ _) hcount (fun n _ hn => ?_) _
      exact hpass (n + 1) n.succ_pos (Nat.succ_lt_succ hn)

/-- R173: the cells of a reception that ends as an error, where the line is ignored. -/
theorem State.exec_receptionError_ignored {s : State} (hquiet : s.quiet = true) (hflight : s.slc.inFlight = none)
    (hrx : s.slc.rx = .ignoring) {cells : List Level} (hne : cells ≠ [])
    (hpass : ∀ n, 0 < n → n < cells.length → (s.slc.counts (cells.take n)).Passes) :
    exec (.receptionError cells) s =
      .next (((s.setSlc (s.slc.counts cells)).countsReached).settle settleFuel) := by
  have hcome : s.slc.toCome cells = some cells := by
    rw [Slc.toCome, hflight, hrx]
    rfl
  refine congrArg Host.Outcome.next ((State.event_of_quiet hquiet _).trans (congrArg _ ?_))
  rw [State.slcReceptionError, hcome]
  exact State.hear_ignored _ hne hrx hpass _

/-! ### An idle step, R170 and R172 -/

/-- A quiet state with nothing commanded: a millisecond passes. -/
theorem step_of_quiet {s : State} (h : s.quiet = true) (hpending : s.pending = []) : step s = .next s.tick := by
  rw [step, hpending]
  dsimp only
  rw [State.idle, State.complete_of_quiet h]

theorem Slc.gap_of_twelve {l : Slc} (hreads : l.reads = true) (hidle : l.idleCount = 12) (hrx : l.rx ≠ .receiving) :
    l.gap = { l with rx := .waiting } := by
  cases hrx' : l.rx with
  | receiving => exact absurd hrx' hrx
  | ignoring =>
    rw [Slc.gap, hreads, hrx', hidle]
    rfl
  | waiting => rw [Slc.gap, if_neg (by simp [hrx']), ← hrx']

theorem Slc.gap_of_fewer {l : Slc} (hidle : l.idleCount ≠ 12) : l.gap = l := by
  rw [Slc.gap]
  exact if_neg (by simp [hidle])

theorem Slc.tick_of_quiet_line {l : Slc} (hreads : l.reads = true) (hflight : l.inFlight = none) (hrx : l.rx ≠ .receiving) :
    l.tick = { l with
      idleCount := min 12 (l.idleCount + 10), dominantRun := 0
      rx := if 2 ≤ l.idleCount then .waiting else l.rx } := by
  have htick : l.tick = (l.counts (List.replicate 10 .recessive)).gap := by
    rw [Slc.tick, if_pos hreads, hflight]
    exact if_neg hrx
  rw [htick, Slc.counts_ten]
  by_cases hidle : 2 ≤ l.idleCount
  · have htwelve : min 12 (l.idleCount + 10) = 12 := by omega
    rw [if_pos hidle]
    exact Slc.gap_of_twelve (l := { l with idleCount := min 12 (l.idleCount + 10), dominantRun := 0 }) hreads htwelve hrx
  · have hless : min 12 (l.idleCount + 10) ≠ 12 := by omega
    rw [if_neg hidle]
    exact Slc.gap_of_fewer (l := { l with idleCount := min 12 (l.idleCount + 10), dominantRun := 0 }) hless

theorem Slc.tick_of_sending {l : Slc} (hreads : l.reads = true) {f : InFlight} (hflight : l.inFlight = some f)
    (hcell : f.cell < f.cells.length) :
    l.tick = { l.counts ((f.cells.drop (f.cell + 1)).take 10) with
      inFlight := some { f with cell := min (f.cell + 10) (f.cells.length - 1) } } := by
  have hlength : f.cell + ((f.cells.drop (f.cell + 1)).take 10).length = min (f.cell + 10) (f.cells.length - 1) := by
    rw [List.length_take, List.length_drop]
    omega
  rw [Slc.tick, if_pos hreads, hflight]
  dsimp only
  rw [hlength]

/-! ### The LSU at a change of the line's state -/

theorem State.lsuLineOk_of_isolated {s : State} (hmode : s.lsu.mode = .isolated) (hsilenced : s.lsu.silenced = false) :
    s.lsuLineOk = (s.post .isolatedLeft 0 (word s.lsu.limit)).lsuTo { s.lsu with
      mode := .recovering, cc := ⟨min s.lsu.dc.floor s.lsu.limit, s.lsu.limit, s.lsu.dc.cls⟩, listen := some 3500 } [] := by
  rw [State.lsuLineOk, hmode]
  dsimp only
  exact if_neg (by rw [hsilenced]; exact nofun)

/-- Settles O55: the rows of the line's states, the counts at any cell, the line kept sound, and the idle line. -/
theorem lineStatesFollowTheLine : Obligations.LineStatesFollowTheLine := by
  refine ⟨?firstGap, ?stuck, ?restored, ?cells, ?sound, ?idle, ?listens, ?isolates, ?recovers⟩
  case firstGap =>
    intro s hquiet hline
    refine congrArg Host.Outcome.next ((State.event_of_quiet hquiet _).trans (congrArg _ ?_))
    rw [State.slcFirstGap, if_pos hline, Slc.counts_twelve]
    exact State.enterLineOk_of_syncing (by exact (State.quiet_iff.mp hquiet).1) hline
  case stuck =>
    intro s hquiet hline
    refine congrArg Host.Outcome.next ((State.event_of_quiet hquiet _).trans (congrArg _ ?_))
    rw [State.slcLineFault, if_pos (by simpa using hline), Slc.counts_seventeen]
    exact State.enterLineFault_of_bus (by exact (State.quiet_iff.mp hquiet).1)
  case restored =>
    intro s hquiet hline
    refine congrArg Host.Outcome.next ((State.event_of_quiet hquiet _).trans (congrArg _ ?_))
    rw [State.slcLineRestored, if_pos hline, Slc.counts_twelve]
    exact State.enterLineOk_of_lineFault (by exact (State.quiet_iff.mp hquiet).1) hline
  case cells =>
    intro cells s hquiet hflight hrx noGap noStuck l
    have hbus : s.bus = [] := (State.quiet_iff.mp hquiet).1
    have hidle (hgaps : noGap) (n : Nat) (hn : n < cells.length) : (s.slc.counts (cells.take n)).idleCount ≠ 12 :=
      (hgaps n hn).ne
    have hrun (hruns : noStuck) (n : Nat) (hn : n < cells.length) : (s.slc.counts (cells.take n)).dominantRun ≠ 17 :=
      (hruns n hn).ne
    have hexec {u : State} (hne : cells ≠ []) (hpass : ∀ n, n < cells.length → (s.slc.counts (cells.take n)).Passes)
        (hu : (s.setSlc l).countsReached = u) : exec (.receptionError cells) s = .next (u.settle settleFuel) := by
      rw [← hu]
      exact State.exec_receptionError_ignored hquiet hflight hrx hne fun n _ => hpass n
    refine ⟨fun hgaps hruns hne hstuck hline => hexec hne (fun n hn => ?_) ?stuck,
      fun hgaps hne htwelve hline => hexec hne (fun n hn => ?_) ?restored,
      fun hgaps hruns hne htwelve hline => hexec hne (fun n hn => ?_) ?firstGap⟩
    · exact ⟨fun h => absurd h (hrun hruns n hn), hidle hgaps n hn⟩
    case stuck =>
      refine (State.countsReached_of_stuck (s := s.setSlc l) hline hstuck).trans
        ((State.enterLineFault_of_bus (s := s.setSlc l) hbus).trans ?_)
      have hlrx : l.rx = .ignoring := hrx
      rw [hlrx]
      rfl
    · exact ⟨fun _ => by rw [Slc.counts_line, hline]; exact ⟨nofun, nofun⟩, hidle hgaps n hn⟩
    case restored =>
      exact (State.countsReached_of_gap (s := s.setSlc l) (.inr hline) htwelve).trans
        (State.enterLineOk_of_lineFault hbus hline)
    · exact ⟨fun h => absurd h (hrun hruns n hn), hidle hgaps n hn⟩
    case firstGap =>
      have hzero : l.dominantRun = 0 :=
        (Slc.counts_oneCount_of_ne_nil hne s.slc).resolve_left fun h => absurd (htwelve.symm.trans h) nofun
      have hrun : l.dominantRun ≠ 17 := by omega
      exact (State.countsReached_of_gap (s := s.setSlc l) (.inl ⟨hline, hrun⟩) htwelve).trans
        (State.enterLineOk_of_syncing hbus hline)
  case sound =>
    intro s t hs ht
    exact Slc.lineSound_iff.mpr (keptThroughResets_lineSound.step ht (Slc.lineSound_iff.mp hs))
  case idle =>
    intro s hquiet hpending hline
    have hreads : s.slc.reads = true := by simpa [Slc.reads] using hline
    have hstep := step_of_quiet hquiet hpending
    exact ⟨fun hflight hrx => ⟨s.tick, hstep, Slc.tick_of_quiet_line hreads hflight hrx⟩,
      fun f hflight hcell => ⟨s.tick, hstep, Slc.tick_of_sending hreads hflight hcell⟩⟩
  case listens =>
    intro s hmode
    rw [handle, State.lsuLineOk, hmode]
    exact ⟨rfl, rfl, rfl⟩
  case isolates =>
    intro s hmode
    rw [handle, State.lsuLineFault, if_neg hmode]
    exact ⟨rfl, rfl, rfl, rfl, rfl, rfl, rfl, rfl⟩
  case recovers =>
    intro s hmode hsilenced
    rw [handle, State.lsuLineOk_of_isolated hmode hsilenced]
    exact ⟨rfl, rfl, rfl, rfl⟩

end Sys2Proof.Machine
end

section
/-! The reading commands and RESTART: their data, and that they change nothing but the answer path (R72, R102, R152, R183,
R188). -/

namespace Sys2Proof.Machine

/-! ### A command answered as it is taken -/

/-- R185: a command that passes the tests of decoding is taken. -/
theorem State.decoded_of_allowed {s : State} {k : Byte} {payload : List Byte}
    (hlength : lengthAllowed k payload.length = true) (hconfig : isConfigCommand k = false)
    (hstate : s.cmh.configured = true ∨ takenUnconfigured k = true) : s.decoded (some k) payload = s.take k payload := by
  have hknown : (commandLength k).isNone = false := by
    rw [lengthAllowed] at hlength
    cases hk : commandLength k with
    | none =>
      rw [hk] at hlength
      cases hlength
    | some _ => rfl
  have hrefusal : s.cmh.decodeRefusal (some k) payload = none := by
    rw [Cmh.decodeRefusal, hknown, hlength, hconfig]
    obtain hconfigured | huncon := hstate
    · rw [hconfigured]
      rfl
    · rw [huncon]
      cases s.cmh.configured <;> rfl
  unfold State.decoded
  rw [hrefusal]
  dsimp only
  rw [hconfig]
  rfl

/-- R184: with nothing else on its way, an answer ends in the ANSWER slot. -/
theorem State.settle_answered {s : State} {c : Command} (h : Answering s c) (hbus : s.bus = []) (r : Result)
    (data : List Byte) : (s.answer r data).settle (settleFuel - 1) = s.answered (c.reply r data) := by
  obtain ⟨hdiscards, hslot, hbuffer, hwaiting, houtstanding, hmore⟩ := h
  have hanswer : (s.answer r data).bus = [.cmhAnswer r data] := by
    rw [State.answer, State.emit_of_bus hbus]
    rfl
  have hrest : ({ s.answer r data with bus := [] } : State) = s := by
    rw [← hbus]
    rfl
  have hsettle := State.settle_answer (s := s.answer r data)
    ⟨hdiscards, hslot, hbuffer, hwaiting, houtstanding, hmore⟩ r data (settleFuel - 3) hanswer
  rw [hrest] at hsettle
  exact hsettle

/-- R184: a command that is answered as it is taken leaves its answer in the ANSWER slot, and nothing else. -/
theorem State.panel_answers {s : State} {source : Fin 7} (h : s.listens source = true) {k : Byte} {payload : List Byte}
    (hlength : lengthAllowed k payload.length = true) (hshort : payload.length ≤ 15) (hconfig : isConfigCommand k = false)
    (hstate : s.cmh.configured = true ∨ takenUnconfigured k = true) {r : Result} {data : List Byte}
    (htake : (s.taken source (some k) payload).take k payload = (s.taken source (some k) payload).answer r data) :
    s.panel source (some k) payload = (s.taken source (some k) payload).answered ⟨source, k, r, data⟩ := by
  rw [State.panel_of_listens h (some k) payload nofun hshort,
    State.decoded_of_allowed (s := s.taken source (some k) payload) hlength hconfig hstate, htake]
  exact State.settle_answered (State.answering_taken h (some k) payload) (State.bus_taken h (some k) payload) r data

/-! ### The store's answers, R152 -/

/-- R142: a read of a free store is served at its arrival. -/
theorem State.stcRequest_of_free {s : State} (h : s.stc.free = true) (r : StoreRequest) : s.stcRequest r = s.serve r := by
  rw [State.stcRequest]
  exact if_pos h

/-- R152: the fields of STORE_READ. -/
theorem storeReadFields_iff (slot offset : Byte) : (!slotGiven slot.toNat || 122 < offset.toNat) = true ↔
    slot.toNat = 0 ∨ 24 < slot.toNat ∨ 122 < offset.toNat := by
  simp only [slotGiven, Bool.or_eq_true, Bool.not_eq_true', Bool.and_eq_false_iff, decide_eq_false_iff_not,
    decide_eq_true_eq]
  omega

theorem State.takeStoreRead_of_bad_fields {slot offset : Byte}
    (h : slot.toNat = 0 ∨ 24 < slot.toNat ∨ 122 < offset.toNat) (s : State) :
    s.takeStoreRead [slot, offset] = s.answer .badField [] := by
  rw [State.takeStoreRead]
  exact if_pos ((storeReadFields_iff slot offset).mpr h)

theorem State.takeStoreRead_of_free {s : State} {slot offset : Byte} (hfree : s.stc.free = true)
    (h : ¬ (slot.toNat = 0 ∨ 24 < slot.toNat ∨ 122 < offset.toNat)) :
    s.takeStoreRead [slot, offset] = s.answer .ok
      (byte (s.stc.slotState slot.toNat).code :: (sectorWords s.stc.mem slot.toNat offset.toNat 6).flatMap bytesOf) := by
  rw [State.takeStoreRead]
  exact (if_neg ((storeReadFields_iff slot offset).not.mpr h)).trans (State.stcRequest_of_free hfree _)

theorem SlotState.code_lt (x : SlotState) : x.code < 4 := by
  cases x <;> decide

/-- Table 10-7: the two bits of each of the four slots of a byte of STORE_LIST. -/
theorem listByte_bits (a b c d : SlotState) (n : Nat) (h : n < 4) :
    (byte (64 * a.code + 16 * b.code + 4 * c.code + d.code)).toNat / 4 ^ (3 - n) % 4 =
      ([a, b, c, d].getD n .incomplete).code := by
  have ha := a.code_lt
  have hb := b.code_lt
  have hc := c.code_lt
  have hd := d.code_lt
  have hbyte : (byte (64 * a.code + 16 * b.code + 4 * c.code + d.code)).toNat =
      64 * a.code + 16 * b.code + 4 * c.code + d.code := by
    rw [byte, BitVec.toNat_ofNat]
    omega
  rw [hbyte]
  match n, h with
  | 0, _ =>
    show _ / 64 % 4 = a.code
    omega
  | 1, _ =>
    show _ / 16 % 4 = b.code
    omega
  | 2, _ =>
    show _ / 4 % 4 = c.code
    omega
  | 3, _ =>
    show _ / 1 % 4 = d.code
    omega

/-- Table 10-7: STORE_LIST's bytes hold the state of every slot, four to a byte. -/
theorem listData_bits (m : Nat) {table : List SlotState} (h : table.length = 4 * m) :
    (listData table).length = m ∧ ∀ n, n < 4 * m → ∃ b, (listData table)[n / 4]? = some b ∧
      b.toNat / 4 ^ (3 - n % 4) % 4 = (table.getD n .incomplete).code := by
  induction m generalizing table with
  | zero =>
    obtain rfl := List.length_eq_zero_iff.mp h
    exact ⟨rfl, fun n hn => absurd hn (Nat.not_lt_zero n)⟩
  | succ m ih =>
    match table, h with
    | a :: b :: c :: d :: rest, h =>
      have hrest : rest.length = 4 * m := by
        simp only [List.length_cons] at h
        omega
      obtain ⟨hlength, hbits⟩ := ih hrest
      refine ⟨congrArg (· + 1) hlength, fun n hn => ?_⟩
      by_cases hfirst : n < 4
      · refine ⟨byte (64 * a.code + 16 * b.code + 4 * c.code + d.code), ?_, ?_⟩
        · rw [Nat.div_eq_of_lt hfirst]
          rfl
        · rw [Nat.mod_eq_of_lt hfirst, listByte_bits a b c d n hfirst]
          match n, hfirst with
          | 0, _ | 1, _ | 2, _ | 3, _ => rfl
      · obtain ⟨k, rfl⟩ : ∃ k, n = k + 4 := ⟨n - 4, by omega⟩
        obtain ⟨x, hx, hcode⟩ := hbits k (by omega)
        refine ⟨x, ?_, ?_⟩
        · rw [Nat.add_div_right k (by decide)]
          exact hx
        · rw [Nat.add_mod_right]
          exact hcode

/-! ### READ_PEERS, R72 -/

theorem flagByte_eq (b : Bool) : flagByte b = byte b.toNat := by
  cases b <;> rfl

theorem peerBytes_eq (p : Peer) : peerBytes (some p) =
    [byte p.station, byte (128 * p.silent.toNat + p.age / 1000)] ++ bytesOf (word p.floor) ++ bytesOf (word p.want) ++
      [byte p.cls] := by
  have hflag : (if p.silent then 128 else 0) = 128 * p.silent.toNat := by
    cases p.silent <;> rfl
  rw [peerBytes, hflag]
  rfl

/-- Table 10-8: parts 3 to 5 hold two entries each. -/
theorem Lsu.partData_entries (l : Lsu) {part : Nat} (hlo : 3 ≤ part) (hhi : part ≤ 5) :
    l.partData part = some (peerBytes l.peers[2 * part - 6]? ++ peerBytes l.peers[2 * part - 5]?) := by
  match part, hlo, hhi with
  | 3, _, _ | 4, _, _ | 5, _, _ => rfl

theorem Lsu.partData_above (l : Lsu) {part : Nat} (h : 5 < part) : l.partData part = none := by
  match part, h with
  | _ + 6, _ => rfl

/-- R72: a part is answered with its data, and one above 5 refused. -/
theorem State.panel_readPeers {s : State} {source : Fin 7} (h : s.listens source = true) (part : Byte) :
    exec (.readPeers source [part]) s = .next ((s.taken source (some 0x42) [part]).answered
      (match s.lsu.partData part.toNat with
        | some d => ⟨source, 0x42, .ok, d⟩
        | none => ⟨source, 0x42, .badField, []⟩)) := by
  have hlsu : (s.taken source (some 0x42) [part]).lsu = s.lsu := rfl
  refine congrArg Host.Outcome.next ?_
  cases hdata : s.lsu.partData part.toNat with
  | some d =>
    refine State.panel_answers h rfl (by simp) rfl (.inr rfl) ?_
    show State.takeReadPeers [part] _ = _
    rw [State.takeReadPeers, hlsu, List.headD_cons, hdata]
  | none =>
    refine State.panel_answers h rfl (by simp) rfl (.inr rfl) ?_
    show State.takeReadPeers [part] _ = _
    rw [State.takeReadPeers, hlsu, List.headD_cons, hdata]
    rfl

/-! ### RESTART, R188 -/

/-- R184, R188: a restart is due once the fate of RESTART's own answer is settled. -/
theorem State.cmhSlotEmpty_restartDue {s : State} {a : Answer} (hdue : s.cmh.restartDue = false)
    (ha : s.cmh.outstanding = some a) : s.cmhSlotEmpty.cmh.restartDue = true ↔ a.code = 0x4F ∧ a.result = .ok := by
  rw [State.cmhSlotEmpty, ha]
  dsimp only
  rw [State.setCmh_cmh, hdue, Bool.false_or, Bool.and_eq_true, beq_iff_eq, beq_iff_eq]
  exact Iff.rfl

/-- Settles O50: each reading command is answered as it is taken. -/
theorem readingCommandsAnswer : Obligations.ReadingCommandsAnswer := by
  refine ⟨?storeRead, ?storeList, fun source s h => ⟨?scale, ?state, ?claims, ?pending, ?entries, ?above, ?counts, ?restart,
    ?due⟩⟩
  case storeRead =>
    intro source slot offset s h hconfigured hfree
    refine congrArg Host.Outcome.next ?_
    by_cases hfields : slot.toNat = 0 ∨ 24 < slot.toNat ∨ 122 < offset.toNat
    · rw [if_pos hfields]
      exact State.panel_answers h rfl (by simp) rfl (.inl hconfigured) (State.takeStoreRead_of_bad_fields hfields _)
    · rw [if_neg hfields]
      exact State.panel_answers h rfl (by simp) rfl (.inl hconfigured)
        (State.takeStoreRead_of_free (s := s.taken source (some 0x24) [slot, offset]) hfree hfields)
  case storeList =>
    intro source s h hfree
    refine ⟨listData s.stc.table, congrArg Host.Outcome.next (State.panel_answers h rfl (by decide) rfl (.inr rfl) ?_),
      fun hlength => ?_⟩
    · exact State.stcRequest_of_free (s := s.taken source (some 0x25) []) hfree _
    · exact listData_bits 6 hlength
  case scale =>
    refine congrArg Host.Outcome.next (State.panel_answers h rfl (by decide) rfl (.inr rfl) ?_)
    show State.takeReadScale _ = _
    rw [State.takeReadScale, Sdu.readData, flagByte_eq]
    rfl
  case state =>
    rw [← flagByte_eq]
    exact State.panel_readPeers h 0
  case claims => exact State.panel_readPeers h 1
  case pending => exact State.panel_readPeers h 2
  case entries =>
    intro part hlo hhi entry
    rw [State.panel_readPeers h part, Lsu.partData_entries _ hlo hhi]
    have hentry (i : Nat) : peerBytes s.lsu.peers[i]? = entry i := by
      dsimp only [entry]
      cases s.lsu.peers[i]? with
      | none => rfl
      | some p => exact peerBytes_eq p
    rw [hentry, hentry]
  case above =>
    intro part hpart
    rw [State.panel_readPeers h part, Lsu.partData_above _ hpart]
  case counts =>
    exact congrArg Host.Outcome.next (State.panel_answers h rfl (by decide) rfl (.inr rfl) rfl)
  case restart =>
    exact congrArg Host.Outcome.next (State.panel_answers h rfl (by decide) rfl (.inr rfl) rfl)
  case due =>
    intro hdue a _
    exact State.cmhSlotEmpty_restartDue (s := { s with cmh := { s.cmh with outstanding := some a } }) hdue rfl

end Sys2Proof.Machine
end

section
/-! The generator's timers and the end of a fill (R78, R79, R81, R87, R91, R92, R96), and the scale load after a refill
(R100, R101, R103). -/

namespace Sys2Proof.Machine

/-! ### The derived values of the generator, R84 and R85 -/

/-- Table 4-4: the states in which the generator asks for power. -/
def GenState.heated : GenState → Bool
  | .heating | .steaming => true
  | _ => false

theorem Sgc.refresh_of_unheated {g : Sgc} (h : g.state.heated = false) :
    g.refresh = { g with demand := 0, want := 0 } := by
  have hdemand : g.demandNow = 0 := by
    unfold Sgc.demandNow
    split <;> simp_all [GenState.heated]
  have hwant : ceilDiv (g.rated * 0) 1000 = 0 := by simp [ceilDiv]
  rw [Sgc.refresh, hdemand, hwant]

/-- From one such state to another the derived values stay as they are. -/
theorem Sgc.Fresh.refresh_of_unheated {g g' : Sgc} (h : g.Fresh) (hg : g.state.heated = false)
    (hg' : g'.state.heated = false) (hdemand : g'.demand = g.demand) (hwant : g'.want = g.want) : g'.refresh = g' := by
  have hnone : g = { g with demand := 0, want := 0 } := Eq.trans (Eq.symm h) (Sgc.refresh_of_unheated hg)
  have hdemand' : g'.demand = 0 := hdemand.trans (congrArg Sgc.demand hnone)
  have hwant' : g'.want = 0 := hwant.trans (congrArg Sgc.want hnone)
  rw [Sgc.refresh_of_unheated hg']
  exact (congrArg₂ (fun d w => ({ g' with demand := d, want := w } : Sgc)) hdemand' hwant').symm

/-! ### The deliveries of the generator, R96 -/

theorem State.mem_sgcTo_bus {sig : Signal} {g : Sgc} {s : State} :
    sig ∈ (s.sgcTo g).bus ↔ sig ∈ s.bus ∨ sig ∈ Sgc.demandSignals s.sgc g.refresh ∨
      sig ∈ Sgc.stateSignals s.sgc g.refresh ∨ sig = .sgcEntry := by
  rw [State.sgcTo, State.mem_emit_bus, List.mem_append, List.mem_append, List.mem_singleton, or_assoc]
  rfl

/-- The deliveries of a change of state are made. -/
theorem State.stateSignals_sgcTo {g : Sgc} {s : State} (hg : g.refresh = g) :
    ∀ sig ∈ Sgc.stateSignals s.sgc g, sig ∈ (s.sgcTo g).bus := fun sig hsig =>
  State.mem_sgcTo_bus.mpr (.inr (.inr (.inl (by rwa [hg]))))

/-- R96: a new state is reported to the CLC and the ILU. -/
theorem Sgc.state_mem_stateSignals {old new : Sgc} (h : old.state ≠ new.state) :
    Signal.clcGenerator new.state ∈ Sgc.stateSignals old new ∧
      Signal.iluGenerator new.state ∈ Sgc.stateSignals old new := by
  rw [Sgc.stateSignals, if_neg h]
  simp

/-- R96: entry to WAIT_TANK is reported to the owner of the request. -/
theorem Sgc.wait_mem_stateSignals {old new : Sgc} (hold : old.state ≠ .waitTank) (hnew : new.state = .waitTank)
    {sig : Signal} (hsig : sig ∈ waitSignal new.source true) : sig ∈ Sgc.stateSignals old new := by
  rw [Sgc.stateSignals, if_neg (hnew ▸ hold), if_pos hnew]
  exact List.mem_append_right _ hsig

/-- R96: entry to EMPTY is reported as a completed drain. -/
theorem Sgc.drainEnded_mem_stateSignals {old new : Sgc} (hold : old.state ≠ .empty) (hnew : new.state = .empty) :
    Signal.sduDrainEnded ∈ Sgc.stateSignals old new := by
  rw [Sgc.stateSignals, if_neg (hnew ▸ hold), hnew]
  simp [sigIf]

/-- A refill is reported by its own end alone, not by a new state of the generator. -/
theorem State.sduRefill_mem_sgcTo {g : Sgc} {s : State} :
    Signal.sduRefill ∈ (s.sgcTo g).bus ↔ Signal.sduRefill ∈ s.bus := by
  have hdemand : Signal.sduRefill ∉ Sgc.demandSignals s.sgc g.refresh := by
    simp [Sgc.demandSignals, mem_sigIf]
  have hwait (source : RequestSource) (entered : Bool) : Signal.sduRefill ∉ waitSignal source entered := by
    cases source <;> simp [waitSignal]
  have hstate : Signal.sduRefill ∉ Sgc.stateSignals s.sgc g.refresh := by
    unfold Sgc.stateSignals
    split
    · exact List.not_mem_nil
    · simp only [List.mem_append, mem_sigIf, not_or]
      refine ⟨⟨⟨⟨⟨by simp, ?_⟩, by simp⟩, by simp⟩, by simp⟩, ?_⟩ <;> split <;> simp [hwait]
  rw [State.mem_sgcTo_bus]
  simp [hdemand, hstate]

/-- A new state of the SGC that changes neither the generator's state nor what it asks for is delivered to no other
block. -/
theorem State.sgcTo_of_same {s : State} {g : Sgc} (hbus : s.bus = []) (hg : g.refresh = g)
    (hstate : g.state = s.sgc.state) (hdemand : g.demand = s.sgc.demand) (hwant : g.want = s.sgc.want) :
    s.sgcTo g = { s with sgc := g, bus := [.sgcEntry] } := by
  have hdemands : Sgc.demandSignals s.sgc g = [] := by
    simp [Sgc.demandSignals, sigIf, hdemand, hwant]
  have hstates : Sgc.stateSignals s.sgc g = [] := if_pos hstate.symm
  rw [State.sgcTo, hg, hdemands, hstates, State.emit_of_bus (by exact hbus)]
  rfl

/-! ### The timers of the generator, R79 and R91 -/

theorem State.sgcFillTimeout_of_filling {s : State} (hstate : s.sgc.state = .filling ∨ s.sgc.state = .refilling)
    (htimer : s.sgc.fillTimer.isSome = true) (hpump : s.sgc.pumpOff.any = false) :
    s.sgcFillTimeout = (s.setEvq (if s.sgc.state = .filling then s.evq.append .fillTimeout 0 90
      else s.evq.append .fillTimeout 1 60)).sgcTo s.sgc.interrupt := by
  refine (if_pos (by simpa [htimer, hpump] using hstate)).trans (congrArg (State.sgcTo _) ?_)
  split <;> rfl

/-- R91: LOW covered at the first expiry, the drain timer runs a second time. -/
theorem State.sgcDrainExpiry_extends {s : State} (hstate : s.sgc.state = .draining)
    (htimer : s.sgc.drainTimer.isSome = true) (hextended : s.sgc.extended = false) (hlow : s.sgc.low = true) :
    s.sgcDrainExpiry = s.sgcTo { s.sgc with extended := true, drainTimer := some 30000 } :=
  (if_pos (by simp [hstate, htimer])).trans ((if_neg (Bool.eq_false_iff.mp hextended)).trans (if_pos hlow))

/-- R91, R92: otherwise the drain is at its end. -/
theorem State.sgcDrainExpiry_ends {s : State} (hstate : s.sgc.state = .draining)
    (htimer : s.sgc.drainTimer.isSome = true) (hend : s.sgc.extended = true ∨ s.sgc.low = false) :
    s.sgcDrainExpiry =
      (s.setEvq (if s.sgc.extended then s.evq.append .drainSlow 0 60 else s.evq)).sgcTo s.sgc.enterEmpty := by
  refine (if_pos (by simp [hstate, htimer])).trans ?_
  obtain hextended | hlow := hend
  · rw [hextended]
    rfl
  · rw [hlow]
    split <;> rfl

/-- R91: the second drain period calls for nothing more. -/
theorem State.sgcEntry_of_draining {s : State} (h : s.sgc.state = .draining) : s.sgcEntry = s := by
  rw [State.sgcEntry, h]

/-- Settles O31: either timer's expiry is one new state of the generator, whose deliveries R96 gives. -/
theorem fillAndDrainTimersEnd : Obligations.FillAndDrainTimersEnd := by
  refine ⟨fun s hquiet hfresh hstate htimer hpump => ?fill,
    fun s hquiet hfresh hstate htimer => ⟨fun ⟨hextended, hlow⟩ => ?again, fun hend => ?empty⟩⟩
  case fill =>
    obtain ⟨hunheated, htank⟩ : s.sgc.state.heated = false ∧ s.sgc.state ≠ .waitTank := by
      obtain hstate | hstate := hstate <;> rw [hstate] <;> decide
    have hrefresh : s.sgc.interrupt.refresh = s.sgc.interrupt :=
      (State.fresh_iff.mp hfresh .sgc).refresh_of_unheated hunheated rfl rfl rfl
    refine ⟨s.sgcFillTimeout, congrArg _ (State.event_of_quiet hquiet _), ?_⟩
    rw [State.sgcFillTimeout_of_filling hstate htimer hpump]
    have hsignals := State.stateSignals_sgcTo (s := s.setEvq (if s.sgc.state = .filling then
      s.evq.append .fillTimeout 0 90 else s.evq.append .fillTimeout 1 60)) hrefresh
    obtain ⟨hclc, hilu⟩ := Sgc.state_mem_stateSignals (new := s.sgc.interrupt) htank
    have hwait {sig : Signal} (hsig : sig ∈ waitSignal s.sgc.source true) :=
      hsignals sig (Sgc.wait_mem_stateSignals (new := s.sgc.interrupt) htank rfl hsig)
    refine ⟨?_, ?_, hsignals _ hclc, hsignals _ hilu, fun hrun => hwait (by simp [hrun, waitSignal]),
      fun hprogram => hwait (by simp [hprogram, waitSignal])⟩
    · rw [State.sgcTo, hrefresh]
      rfl
    · rw [State.sgcTo, hrefresh]
      rfl
  case again =>
    have hbus := (State.quiet_iff.mp hquiet).1
    have hunheated : s.sgc.state.heated = false := by rw [hstate]; rfl
    have hrefresh : Sgc.refresh { s.sgc with extended := true, drainTimer := some 30000 } = _ :=
      (State.fresh_iff.mp hfresh .sgc).refresh_of_unheated hunheated hunheated rfl rfl
    rw [exec, execDrainTimerExpiry, State.event_of_quiet hquiet,
      State.sgcDrainExpiry_extends hstate htimer hextended hlow, State.sgcTo_of_same hbus hrefresh rfl rfl rfl]
    refine congrArg _ ((State.settle_cons (rest := []) rfl (settleFuel - 1)).trans ?_)
    rw [handle, State.sgcEntry_of_draining (by exact hstate), State.settle_nil (by rfl), ← hbus]
  case empty =>
    obtain ⟨hunheated, hempty⟩ : s.sgc.state.heated = false ∧ s.sgc.state ≠ .empty := by
      rw [hstate]; decide
    have hrefresh : s.sgc.enterEmpty.refresh = s.sgc.enterEmpty :=
      (State.fresh_iff.mp hfresh .sgc).refresh_of_unheated hunheated rfl rfl rfl
    refine ⟨s.sgcDrainExpiry, congrArg _ (State.event_of_quiet hquiet _), ?_⟩
    rw [State.sgcDrainExpiry_ends hstate htimer hend]
    have hsignals := State.stateSignals_sgcTo (s := s.setEvq (if s.sgc.extended then s.evq.append .drainSlow 0 60
      else s.evq)) hrefresh
    refine ⟨?_, ?_, hsignals _ (Sgc.drainEnded_mem_stateSignals hempty rfl),
      hsignals _ (Sgc.state_mem_stateSignals hempty).2⟩
    · rw [State.sgcTo, hrefresh]
      rfl
    · rw [State.sgcTo, hrefresh]
      rfl

/-! ### The end of a fill, R78 and R87 -/

/-- R78, R87: where a fill that ends leads. -/
theorem Sgc.filled_state (g : Sgc) :
    (g.filled false).fillTimer = none ∧ ((g.filled false).state = .heating ∨ (g.filled false).state = .standing ∨
      (g.filled false).state = .cooling) := by
  unfold Sgc.filled
  dsimp only
  split
  · exact ⟨rfl, .inr (.inr rfl)⟩
  · exact ⟨rfl, .inr (.inl rfl)⟩
  · rw [if_neg Bool.false_ne_true]
    unfold Sgc.enterHeating
    split <;> exact ⟨rfl, .inl rfl⟩

/-- Table 4-2: the pump runs in FILLING and REFILLING alone. -/
theorem Sgc.pump_of_filled {g : Sgc} (h : g.state = .heating ∨ g.state = .standing ∨ g.state = .cooling) :
    g.pump = false := by
  obtain h | h | h := h <;> rw [Sgc.pump, h] <;> rfl

theorem State.sgcEntry_of_filled {s : State} (hstate : s.sgc.state = .filling) (hhigh : s.sgc.high = true) :
    s.sgcEntry = s.sgcTo (s.sgc.filled false) := by
  rw [State.sgcEntry, hstate]
  exact if_pos hhigh

theorem State.sgcEntry_of_refilled {s : State} (hstate : s.sgc.state = .refilling) (hhigh : s.sgc.high = true) :
    s.sgcEntry = (s.sgcTo (s.sgc.filled (s.sgc.ret == some true))).emit [.sduRefill] := by
  rw [State.sgcEntry, hstate]
  exact if_pos hhigh

/-! ### The scale load, R100 to R103 -/

/-- R99, R100: the weights of the hardness classes. -/
theorem hardnessWeight_eq {cls : Nat} (hlo : 1 ≤ cls) (hhi : cls ≤ 7) :
    hardnessWeight cls = [1, 2, 3, 5, 7, 9, 12].getD (cls - 1) 0 := by
  interval_cases cls <;> rfl

/-- R100: no class weighs more than 12. -/
theorem hardnessWeight_le (cls : Nat) : hardnessWeight cls ≤ 12 := by
  unfold hardnessWeight
  split <;> decide

/-- R101: one refill crosses one threshold at most. -/
theorem Sdu.appendAll_scaleEvents (d : Sdu) (q : Evq) :
    q.appendAll (scaleEvents d.scale d.scaleAfterRefill) =
      if d.scale < 6000 ∧ 6000 ≤ d.scaleAfterRefill then q.append .scaleAdvise 0 (word d.scaleAfterRefill)
      else if d.scale < 8000 ∧ 8000 ≤ d.scaleAfterRefill then q.append .scaleLock 0 (word d.scaleAfterRefill)
      else q := by
  have hadd : d.scaleAfterRefill ≤ d.scale + 12 :=
    (Nat.min_le_right _ _).trans (Nat.add_le_add_left (hardnessWeight_le _) _)
  have hcrossed (t : Nat) :
      crossed t d.scale d.scaleAfterRefill = true ↔ d.scale < t ∧ t ≤ d.scaleAfterRefill := by
    simp [crossed]
  simp only [scaleEvents, hcrossed, scaleAdvise, scaleLock]
  split
  · rw [if_neg (by omega)]
    rfl
  · split <;> rfl

theorem State.mem_sduTo_bus {sig : Signal} {d : Sdu} {before : List Signal} {s : State} :
    sig ∈ (s.sduTo d before).bus ↔
      sig ∈ s.bus ∨ sig ∈ Sdu.reports s.sdu d ∨ sig ∈ before ∨ sig ∈ Sdu.requestSignals s.sdu d := by
  rw [State.sduTo, State.mem_emit_bus, List.mem_append, List.mem_append, or_assoc]
  rfl

/-- Settles O33: a refill's end alone reports a refill, and the scale load takes the weight of its class. -/
theorem refillAddsScale : Obligations.RefillAddsScale := by
  refine ⟨fun s hstate hhigh => ?refilled, fun s hstate hhigh hnone => ?filled, fun s hlo hhi => ?scale⟩
  case refilled =>
    rw [handle, State.sgcEntry_of_refilled hstate hhigh]
    exact State.mem_emit_bus.mpr (.inr (List.mem_singleton.mpr rfl))
  case filled =>
    obtain ⟨htimer, hleads⟩ := s.sgc.filled_state
    rw [handle, State.sgcEntry_of_filled hstate hhigh]
    exact ⟨State.sduRefill_mem_sgcTo.not.mpr hnone, Sgc.pump_of_filled (g := (s.sgc.filled false).refresh) hleads,
      htimer, hleads⟩
  case scale =>
    intro after
    have hafter : s.sdu.scaleAfterRefill = after := by
      rw [Sdu.scaleAfterRefill, hardnessWeight_eq hlo hhi]
    refine ⟨?_, ?_, fun hkeep => ?_⟩
    · rw [← hafter]
      rfl
    · rw [← hafter]
      exact (State.postAll_evq _ _).trans (Sdu.appendAll_scaleEvents _ _)
    · rw [← hafter] at hkeep ⊢
      exact State.mem_sduTo_bus.mpr (.inr (.inr (.inl (mem_sigIf.mpr ⟨decide_eq_true hkeep, rfl⟩))))

end Sys2Proof.Machine
end

section
/-! The terms recomputed and the trips they set and clear (R159 to R167): what recomputing one term does, that a
delivery to the ILU does it at every place, and the commands and the generator's FAULT that go with a trip (R94, R95,
R163, R165). -/

namespace Sys2Proof.Machine

/-! ### One term at the ILU -/

theorem Eight.set_get {α : Type} (x : Eight α) (p : Place) : x.set p (x.get p) = x := by
  fin_cases p <;> rfl

theorem Eight.set_set {α : Type} (x : Eight α) (p : Place) (v w : α) : (x.set p v).set p w = x.set p w := by
  fin_cases p <;> rfl

@[simp] theorem Ilu.setTerm_get_self (i : Ilu) (p : Place) (x : TermState) : (i.setTerm p x).terms.get p = x := by
  rw [Ilu.setTerm, Eight.get_set, if_pos rfl]

theorem Ilu.setTerm_get_of_ne (i : Ilu) {p q : Place} (h : q ≠ p) (x : TermState) :
    (i.setTerm p x).terms.get q = i.terms.get q := by
  rw [Ilu.setTerm, Eight.get_set, if_neg h]

theorem Ilu.setTerm_setTerm (i : Ilu) (p : Place) (x y : TermState) :
    (i.setTerm p x).setTerm p y = i.setTerm p y := by
  rw [Ilu.setTerm, Ilu.setTerm, Eight.set_set]
  rfl

@[simp] theorem State.tripSet_get (p : Place) (s : State) :
    (s.tripSet p).ilu.terms.get p = { s.ilu.terms.get p with active := true, timer := none } :=
  Ilu.setTerm_get_self _ _ _

@[simp] theorem State.tripCleared_get (p : Place) (byCommand : Bool) (s : State) :
    (s.tripCleared p byCommand).ilu.terms.get p = { s.ilu.terms.get p with active := false } :=
  Ilu.setTerm_get_self _ _ _

/-- R166: the deliveries of a trip tell the four blocks. -/
theorem State.emit_tripSignals (p : Place) (a : Word) (active : Bool) (s : State) :
    let t := s.emit (tripSignals p a active);
    Signal.dspTrip p a active ∈ t.bus ∧ Signal.sgcTrip p a active ∈ t.bus ∧ Signal.clcTrip p a active ∈ t.bus ∧
      Signal.rsqTrip p a active ∈ t.bus := by
  have hmem : ∀ sig ∈ tripSignals p a active, sig ∈ (s.emit (tripSignals p a active)).bus := fun _ h =>
    State.mem_emit_bus.mpr (.inr h)
  refine ⟨hmem _ ?_, hmem _ ?_, hmem _ ?_, hmem _ ?_⟩ <;> simp [tripSignals]

/-! ### One term recomputed, R160 to R164 -/

/-- R160, R161: the new latch and the new output of the term at a place. -/
def Ilu.recomputed (i : Ilu) (p : Place) : Bool × Bool := i.outputAt p (i.terms.get p).latch

/-- R160, R161: the term with them; its timer and its trip are yet to follow. -/
def Ilu.recompute (i : Ilu) (p : Place) : Ilu :=
  i.setTerm p { i.terms.get p with latch := (i.recomputed p).1, output := some (i.recomputed p).2 }

section
variable {s : State} {p : Place}

theorem State.evaluate_of_none (h : (s.ilu.terms.get p).output = none) : s.evaluate p = s := by
  rw [State.evaluate, h]

/-- R163: an output that stays as it was leaves the timer and the trip. -/
theorem State.evaluate_of_same (h : (s.ilu.terms.get p).output = some (s.ilu.recomputed p).2) :
    s.evaluate p = s.setIlu (s.ilu.recompute p) := by
  rw [State.evaluate, h]
  exact if_pos rfl

/-- R163: an output that becomes true starts the persistence, or sets the trip at once where there is none. -/
theorem State.evaluate_of_rise (hwas : (s.ilu.terms.get p).output = some false)
    (hvalue : (s.ilu.recomputed p).2 = true) : s.evaluate p =
    if (s.ilu.terms.get p).active then s.setIlu (s.ilu.recompute p)
    else if s.ilu.persistence p = 0 then (s.setIlu (s.ilu.recompute p)).tripSet p
    else s.setIlu ((s.ilu.recompute p).setTerm p
      { (s.ilu.recompute p).terms.get p with timer := some (100 * s.ilu.persistence p) }) := by
  have hvalue' : (s.ilu.outputAt p (s.ilu.terms.get p).latch).2 = true := hvalue
  rw [State.evaluate, hwas]
  dsimp only
  rw [if_neg (by rw [hvalue']; decide), if_pos hvalue', Ilu.recompute, Ilu.setTerm_get_self, Ilu.setTerm_setTerm]
  rfl

/-- R163, R164: an output that becomes false stops the persistence, and clears the trip in LEVEL mode. -/
theorem State.evaluate_of_fall (hwas : (s.ilu.terms.get p).output = some true)
    (hvalue : (s.ilu.recomputed p).2 = false) : s.evaluate p =
    let stopped := s.setIlu ((s.ilu.recompute p).setTerm p { (s.ilu.recompute p).terms.get p with timer := none });
    if (s.ilu.terms.get p).active && !s.ilu.latched p then stopped.tripCleared p false else stopped := by
  have hvalue' : (s.ilu.outputAt p (s.ilu.terms.get p).latch).2 = false := hvalue
  rw [State.evaluate, hwas]
  dsimp only
  rw [if_neg (by rw [hvalue']; decide), if_neg (by rw [hvalue']; decide), Ilu.recompute,
    Ilu.setTerm_get_self, Ilu.setTerm_setTerm]
  rfl

/-- R160, R161: recomputing a term gives it the new latch and output. -/
theorem State.evaluate_get (h : (s.ilu.terms.get p).output ≠ none) :
    ((s.evaluate p).ilu.terms.get p).latch = (s.ilu.recomputed p).1 ∧
      ((s.evaluate p).ilu.terms.get p).output = some (s.ilu.recomputed p).2 := by
  obtain ⟨was, hwas⟩ := Option.ne_none_iff_exists'.mp h
  by_cases hsame : was = (s.ilu.recomputed p).2
  · rw [State.evaluate_of_same (hsame ▸ hwas)]
    simp [Ilu.recompute]
  · cases was with
    | false =>
      rw [State.evaluate_of_rise hwas (by simpa using Ne.symm hsame)]
      split
      · simp [Ilu.recompute]
      · split <;> simp [Ilu.recompute]
    | true =>
      rw [State.evaluate_of_fall hwas (by simpa using Ne.symm hsame)]
      dsimp only
      split <;> simp [Ilu.recompute]

/-- R162 to R164, R166: the trip follows the output of its term. -/
theorem State.evaluate_follows : s.tripFollows (s.evaluate p) p (s.ilu.recomputed p).2 (s.ilu.persistence p)
    (s.ilu.latched p) (s.ilu.actions p) := by
  refine ⟨fun hnone => by rw [State.evaluate_of_none hnone], fun was hwas => ⟨?output, ?same, ?rise, ?fall⟩⟩
  case output => exact (State.evaluate_get (by simp [hwas])).2
  case same =>
    intro hsame
    rw [State.evaluate_of_same (hsame ▸ hwas)]
    simp [Ilu.recompute]
  case rise =>
    rintro rfl hvalue
    rw [State.evaluate_of_rise hwas hvalue]
    refine ⟨fun hactive => ?_, fun hactive hnone => ?_, fun hactive hsome => ?_⟩
    · rw [if_pos hactive]
      simp [Ilu.recompute, hactive]
    · rw [if_neg (by simp [hactive]), if_pos hnone]
      exact ⟨by simp, by simp, State.emit_tripSignals p (s.ilu.actions p) true _⟩
    · rw [if_neg (by simp [hactive]), if_neg hsome]
      simp [Ilu.recompute, hactive]
  case fall =>
    rintro rfl hvalue
    rw [State.evaluate_of_fall hwas hvalue]
    dsimp only
    refine ⟨?_, fun hkeeps => ?_, fun hlevel hactive => ?_⟩
    · split <;> simp
    · rw [if_neg (by obtain h | h := hkeeps <;> simp [h])]
      simp [Ilu.recompute]
    · rw [if_pos (by simp [hlevel, hactive])]
      exact ⟨by simp, State.emit_tripSignals p (s.ilu.actions p) false _⟩

end

/-! ### Every term recomputed -/

/-- From one state to another by doings of the ILU that leave the term at a place, with what has been delivered. -/
structure State.LeavesTerm (p : Place) (s t : State) : Prop where
  ilu : ∃ terms, t.ilu = { s.ilu with terms := terms }
  get : t.ilu.terms.get p = s.ilu.terms.get p
  bus : ∀ sig ∈ s.bus, sig ∈ t.bus

namespace State.LeavesTerm

variable {p : Place} {s t u : State}

protected theorem refl : State.LeavesTerm p s s := ⟨⟨_, rfl⟩, rfl, fun _ h => h⟩

protected theorem trans (h : State.LeavesTerm p s t) (h' : State.LeavesTerm p t u) : State.LeavesTerm p s u := by
  obtain ⟨⟨terms, ht⟩, hget, hbus⟩ := h
  obtain ⟨⟨terms', hu⟩, hget', hbus'⟩ := h'
  exact ⟨⟨terms', by rw [hu, ht]⟩, hget'.trans hget, fun sig hsig => hbus' sig (hbus sig hsig)⟩

theorem setTerm {q : Place} (hq : p ≠ q) (h : State.LeavesTerm p s t) (x : TermState) :
    State.LeavesTerm p s (t.setIlu (t.ilu.setTerm q x)) :=
  h.trans ⟨⟨_, rfl⟩, Ilu.setTerm_get_of_ne _ hq x, fun _ hsig => hsig⟩

theorem emit (h : State.LeavesTerm p s t) (sigs : List Signal) : State.LeavesTerm p s (t.emit sigs) :=
  h.trans ⟨⟨_, rfl⟩, rfl, fun _ hsig => State.mem_emit_bus.mpr (.inl hsig)⟩

theorem post (h : State.LeavesTerm p s t) (c : EventCode) (n : Nat) (v : Word) :
    State.LeavesTerm p s (t.post c n v) :=
  h.trans ⟨⟨_, rfl⟩, rfl, fun _ hsig => hsig⟩

theorem tripSet {q : Place} (hq : p ≠ q) (h : State.LeavesTerm p s t) : State.LeavesTerm p s (t.tripSet q) :=
  ((h.post _ _ _).setTerm hq _).emit _

theorem tripCleared {q : Place} (hq : p ≠ q) (h : State.LeavesTerm p s t) (byCommand : Bool) :
    State.LeavesTerm p s (t.tripCleared q byCommand) :=
  ((h.post _ _ _).setTerm hq _).emit _

/-- Recomputing a term leaves those at other places. -/
theorem evaluate {q : Place} (hq : p ≠ q) (s : State) : State.LeavesTerm p s (s.evaluate q) := by
  have hset := fun (x : TermState) => LeavesTerm.refl (s := s).setTerm hq x
  unfold State.evaluate
  dsimp only
  split
  · exact .refl
  · split
    · exact hset _
    · split
      · split
        · exact hset _
        · split
          · exact (hset _).tripSet hq
          · exact hset _
      · split
        · exact (hset _).tripCleared hq false
        · exact hset _

theorem evaluateAll {ps : List Place} (hp : p ∉ ps) (s : State) :
    State.LeavesTerm p s (ps.foldl (fun s q => s.evaluate q) s) := by
  induction ps generalizing s with
  | nil => exact .refl
  | cons q rest ih =>
    obtain ⟨hq, hrest⟩ : p ≠ q ∧ p ∉ rest := by simpa using hp
    exact (evaluate hq s).trans (ih hrest _)

end State.LeavesTerm

/-- R160: each term is recomputed once, after those before it in place order and before those behind it. -/
theorem State.iluTo_at (i : Ilu) (p : Place) (s : State) : ∃ u, State.LeavesTerm p (s.setIlu i) u ∧
    State.LeavesTerm p (u.evaluate p) (s.iluTo i) := by
  obtain ⟨before, behind, hall, hbefore, hbehind⟩ : ∃ before behind, Places.all = before ++ p :: behind ∧
      p ∉ before ∧ p ∉ behind := by
    have hmem : p ∈ Places.all := by fin_cases p <;> decide
    obtain ⟨before, behind, hall⟩ := List.append_of_mem hmem
    have hnodup : Places.all.Nodup := by decide
    rw [hall] at hnodup
    grind
  refine ⟨_, .evaluateAll hbefore _, ?_⟩
  rw [State.iluTo, hall, List.foldl_append, List.foldl_cons]
  exact .evaluateAll hbehind _

/-- A trip goes on following its term through what leaves the term and what has been delivered. -/
theorem State.tripFollows.congr {s s' t t' : State} {p : Place} {value latched : Bool} {persistence : Nat} {a : Word}
    (h : s.tripFollows t p value persistence latched a) (hs : s'.ilu.terms.get p = s.ilu.terms.get p)
    (ht : t'.ilu.terms.get p = t.ilu.terms.get p) (hbus : ∀ sig ∈ t.bus, sig ∈ t'.bus) :
    s'.tripFollows t' p value persistence latched a := by
  unfold State.tripFollows at h ⊢
  rw [hs, ht]
  obtain ⟨hnone, hsome⟩ := h
  refine ⟨hnone, fun was hwas => ?_⟩
  obtain ⟨houtput, hsame, hrise, hfall⟩ := hsome was hwas
  refine ⟨houtput, hsame, fun hfalse htrue => ?_, fun htrue hfalse => ?_⟩
  · obtain ⟨hheld, hset, hstarts⟩ := hrise hfalse htrue
    refine ⟨hheld, fun hactive hpersistence => ?_, hstarts⟩
    obtain ⟨hactive, htimer, hdsp, hsgc, hclc, hrsq⟩ := hset hactive hpersistence
    exact ⟨hactive, htimer, hbus _ hdsp, hbus _ hsgc, hbus _ hclc, hbus _ hrsq⟩
  · obtain ⟨hstops, hkeeps, hclears⟩ := hfall htrue hfalse
    refine ⟨hstops, hkeeps, fun hlevel hactive => ?_⟩
    obtain ⟨hactive, hdsp, hsgc, hclc, hrsq⟩ := hclears hlevel hactive
    exact ⟨hactive, hbus _ hdsp, hbus _ hsgc, hbus _ hclc, hbus _ hrsq⟩

section
variable {s t : State} {i : Ilu} {p : Place}

/-- What the ILU takes but its terms stands as it was taken. -/
theorem State.iluTo_ilu (i : Ilu) (s : State) : ∃ terms, (s.iluTo i).ilu = { i with terms := terms } := by
  obtain ⟨u, hbefore, hbehind⟩ := State.iluTo_at i 0 s
  have hfirst : State.LeavesTerm 1 u (u.evaluate 0) := .evaluate (by decide) u
  obtain ⟨_, hu⟩ := hbefore.ilu
  obtain ⟨_, hv⟩ := hfirst.ilu
  obtain ⟨terms, ht⟩ := hbehind.ilu
  exact ⟨terms, by rw [ht, hv, hu]; rfl⟩

/-- Table 8-4: every source stands as it was taken. -/
theorem State.iluTo_source (n : Fin 16) : (s.iluTo i).ilu.source n = i.source n := by
  obtain ⟨_, h⟩ := State.iluTo_ilu i s
  rw [h]
  rfl

/-- R162 to R164, R166: every trip follows its term, from any state that holds the term as the ILU took it. -/
theorem State.iluTo_follows (h : i.terms.get p = t.ilu.terms.get p) :
    t.tripFollows (s.iluTo i) p (i.recomputed p).2 (i.persistence p) (i.latched p) (i.actions p) := by
  obtain ⟨u, hbefore, hbehind⟩ := State.iluTo_at i p s
  have hfollows := State.evaluate_follows (s := u) (p := p)
  obtain ⟨_, hu⟩ := hbefore.ilu
  have hrecomputed : u.ilu.recomputed p = i.recomputed p := by
    rw [Ilu.recomputed, hbefore.get, hu]
    rfl
  rw [hrecomputed, hu] at hfollows
  exact hfollows.congr (h.symm.trans hbefore.get.symm) hbehind.get hbehind.bus

/-- R159, Table 8-6: the trips of the sensor condition and of the dry condition. -/
theorem State.iluTo_sensor (h : i.terms.get 2 = t.ilu.terms.get 2) :
    t.tripFollows (s.iluTo i) 2 i.sensorCond 0 true 0x103F := State.iluTo_follows h

theorem State.iluTo_dry (h : i.terms.get 3 = t.ilu.terms.get 3) :
    t.tripFollows (s.iluTo i) 3 i.dryCond 0 true 0x0920 := State.iluTo_follows h

/-- R161: every term that is evaluated takes its new latch. -/
theorem State.iluTo_latch (h : (i.terms.get p).output ≠ none) :
    ((s.iluTo i).ilu.terms.get p).latch = (i.recomputed p).1 := by
  obtain ⟨u, hbefore, hbehind⟩ := State.iluTo_at i p s
  obtain ⟨_, hu⟩ := hbefore.ilu
  have hget : u.ilu.terms.get p = i.terms.get p := hbefore.get
  rw [hbehind.get, (State.evaluate_get (hget ▸ h)).1, Ilu.recomputed, hget, hu]
  rfl

/-! ### The configurable terms, R161 and R168 -/

variable {x : Term}

/-- R168: a term held gives its place the function, the persistence, the mode and the action set. -/
theorem Ilu.settings_of_held (h : i.held p = some x) :
    i.recomputed p = i.compute x (i.terms.get p).latch ∧ i.persistence p = x.persistence ∧ i.latched p = x.latched ∧
      i.actions p = x.actions := by
  match p, h with
  | 4, h | 5, h | 6, h | 7, h => simp [Ilu.recomputed, Ilu.outputAt, Ilu.persistence, Ilu.latched, Ilu.actions, h]
  | 0, h | 1, h | 2, h | 3, h => cases h

/-- R160, R161, R168: after a delivery to the ILU every configurable term follows its sources, and its trip the term. -/
theorem State.iluTo_termsFollow (hterms : ∀ p, i.terms.get p = t.ilu.terms.get p)
    (hheld : ∀ p, t.ilu.held p = i.held p) : t.termsFollow (s.iluTo i) := by
  intro p x hx a b c was latch value
  have hoperand (o : Operand) : ((s.iluTo i).ilu.source o.source != o.invert) = i.operand o := by
    rw [State.iluTo_source]
    rfl
  have hcompute : i.compute x was = (if x.fn = .latch then latch else was, value != x.outInvert) := by
    simp only [value, latch, a, b, c, hoperand, Ilu.compute, latchUpdate]
    cases x.fn <;> simp
  obtain ⟨hrecomputed, hpersistence, hlatched, hactions⟩ := Ilu.settings_of_held ((hheld p).symm.trans hx)
  rw [hterms p] at hrecomputed
  have hfollows := State.iluTo_follows (s := s) (hterms p)
  rw [hrecomputed, hcompute, hpersistence, hlatched, hactions] at hfollows
  refine ⟨hfollows, fun houtput => ?_⟩
  rw [State.iluTo_latch (by rwa [hterms p]), hrecomputed, hcompute]

end

/-! ### The sources of other blocks, R159 -/

/-- R160: a delivery that changes sources alone: every configurable term follows them, and they stand as delivered. -/
theorem State.iluTo_sources {s : State} (i : Ilu) (hterms : i.terms = s.ilu.terms)
    (hheld : ∀ p, s.ilu.held p = i.held p) :
    s.termsFollow (s.iluTo i) ∧ ∃ terms, (s.iluTo i).ilu = { i with terms := terms } :=
  ⟨State.iluTo_termsFollow (fun _ => by rw [hterms]) hheld, State.iluTo_ilu i s⟩

theorem State.iluClimate_follows (temp boiler : Int) (sensor : Bool) (s : State) :
    let t := s.iluClimate temp boiler sensor;
    (t.ilu.cavityOver = true ↔ 3000 < temp) ∧ (t.ilu.boilerOver = true ↔ 1100 < boiler) ∧ s.termsFollow t ∧
      s.tripFollows t 2 sensor 0 true 0x103F ∧ s.tripFollows t 3 (decide (1400 < boiler)) 0 true 0x0920 := by
  intro t
  obtain ⟨hfollows, _, hilu⟩ := State.iluTo_sources (s := s) { s.ilu with
    cavityOver := decide (3000 < temp), boilerOver := decide (1100 < boiler), dryCond := decide (1400 < boiler),
    sensorCond := sensor } rfl fun _ => rfl
  rw [show t.ilu = _ from hilu]
  exact ⟨decide_eq_true_iff, decide_eq_true_iff, hfollows, State.iluTo_sensor rfl, State.iluTo_dry rfl⟩

theorem State.iluRun_follows (r : RunState) (s : State) :
    s.termsFollow (s.iluRun r) ∧ ((s.iluRun r).ilu.runActive = true ↔ r = .running ∨ r = .paused) := by
  obtain ⟨hfollows, _, hilu⟩ :=
    State.iluTo_sources (s := s) { s.ilu with runActive := r == .running || r == .paused } rfl fun _ => rfl
  refine ⟨hfollows, ?_⟩
  rw [State.iluRun, hilu]
  simp

theorem State.iluGenerator_follows (g : GenState) (s : State) :
    s.termsFollow (s.iluGenerator g) ∧ ((s.iluGenerator g).ilu.steamActive = true ↔ g ≠ .empty) := by
  obtain ⟨hfollows, _, hilu⟩ :=
    State.iluTo_sources (s := s) { s.ilu with steamActive := g != .empty } rfl fun _ => rfl
  refine ⟨hfollows, ?_⟩
  rw [State.iluGenerator, hilu]
  exact bne_iff_ne

theorem State.iluDescale_follows (on : Bool) (s : State) :
    s.termsFollow (s.iluDescale on) ∧ (s.iluDescale on).ilu.descaleActive = on := by
  obtain ⟨hfollows, _, hilu⟩ := State.iluTo_sources (s := s) { s.ilu with descaleActive := on } rfl fun _ => rfl
  exact ⟨hfollows, congrArg Ilu.descaleActive hilu⟩

theorem State.iluFan_follows (level : Nat) (s : State) :
    s.termsFollow (s.iluFan level) ∧ ((s.iluFan level).ilu.fanRunning = true ↔ 1 ≤ level) := by
  obtain ⟨hfollows, _, hilu⟩ :=
    State.iluTo_sources (s := s) { s.ilu with fanRunning := decide (1 ≤ level) } rfl fun _ => rfl
  refine ⟨hfollows, ?_⟩
  rw [State.iluFan, hilu]
  exact decide_eq_true_iff

theorem State.iluHeat_follows (on : Bool) (s : State) :
    s.termsFollow (s.iluHeat on) ∧ (s.iluHeat on).ilu.heatOn = on := by
  obtain ⟨hfollows, _, hilu⟩ := State.iluTo_sources (s := s) { s.ilu with heatOn := on } rfl fun _ => rfl
  exact ⟨hfollows, congrArg Ilu.heatOn hilu⟩

/-! ### Terms that begin, R162 -/

/-- R162: the term at a place, where it begins. -/
def TermState.begun (begins : Bool) (x : TermState) : TermState :=
  if begins then { x with output := some false, latch := false } else x

theorem Ilu.beginTerm_eq (i : Ilu) (p : Place) (begins : Bool) :
    i.beginTerm p begins = i.setTerm p ((i.terms.get p).begun begins) := by
  unfold Ilu.beginTerm TermState.begun
  split
  · rfl
  · rw [Ilu.setTerm, Eight.set_get]

/-- R162: the configurable terms that are held begin at CONFIGURED. -/
theorem State.iluConfigured_eq (s : State) : s.iluConfigured = s.iluTo { s.ilu with
    configured := true
    terms := { s.ilu.terms with
      p4 := s.ilu.terms.p4.begun s.ilu.t0.isSome, p5 := s.ilu.terms.p5.begun s.ilu.t1.isSome,
      p6 := s.ilu.terms.p6.begun s.ilu.t2.isSome, p7 := s.ilu.terms.p7.begun s.ilu.t3.isSome } } := by
  unfold State.iluConfigured
  simp only [Ilu.beginTerm_eq]
  rfl

/-! ### PERSISTENCE_EXPIRY and CLEAR_TRIP, R163 and R165 -/

/-- R166: a trip set with no delivery waiting. -/
theorem State.tripSet_of_bus {s : State} (h : s.bus = []) (p : Place) : s.tripSet p = { s with
    ilu := s.ilu.setTerm p { s.ilu.terms.get p with active := true, timer := none }
    evq := s.evq.append .tripSet p.val (s.ilu.actions p)
    bus := tripSignals p (s.ilu.actions p) true } :=
  State.emit_of_bus (by exact h) _

theorem State.tripCleared_of_bus {s : State} (h : s.bus = []) (p : Place) : s.tripCleared p true = { s with
    ilu := s.ilu.setTerm p { s.ilu.terms.get p with active := false }
    evq := s.evq.append .tripCleared p.val 1
    bus := tripSignals p (s.ilu.actions p) false } :=
  State.emit_of_bus (by exact h) _

theorem State.iluPersistence_of_waiting {s : State} {p : Place} (htimer : (s.ilu.terms.get p).timer.isSome = true)
    (houtput : (s.ilu.terms.get p).output = some true) (hactive : (s.ilu.terms.get p).active = false) :
    s.iluPersistence p = s.tripSet p :=
  if_pos (by simp [htimer, houtput, hactive])

/-- R165: the tests of CLEAR_TRIP at a place. -/
theorem State.takeClearTrip_place (p : Place) (s : State) : s.takeClearTrip [byte p.val] =
    if !(s.ilu.terms.get p).active then s.refuse .wrongState
    else if (s.ilu.terms.get p).output == some true then s.refuse .termStillTrue
    else (s.tripCleared p true).answer .ok [] := by
  fin_cases p <;> rfl

theorem State.takeClearTrip_above {place : Byte} (h : 7 < place.toNat) (s : State) :
    s.takeClearTrip [place] = s.refuse .badField :=
  dif_neg (by rw [List.headD_cons]; omega)

/-- R185: before CONFIGURED a command that needs it is refused at decoding. -/
theorem State.panel_notConfigured {s : State} {source : Fin 7} (h : s.listens source = true) {k : Byte}
    {payload : List Byte} (hlength : lengthAllowed k payload.length = true) (hshort : payload.length ≤ 15)
    (hknown : (commandLength k).isNone = false) (hstore : k ≠ storeWriteCode) (htaken : takenUnconfigured k = false)
    (hstate : s.cmh.configured = false) : s.panel source (some k) payload =
      (s.taken source (some k) payload).answered ⟨source, k, .notConfigured, []⟩ := by
  have hrefusal : (s.taken source (some k) payload).cmh.decodeRefusal (some k) payload = some .notConfigured := by
    have hstate' : (s.taken source (some k) payload).cmh.configured = false := hstate
    simp [Cmh.decodeRefusal, hknown, hlength, hstate', htaken]
  have hdecoded : (s.taken source (some k) payload).decoded (some k) payload =
      (s.taken source (some k) payload).refuse .notConfigured := by
    unfold State.decoded
    rw [hrefusal]
    exact if_neg (by simpa using hstore)
  rw [State.panel_of_listens h (some k) payload nofun hshort, hdecoded]
  exact State.settle_answered (State.answering_taken h (some k) payload) (State.bus_taken h (some k) payload) _ []

/-- CLEAR_TRIP, answered as it is taken. -/
theorem State.panel_clearTrip {s : State} {source : Fin 7} (h : s.listens source = true)
    (hconfigured : s.cmh.configured = true) {place : Byte} {r : Result}
    (htake : (s.taken source (some 0x41) [place]).takeClearTrip [place] =
      (s.taken source (some 0x41) [place]).refuse r) :
    exec (.clearTrip source [place]) s =
      .next ((s.taken source (some 0x41) [place]).answered ⟨source, 0x41, r, []⟩) :=
  congrArg Host.Outcome.next (State.panel_answers h rfl (by simp) rfl (.inl hconfigured) htake)

/-- R165: CLEAR_TRIP of an active trip whose term is no longer true. -/
theorem State.exec_clearTrip_clears {s : State} {source : Fin 7} (h : s.listens source = true)
    (hconfigured : s.cmh.configured = true) {p : Place} (hactive : (s.ilu.terms.get p).active = true)
    (houtput : (s.ilu.terms.get p).output ≠ some true) :
    exec (.clearTrip source [byte p.val]) s = .next (State.settle (settleFuel - 1)
      { s.taken source (some 0x41) [byte p.val] with
        ilu := s.ilu.setTerm p { s.ilu.terms.get p with active := false }
        evq := s.evq.append .tripCleared p.val 1
        bus := tripSignals p (s.ilu.actions p) false ++ [.cmhAnswer .ok []] }) := by
  have hdecoded : (s.taken source (some 0x41) [byte p.val]).decoded (some 0x41) [byte p.val] =
      (s.taken source (some 0x41) [byte p.val]).takeClearTrip [byte p.val] :=
    State.decoded_of_allowed rfl rfl (.inl hconfigured)
  have htake : (s.taken source (some 0x41) [byte p.val]).takeClearTrip [byte p.val] =
      ((s.taken source (some 0x41) [byte p.val]).tripCleared p true).answer .ok [] :=
    (State.takeClearTrip_place p _).trans ((if_neg (by simpa [State.taken] using hactive)).trans
      (if_neg (by simpa [State.taken] using houtput)))
  have hexec : exec (.clearTrip source [byte p.val]) s = .next (s.panel source (some 0x41) [byte p.val]) := rfl
  rw [hexec, State.panel_of_listens h (some 0x41) [byte p.val] nofun (by simp), hdecoded, htake,
    State.tripCleared_of_bus (State.bus_taken h _ _)]
  rfl

/-! ### The DRY trip at the generator, R94 and R95 -/

/-- R93: the generator with the place of a trip in its pump-off set, where the action set asks for it. -/
def Sgc.pumpTrip (g : Sgc) (p : Place) (a : Word) : Sgc :=
  if Actions.pumpOff a then { g with pumpOff := g.pumpOff.set p true } else g

theorem Sgc.pumpTrip_fitted (g : Sgc) (p : Place) (a : Word) : (g.pumpTrip p a).fitted = g.fitted := by
  unfold Sgc.pumpTrip
  split <;> rfl

/-- R94: the DRY trip sends a fitted generator to FAULT. -/
theorem State.sgcTrip_dry_sets {s : State} (h : s.sgc.fitted = true) (a : Word) :
    s.sgcTrip 3 a true = s.sgcTo { s.sgc.pumpTrip 3 a with dry := true }.enterFault := by
  have htrip : s.sgcTrip 3 a true = s.sgcTo (if (s.sgc.pumpTrip 3 a).fitted
      then { s.sgc.pumpTrip 3 a with dry := true }.enterFault else { s.sgc.pumpTrip 3 a with dry := true }) := rfl
  rw [htrip, if_pos (by rw [Sgc.pumpTrip_fitted, h])]

/-- R95: its clearing leads from FAULT to COOLING. -/
theorem State.sgcTrip_dry_clears {s : State} (h : s.sgc.state = .fault) (a : Word) :
    s.sgcTrip 3 a false =
      s.sgcTo { s.sgc with pumpOff := s.sgc.pumpOff.set 3 false, dry := false }.enterCooling :=
  show (if s.sgc.state = .fault then _ else _) = _ from if_pos h

/-- R94: in FAULT neither pump nor drain runs, and the generator asks for no power. -/
theorem Sgc.refresh_enterFault (g : Sgc) : let f := g.enterFault.refresh;
    f.state = .fault ∧ f.fillTimer = none ∧ f.drainTimer = none ∧ f.pump = false ∧ f.drainValve = false ∧
      f.demand = 0 ∧ f.want = 0 := by
  intro f
  have hf : f = { g.enterFault with demand := 0, want := 0 } := Sgc.refresh_of_unheated rfl
  rw [hf]
  exact ⟨rfl, rfl, rfl, rfl, rfl, rfl, rfl⟩

/-- Settles O52: each command by what it posts and delivers, and the deliveries to the ILU by what recomputing every
term does. -/
theorem tripsAreSetAndCleared : Obligations.TripsAreSetAndCleared := by
  refine ⟨?expiry, ?clear, ?refused, ?dry, ?tables, State.iluClimate_follows, State.iluRun_follows,
    State.iluGenerator_follows, State.iluDescale_follows, State.iluFan_follows, State.iluHeat_follows, ?configured⟩
  case expiry =>
    intro p s hquiet htimer houtput hactive a
    rw [exec, execPersistenceExpiry, State.event_of_quiet hquiet,
      State.iluPersistence_of_waiting htimer houtput hactive, State.tripSet_of_bus (State.quiet_iff.mp hquiet).1]
    rfl
  case clear =>
    intro source p s h hconfigured place t a
    have htake : (s.taken source (some 0x41) [place]).takeClearTrip [place] = if !t.active then _ else _ :=
      State.takeClearTrip_place p _
    refine ⟨fun hactive => ?_, fun hactive houtput => ?_, fun hactive houtput => ?_⟩
    · exact State.panel_clearTrip h hconfigured (htake.trans (if_pos (by simpa using hactive)))
    · exact State.panel_clearTrip h hconfigured
        (htake.trans ((if_neg (by simpa using hactive)).trans (if_pos (beq_iff_eq.mpr houtput))))
    · exact State.exec_clearTrip_clears h hconfigured hactive houtput
  case refused =>
    intro source place s h
    exact ⟨fun hstate => congrArg _ (State.panel_notConfigured h rfl (by simp) rfl (by decide) rfl hstate),
      fun hconfigured habove => State.panel_clearTrip h hconfigured (State.takeClearTrip_above habove _)⟩
  case dry =>
    refine fun a s => ⟨fun hfitted => ?_, fun hfault => ?_⟩
    · rw [handle, State.sgcTrip_dry_sets hfitted]
      exact Sgc.refresh_enterFault _
    · rw [handle, State.sgcTrip_dry_clears hfault]
      rfl
  case tables =>
    intro i
    exact ⟨rfl, rfl, rfl, rfl, rfl, rfl, rfl, rfl, rfl⟩
  case configured =>
    intro s begun k
    have hbegun (held : Option Term) (x : TermState) : begun held x = x.begun held.isSome := by
      cases held <;> rfl
    simp only [hbegun]
    rw [handle, State.iluConfigured_eq]
    exact State.iluTo_termsFollow (fun _ => rfl) fun _ => rfl

end Sys2Proof.Machine
end

section
/-! The SDU on its own account and at its commands: the end of the soak (R109, R110), SET_HARDNESS (R99), DESCALE_START
(R105), RINSE_START (R106) and DESCALE_ABORT (R115). -/

namespace Sys2Proof.Machine

/-! ### Panel commands with deliveries of their own -/

theorem State.mem_answer_bus {sig : Signal} {r : Result} {data : List Byte} {s : State} :
    sig ∈ (s.answer r data).bus ↔ sig ∈ s.bus ∨ sig = .cmhAnswer r data := by
  rw [State.answer, State.mem_emit_bus, List.mem_singleton]

/-- R184, R185: a panel command that passes the tests of decoding is taken, and what it delivers settles. -/
theorem State.panel_takes {s u : State} {source : Fin 7} (h : s.listens source = true) {k : Byte} {payload : List Byte}
    (hlength : lengthAllowed k payload.length = true) (hshort : payload.length ≤ 15)
    (hconfig : isConfigCommand k = false) (hstate : s.cmh.configured = true ∨ takenUnconfigured k = true)
    (htake : (s.taken source (some k) payload).take k payload = u) :
    s.panel source (some k) payload = u.settle (settleFuel - 1) := by
  rw [State.panel_of_listens h (some k) payload nofun hshort,
    State.decoded_of_allowed (s := s.taken source (some k) payload) hlength hconfig hstate, htake]

/-! ### What the SDU delivers, R75, R102 -/

/-- R102: no indication is delivered that has not changed. -/
theorem Sdu.reports_of_same {old new : Sdu} (hlocked : new.steamLocked = old.steamLocked)
    (hrinse : new.rinse = old.rinse) (hactive : new.active = old.active) : Sdu.reports old new = [] := by
  simp [Sdu.reports, sigIf, hlocked, hrinse, hactive]

/-- R102: descale active is delivered to the ILU and the RSQ where it changes. -/
theorem Sdu.descale_mem_reports {old new : Sdu} {on : Bool} (hold : old.active ≠ on) (hnew : new.active = on) :
    Signal.iluDescale on ∈ Sdu.reports old new ∧ Signal.rsqDescale on ∈ Sdu.reports old new := by
  simp [Sdu.reports, hnew, hold]

/-- R75: the program request is delivered where it changes. -/
theorem Sdu.program_mem_requestSignals {old new : Sdu} (h : old.request ≠ new.request) :
    Signal.sgcProgram new.request ∈ Sdu.requestSignals old new :=
  mem_sigIf.mpr ⟨bne_iff_ne.mpr h, rfl⟩

/-- With no indication changed and no delivery waiting, the SDU delivers what it is given and its program request. -/
theorem State.sduTo_of_same {s : State} {d : Sdu} (before : List Signal) (hbus : s.bus = [])
    (hlocked : d.steamLocked = s.sdu.steamLocked) (hrinse : d.rinse = s.sdu.rinse) (hactive : d.active = s.sdu.active) :
    s.sduTo d before = { s with sdu := d, bus := Signal.inOrder (before ++ Sdu.requestSignals s.sdu d) } := by
  rw [State.sduTo, Sdu.reports_of_same hlocked hrinse hactive, State.emit_of_bus (by exact hbus)]
  rfl

/-- A new state of the SDU and an answer change nothing else but the bus. -/
theorem State.sduTo_answer_eq (s : State) (q : Evq) (d : Sdu) (before : List Signal) (r : Result) (data : List Byte) :
    ((s.setEvq q).sduTo d before).answer r data =
      { s with sdu := d, evq := q, bus := (((s.setEvq q).sduTo d before).answer r data).bus } := rfl

/-- A command at which the SDU takes a new state and is answered OK, with the events posted before: what it leaves, and
what it delivers. -/
theorem State.panel_sduTo {s : State} {source : Fin 7} (h : s.listens source = true)
    (hconfigured : s.cmh.configured = true) {k : Byte} (hlength : lengthAllowed k 0 = true)
    (hconfig : isConfigCommand k = false) {q : Evq} {d : Sdu} {before : List Signal}
    (htake : (s.taken source (some k) []).take k [] =
      (((s.taken source (some k) []).setEvq q).sduTo d before).answer .ok []) :
    ∃ u : State, s.panel source (some k) [] = u.settle (settleFuel - 1) ∧
      u = { s.taken source (some k) [] with sdu := d, evq := q, bus := u.bus } ∧
      Signal.cmhAnswer .ok [] ∈ u.bus ∧
      ∀ sig, sig ∈ Sdu.reports s.sdu d ∨ sig ∈ before ∨ sig ∈ Sdu.requestSignals s.sdu d → sig ∈ u.bus := by
  refine ⟨_, State.panel_takes (payload := []) h hlength (Nat.zero_le _) hconfig (.inl hconfigured) htake,
    State.sduTo_answer_eq _ _ _ _ _ _, ?_, ?_⟩
  · exact State.mem_answer_bus.mpr (.inr rfl)
  · intro sig hsig
    exact State.mem_answer_bus.mpr (.inl (State.mem_sduTo_bus.mpr (.inr hsig)))

/-! ### The end of the soak, R109 and R110 -/

theorem State.sduSoakComplete_of_soaking {s : State} (hstate : s.sdu.pstate = .soak) (hsoaking : s.sdu.soaking = true) :
    s.sduSoakComplete = s.sduTo { s.sdu.enterDrain with soak := 1200000 } [] :=
  if_pos (by simp [hstate, hsoaking])

/-- Settles O32: DRAIN is as active as SOAK, so that the request alone is delivered. -/
theorem soakCompleteEntersDrain : Obligations.SoakCompleteEntersDrain := by
  intro s hquiet hstate hsoaking hrequest
  have hactive : Sdu.active { s.sdu.enterDrain with soak := 1200000 } = s.sdu.active := by
    rw [Sdu.active, Sdu.active, hstate]
    rfl
  have hrequests : Sdu.requestSignals s.sdu { s.sdu.enterDrain with soak := 1200000 } = [.sgcProgram .drain] := by
    rw [Sdu.requestSignals, hrequest]
    rfl
  refine ⟨s.sduSoakComplete, congrArg _ (State.event_of_quiet hquiet _), ?_⟩
  rw [State.sduSoakComplete_of_soaking hstate hsoaking,
    State.sduTo_of_same (d := { s.sdu.enterDrain with soak := 1200000 }) [] (State.quiet_iff.mp hquiet).1 rfl rfl
      hactive, hrequests]
  rfl

/-! ### SET_HARDNESS, R99 -/

/-- A value is clamped exactly where it lies outside the range. -/
theorem clampNat_eq_self_iff {lo hi v : Nat} : clampNat lo hi v = v ↔ lo ≤ v ∧ v ≤ hi := by
  unfold clampNat
  split
  · omega
  · split <;> omega

theorem State.takeSetHardness_of_bus {s : State} (hbus : s.bus = []) (given : Byte) :
    let cls := clampNat 1 7 given.toNat
    s.takeSetHardness [given] = { s with
      sdu := { s.sdu with hardness := cls }
      bus := [.stcRequest (.keepWrite ⟨s.sdu.scale, cls, s.sdu.rinse, s.sdu.count⟩),
        .cmhAnswer (if 1 ≤ given.toNat ∧ given.toNat ≤ 7 then .ok else .clamped) []] } := by
  intro cls
  have hresult : (if cls = given.toNat then Result.ok else .clamped) =
      if 1 ≤ given.toNat ∧ given.toNat ≤ 7 then .ok else .clamped :=
    if_congr clampNat_eq_self_iff rfl rfl
  have hrequests : Sdu.requestSignals s.sdu { s.sdu with hardness := cls } = [] := by
    simp [Sdu.requestSignals, sigIf]
  have htake : s.takeSetHardness [given] = (s.sduTo { s.sdu with hardness := cls }
    [Sdu.keepSignal { s.sdu with hardness := cls }]).answer (if cls = given.toNat then .ok else .clamped) [] := rfl
  rw [htake, hresult, State.sduTo_of_same (d := { s.sdu with hardness := cls }) _ hbus rfl rfl rfl, hrequests]
  rfl

/-! ### DESCALE_START and RINSE_START, R105 and R106 -/

/-- R105, R106: the tests that both commands share. -/
theorem Sdu.startRefusal_eq (d : Sdu) : d.startRefusal =
    if d.fitted = false then some .notFitted
    else if d.pstate ≠ .idle then some .wrongState
    else if d.run ≠ .idle then some .wrongState
    else if d.gen ≠ .empty ∧ d.gen ≠ .cooling ∧ d.gen ≠ .draining then some .wrongState
    else none := by
  simp [Sdu.startRefusal, and_assoc]

/-- A program starts in IDLE alone. -/
theorem Sdu.idle_of_startRefusal {d : Sdu} (h : d.startRefusal = none) : d.pstate = .idle := by
  by_contra hne
  rw [Sdu.startRefusal_eq, if_pos hne] at h
  split at h <;> cases h

/-- R105: the first test of DESCALE_START that fails. -/
def Sdu.descaleRefusal (d : Sdu) : Option Result :=
  d.startRefusal.or (if d.rinse then some .rinseRequired else none)

/-- R106: the first test of RINSE_START that fails. -/
def Sdu.rinseRefusal (d : Sdu) : Option Result :=
  d.startRefusal.or (if d.rinse then none else some .wrongState)

/-- R105: DESCALE_START is refused by its first test that fails, or begins the program at its prompt. -/
theorem State.takeDescaleStart_eq (s : State) : s.takeDescaleStart =
    match s.sdu.descaleRefusal with
    | some r => s.refuse r
    | none => ((s.post .prompt 20 0).sduTo
        { s.sdu with program := .descale, round := 1, soak := 0, pstate := .promptSolution }
        [Sdu.floorSignal]).answer .ok [] := by
  unfold State.takeDescaleStart Sdu.descaleRefusal
  cases s.sdu.startRefusal with
  | some r => rfl
  | none => cases s.sdu.rinse <;> rfl

/-- R106: RINSE_START is refused by its first test that fails, or begins the program at its prompt. -/
theorem State.takeRinseStart_eq (s : State) : s.takeRinseStart =
    match s.sdu.rinseRefusal with
    | some r => s.refuse r
    | none => ((s.post .prompt 21 0).sduTo { s.sdu with program := .rinse, rinseCounter := 1, pstate := .promptWater }
        [Sdu.floorSignal]).answer .ok [] := by
  unfold State.takeRinseStart Sdu.rinseRefusal
  cases s.sdu.startRefusal with
  | some r => rfl
  | none => cases s.sdu.rinse <;> rfl

theorem State.takeDescaleStart_refused {s : State} {r : Result} (h : s.sdu.descaleRefusal = some r) :
    s.takeDescaleStart = s.refuse r := by
  rw [State.takeDescaleStart_eq, h]

theorem State.takeDescaleStart_begins {s : State} (h : s.sdu.descaleRefusal = none) :
    s.takeDescaleStart = ((s.post .prompt 20 0).sduTo
      { s.sdu with program := .descale, round := 1, soak := 0, pstate := .promptSolution }
      [Sdu.floorSignal]).answer .ok [] := by
  rw [State.takeDescaleStart_eq, h]

theorem State.takeRinseStart_refused {s : State} {r : Result} (h : s.sdu.rinseRefusal = some r) :
    s.takeRinseStart = s.refuse r := by
  rw [State.takeRinseStart_eq, h]

theorem State.takeRinseStart_begins {s : State} (h : s.sdu.rinseRefusal = none) :
    s.takeRinseStart = ((s.post .prompt 21 0).sduTo
      { s.sdu with program := .rinse, rinseCounter := 1, pstate := .promptWater } [Sdu.floorSignal]).answer .ok [] := by
  rw [State.takeRinseStart_eq, h]

/-! ### DESCALE_ABORT, R115 -/

theorem State.takeDescaleAbort_refused {s : State} (h : s.sdu.pstate = .idle ∨ s.sdu.pstate = .abortDrain) :
    s.takeDescaleAbort = s.refuse .wrongState := by
  unfold State.takeDescaleAbort
  obtain h | h := h <;> simp only [h]

/-- R115: at its first prompt a descaling program ends. -/
theorem State.takeDescaleAbort_first {s : State} (hstate : s.sdu.pstate = .promptSolution)
    (hresume : s.sdu.resume = none) : s.takeDescaleAbort =
      ((s.post .descaleAborted 0 1).sduTo s.sdu.ended [Sdu.floorSignal]).answer .ok [] := by
  unfold State.takeDescaleAbort
  simp only [hstate, hresume]
  rfl

/-- R115: elsewhere a program goes on to ABORT_DRAIN. -/
theorem State.takeDescaleAbort_drains {s : State} (hidle : s.sdu.pstate ≠ .idle) (hdrain : s.sdu.pstate ≠ .abortDrain)
    (hfirst : s.sdu.pstate = .promptSolution → s.sdu.resume ≠ none) : s.takeDescaleAbort =
      ((s.post .descaleAborted (if s.sdu.program = .rinse then 1 else 0) (word s.sdu.pstate.code)).sduTo
        { s.sdu with pstate := .abortDrain, request := .drain, resume := none, soaking := false }
        []).answer .ok [] := by
  unfold State.takeDescaleAbort
  dsimp only
  split
  · next h => exact absurd h hidle
  · next h => exact absurd h hdrain
  · exact if_neg (by simpa [Option.isNone_iff_eq_none] using hfirst)

/-- Settles O60: each command is taken by the SDU, and answered after what its new state delivers. -/
theorem scaleCommandsSteerPrograms : Obligations.ScaleCommandsSteerPrograms := by
  intro source s h hconfigured
  refine ⟨?hardness, ?starts, ?abortRefused, ?abortFirst, ?abortDrains⟩
  case hardness =>
    intro given cls
    exact congrArg Host.Outcome.next (State.panel_takes (k := 0x30) (payload := [given]) h rfl (by simp) rfl
      (.inl hconfigured) (State.takeSetHardness_of_bus (State.bus_taken h _ _) given))
  case starts =>
    intro refusal descale rinse
    have hrefusal : s.sdu.startRefusal = refusal := s.sdu.startRefusal_eq
    have hdescale : s.sdu.descaleRefusal = descale := congrArg (Option.or · _) hrefusal
    have hrinse : s.sdu.rinseRefusal = rinse := congrArg (Option.or · _) hrefusal
    refine ⟨fun r hr => ?descaleRefused, fun hnone => ?descaleBegins, fun r hr => ?rinseRefused,
      fun hnone => ?rinseBegins⟩
    case descaleRefused =>
      exact congrArg Host.Outcome.next (State.panel_answers (k := 0x31) (payload := []) h rfl (by decide) rfl
        (.inl hconfigured) (State.takeDescaleStart_refused (hdescale.trans hr)))
    case descaleBegins =>
      have hidle := Sdu.idle_of_startRefusal (Option.or_eq_none_iff.mp (hdescale.trans hnone)).1
      have hactive : s.sdu.active ≠ true := by simp [Sdu.active, hidle]
      obtain ⟨u, hpanel, hu, hanswer, hsignals⟩ := State.panel_sduTo (k := 0x31) h hconfigured rfl rfl
        (State.takeDescaleStart_begins (hdescale.trans hnone))
      obtain ⟨hilu, hrsq⟩ := Sdu.descale_mem_reports (old := s.sdu)
        (new := { s.sdu with program := .descale, round := 1, soak := 0, pstate := .promptSolution }) hactive rfl
      exact ⟨u, congrArg Host.Outcome.next hpanel, hu, hsignals _ (.inl hilu), hsignals _ (.inl hrsq),
        hsignals _ (.inr (.inl (List.mem_singleton.mpr rfl))), hanswer⟩
    case rinseRefused =>
      exact congrArg Host.Outcome.next (State.panel_answers (k := 0x32) (payload := []) h rfl (by decide) rfl
        (.inl hconfigured) (State.takeRinseStart_refused (hrinse.trans hr)))
    case rinseBegins =>
      obtain ⟨u, hpanel, hu, hanswer, hsignals⟩ := State.panel_sduTo (k := 0x32) h hconfigured rfl rfl
        (State.takeRinseStart_begins (hrinse.trans hnone))
      exact ⟨u, congrArg Host.Outcome.next hpanel, hu, hsignals _ (.inr (.inl (List.mem_singleton.mpr rfl))), hanswer⟩
  case abortRefused =>
    intro hstate
    exact congrArg Host.Outcome.next (State.panel_answers (k := 0x33) (payload := []) h rfl (by decide) rfl
      (.inl hconfigured) (State.takeDescaleAbort_refused hstate))
  case abortFirst =>
    rintro ⟨hstate, hresume⟩
    have hactive : s.sdu.active ≠ false := by simp [Sdu.active, hstate]
    obtain ⟨u, hpanel, hu, hanswer, hsignals⟩ := State.panel_sduTo (k := 0x33) h hconfigured rfl rfl
      (State.takeDescaleAbort_first hstate hresume)
    exact ⟨u, congrArg Host.Outcome.next hpanel, hu,
      hsignals _ (.inl (Sdu.descale_mem_reports (new := s.sdu.ended) hactive rfl).1),
      hsignals _ (.inr (.inl (List.mem_singleton.mpr rfl))), hanswer⟩
  case abortDrains =>
    rintro ⟨hidle, hdrain, hfirst⟩
    obtain ⟨u, hpanel, hu, hanswer, hsignals⟩ := State.panel_sduTo (k := 0x33) h hconfigured rfl rfl
      (State.takeDescaleAbort_drains hidle hdrain hfirst)
    exact ⟨u, congrArg Host.Outcome.next hpanel, hu,
      fun hrequest => hsignals _ (.inr (.inr (Sdu.program_mem_requestSignals hrequest))), hanswer⟩

end Sys2Proof.Machine
end

section
/-! The start-up scan of the nonvolatile memory (R104, R145, R146, R153): the slot table, the keep write position and
the keep record found, and the words of a keep record read back. -/

namespace Sys2Proof.Machine

/-! ### The last of a range -/

/-- The last index at which a function has a value gives the last of its values over a range. -/
theorem getLast?_filterMap_range {α : Type} {f : Nat → Option α} {n p : Nat} {v : α} (hp : p < n) (hv : f p = some v)
    (hlast : ∀ q, p < q → q < n → f q = none) : ((List.range n).filterMap f).getLast? = some v := by
  induction n with
  | zero => exact absurd hp (Nat.not_lt_zero p)
  | succ n ih =>
    rw [List.range_succ, List.filterMap_append]
    obtain hlt | rfl := Nat.lt_succ_iff_lt_or_eq.mp hp
    · have hn : [n].filterMap f = [] := by simp [hlast n hlt (Nat.lt_succ_self n)]
      rw [hn, List.append_nil]
      exact ih hlt fun q hpq hq => hlast q hpq (Nat.lt_succ_of_lt hq)
    · have hn : [p].filterMap f = [v] := by simp [hv]
      rw [hn, List.getLast?_concat]

theorem filterMap_range_eq_nil {α : Type} {f : Nat → Option α} {n : Nat} (h : ∀ p, p < n → f p = none) :
    (List.range n).filterMap f = [] :=
  List.filterMap_eq_nil_iff.mpr fun p hp => h p (List.mem_range.mp hp)

/-! ### The slot table, R145 -/

/-- The words of a sector: its status, its recipe number and the record from its count word on (Table 10-10). -/
theorem Mem.sector_eq_cons (m : List MemCell) (n : Nat) : Mem.sector m n 128 =
    Mem.read m (memAddr n 0) :: Mem.read m (memAddr n 1) :: sectorWords m n 2 126 := by
  rw [Mem.sector, show 128 = 2 + 126 from rfl, List.range_add, List.map_append, List.map_map]
  rfl

theorem Mem.sector_erased_iff (m : List MemCell) (n : Nat) :
    (Mem.sector m n 128).all (· == erasedWord) = true ↔ ∀ i, i < 128 → Mem.read m (128 * n + i) = 0xFFFF#16 := by
  simp [Mem.sector, memAddr, erasedWord]

/-- R145: a slot whose sector holds a sound record. -/
def Mem.slotSound (m : List MemCell) (n : Nat) : Prop :=
  Mem.read m (128 * n + 0) = 0xA55A#16 ∧ 1 ≤ (Mem.read m (128 * n + 1)).toNat ∧
    (Mem.read m (128 * n + 1)).toNat ≤ 999 ∧ (parseRecord (sectorWords m n 2 126)).isSome = true

/-- R145: the state of a slot by its status word, its recipe number and its record. -/
theorem classifySlot_cons (status recipe : Word) (rest : List Word) : classifySlot (status :: recipe :: rest) =
    if (status :: recipe :: rest).all (· == erasedWord) then .empty
    else if status = validStatus && 1 ≤ recipe.toNat && recipe.toNat ≤ 999 && (parseRecord rest).isSome then .valid
    else .incomplete := rfl

theorem classifySlot_of_erased {m : List MemCell} {n : Nat} (h : ∀ i, i < 128 → Mem.read m (128 * n + i) = 0xFFFF#16) :
    classifySlot (Mem.sector m n 128) = .empty :=
  if_pos ((Mem.sector_erased_iff m n).mpr h)

theorem classifySlot_of_started {m : List MemCell} {n : Nat}
    (h : ∃ i, i < 128 ∧ Mem.read m (128 * n + i) ≠ 0xFFFF#16) :
    (Mem.slotSound m n → classifySlot (Mem.sector m n 128) = .valid) ∧
      (¬ Mem.slotSound m n → classifySlot (Mem.sector m n 128) = .incomplete) := by
  have hused : ¬ (Mem.sector m n 128).all (· == erasedWord) = true := by
    rw [Mem.sector_erased_iff]
    push Not
    exact h
  have hsound : Mem.slotSound m n ↔ (decide (Mem.read m (memAddr n 0) = validStatus) &&
      decide (1 ≤ (Mem.read m (memAddr n 1)).toNat) && decide ((Mem.read m (memAddr n 1)).toNat ≤ 999) &&
      (parseRecord (sectorWords m n 2 126)).isSome) = true := by
    simp only [Bool.and_eq_true, decide_eq_true_eq, and_assoc]
    exact Iff.rfl
  rw [Mem.sector_eq_cons] at hused ⊢
  rw [hsound, classifySlot_cons, if_neg hused]
  exact ⟨fun h => if_pos h, fun h => if_neg h⟩

/-- R145: a sound record's status word is not erased. -/
theorem Mem.started_of_slotSound {m : List MemCell} {n : Nat} (h : Mem.slotSound m n) :
    ∃ i, i < 128 ∧ Mem.read m (128 * n + i) ≠ 0xFFFF#16 := by
  obtain ⟨hstatus, -⟩ := h
  refine ⟨0, by decide, ?_⟩
  rw [hstatus]
  decide

/-! ### The keep area, R146 -/

/-- R146: the keep write position follows the highest used position. -/
theorem nextKeepPos_of_last {m : List MemCell} {p : Nat} (hp : p < 25)
    (hused : (keepWords m p).any (· != erasedWord) = true)
    (hlast : ∀ q, p < q → q < 25 → (keepWords m q).any (· != erasedWord) = false) : nextKeepPos m = 5 * p + 5 := by
  have hfound : (usedPositions m).getLast? = some p := by
    rw [usedPositions, ← List.filterMap_eq_filter]
    exact getLast?_filterMap_range hp (by simp [Option.guard, hused]) fun q hpq hq => by
      simp [Option.guard, hlast q hpq hq]
  rw [nextKeepPos, hfound]
  rfl

theorem nextKeepPos_of_unused {m : List MemCell}
    (h : ∀ p, p < 25 → (keepWords m p).any (· != erasedWord) = false) : nextKeepPos m = 0 := by
  have hnone : usedPositions m = [] :=
    List.filter_eq_nil_iff.mpr fun p hp => by simp [h p (List.mem_range.mp hp)]
  rw [nextKeepPos, hnone]
  rfl

/-- R146: the last valid keep record in address order. -/
theorem lastKeep_of_last {m : List MemCell} {p : Nat} {v : KeepValues} (hp : p < 25)
    (hv : keepOfWords (keepWords m p) = some v)
    (hlast : ∀ q, p < q → q < 25 → keepOfWords (keepWords m q) = none) : lastKeep m = some v :=
  getLast?_filterMap_range hp hv hlast

theorem lastKeep_of_none {m : List MemCell} (h : ∀ p, p < 25 → keepOfWords (keepWords m p) = none) :
    lastKeep m = none :=
  congrArg List.getLast? (filterMap_range_eq_nil h)

/-! ### Keep records, R153 -/

theorem field_word {n : Nat} (h : n < 65536) (lo len : Nat) : field (word n) lo len = n / 2 ^ lo % 2 ^ len := by
  rw [field, word, BitVec.extractLsb'_toNat, BitVec.toNat_ofNat, Nat.mod_eq_of_lt h, Nat.shiftRight_eq_div_pow]

/-- Table 7-7: the last word of a keep record makes the sum of its words FFFFh. -/
theorem keep_checksum (a b c d : Word) : a + b + c + d + (0xFFFF#16 - (a + b + c + d)) = 0xFFFF#16 := by
  rw [add_sub_cancel]

/-- R153: the values of a keep record are read back from its words. -/
theorem keepOfWords_words {v : KeepValues} (hscale : v.scale ≤ 65535) (hlo : 1 ≤ v.hardness) (hhi : v.hardness ≤ 7)
    (hcount : v.count ≤ 65535) : keepOfWords v.words = some v := by
  obtain ⟨scale, hardness, rinse, count⟩ := v
  dsimp only at hscale hlo hhi hcount
  have hw : hardness + (if rinse then 256 else 0) < 65536 := by split <;> omega
  have hclass : field (word (hardness + if rinse then 256 else 0)) 0 8 = hardness := by
    rw [field_word hw]
    split <;> omega
  have hzero : field (word (hardness + if rinse then 256 else 0)) 9 7 = 0 := by
    rw [field_word hw]
    split <;> omega
  have hrinse : (word (hardness + if rinse then 256 else 0)).getLsbD 8 = rinse := by
    rw [word, BitVec.getLsbD_ofNat, Nat.testBit_eq_decide_div_mod_eq]
    cases rinse <;> simp <;> omega
  have hnumber {n : Nat} (hn : n ≤ 65535) : (word n).toNat = n := by
    rw [word, BitVec.toNat_ofNat]
    omega
  unfold keepOfWords KeepValues.words
  simp only [hclass, hzero, hrinse, keep_checksum, hnumber hscale, hnumber hcount]
  simp [hlo, hhi]

/-! ### The scan, R146 -/

/-- R145, R146: the store after the scan. -/
def Stc.scan (t : Stc) : Stc :=
  { t with
    scanned := true, wakeTimer := none, keepPos := nextKeepPos t.mem
    table := (List.range 24).map fun i => classifySlot (Mem.sector t.mem (i + 1) 128) }

theorem Stc.scan_slotState (t : Stc) {n : Nat} (hlo : 1 ≤ n) (hhi : n ≤ 24) :
    t.scan.slotState n = classifySlot (Mem.sector t.mem n 128) := by
  have hindex : n - 1 < 24 := by omega
  have hsector : n - 1 + 1 = n := by omega
  simp [Stc.slotState, Stc.scan, List.getD, hindex, hsector]

theorem State.stcScan_eq {s : State} (hscanned : s.stc.scanned = false) (hwake : s.stc.wakeTimer.isSome = true) :
    s.stcScan = match lastKeep s.stc.mem with
      | some v => (s.setStc s.stc.scan).emit [.sduScan v .keep]
      | none => ((s.setStc s.stc.scan).post .keepLost 0 (word (usedPositions s.stc.mem).length)).emit
          [.sduScan fallbackValues .fallback] :=
  if_neg (by simp [hscanned, Option.isSome_iff_ne_none.mp hwake])

/-- R104: a keep record found gives its values to the SDU. -/
theorem State.stcScan_of_keep {s : State} (hbus : s.bus = []) (hscanned : s.stc.scanned = false)
    (hwake : s.stc.wakeTimer.isSome = true) {v : KeepValues} (hv : lastKeep s.stc.mem = some v) :
    s.stcScan = { s with stc := s.stc.scan, bus := [.sduScan v .keep] } := by
  rw [State.stcScan_eq hscanned hwake, hv]
  exact State.emit_of_bus (by exact hbus) _

/-- R146: with no keep record valid the SDU takes the fallback values, and KEEP_LOST counts the used positions. -/
theorem State.stcScan_of_lost {s : State} (hbus : s.bus = []) (hscanned : s.stc.scanned = false)
    (hwake : s.stc.wakeTimer.isSome = true) (hnone : lastKeep s.stc.mem = none) : s.stcScan = { s with
      stc := s.stc.scan
      evq := s.evq.append .keepLost 0 (word (usedPositions s.stc.mem).length)
      bus := [.sduScan fallbackValues .fallback] } := by
  rw [State.stcScan_eq hscanned hwake, hnone]
  exact State.emit_of_bus (by exact hbus) _

/-- The scan changes the store, posts an event at most, and delivers. -/
theorem State.stcScan_frame {s : State} (hscanned : s.stc.scanned = false) (hwake : s.stc.wakeTimer.isSome = true) :
    s.stcScan = { s with stc := s.stc.scan, evq := s.stcScan.evq, bus := s.stcScan.bus } := by
  rw [State.stcScan_eq hscanned hwake]
  cases lastKeep s.stc.mem <;> rfl

/-- Settles O45: the table slot by slot, and the keep area by its last used position and its last valid record. -/
theorem scanBuildsStore : Obligations.ScanBuildsStore := by
  refine ⟨fun s hquiet hscanned hwake => ?_, fun s v source => rfl,
    fun v hscale hlo hhi hcount => keepOfWords_words hscale hlo hhi hcount⟩
  intro m used
  have hbus := (State.quiet_iff.mp hquiet).1
  have hframe := State.stcScan_frame hscanned hwake
  have hstc : s.stcScan.stc = s.stc.scan := congrArg State.stc hframe
  refine ⟨s.stcScan, congrArg Host.Outcome.next (State.event_of_quiet hquiet _), ?_⟩
  rw [hstc]
  refine ⟨hframe, rfl, by simp [Stc.scan], fun n hlo hhi => ?slots, fun p hp hused hlast => ?used, fun hnone => ?unused,
    fun p v hp hv hlast => ?keep, fun hnone => ?lost⟩
  case slots =>
    rw [s.stc.scan_slotState hlo hhi]
    exact ⟨classifySlot_of_erased, fun h => (classifySlot_of_started (Mem.started_of_slotSound h)).1 h,
      fun h => (classifySlot_of_started h).2⟩
  case used => exact nextKeepPos_of_last hp hused hlast
  case unused => exact nextKeepPos_of_unused hnone
  case keep =>
    rw [State.stcScan_of_keep hbus hscanned hwake (lastKeep_of_last hp hv hlast)]
    exact ⟨rfl, rfl⟩
  case lost =>
    rw [State.stcScan_of_lost hbus hscanned hwake (lastKeep_of_none hnone)]
    exact ⟨rfl, rfl⟩

end Sys2Proof.Machine
end

section
/-! CONFIRM, as the CMH routes it (R187): to the SDU at a prompt of its own (R107), to the SGC in WAIT_TANK (R82), and
else to the RSQ (R128, R130, R139). -/

namespace Sys2Proof.Machine

/-! ### The three ways, R187 -/

theorem Sdu.atPrompt_iff {d : Sdu} : d.atPrompt = true ↔ d.pstate = .promptSolution ∨ d.pstate = .promptWater := by
  simp [Sdu.atPrompt]

section routed

variable {s : State}

theorem State.takeConfirm_of_own_prompt (hprompt : s.sdu.pstate = .promptSolution ∨ s.sdu.pstate = .promptWater)
    (hresume : s.sdu.resume = none) : s.takeConfirm = s.sduConfirm := by
  rw [State.takeConfirm, if_pos (Sdu.atPrompt_iff.mpr hprompt), hresume]
  rfl

theorem State.takeConfirm_of_waitTank (hroute :
    ((s.sdu.pstate = .promptSolution ∨ s.sdu.pstate = .promptWater) ∧ s.sdu.resume ≠ none) ∨
      (s.sdu.pstate ≠ .promptSolution ∧ s.sdu.pstate ≠ .promptWater ∧ s.sgc.source ≠ .none))
    (hwait : s.sgc.state = .waitTank) : s.takeConfirm = s.sgcConfirm := by
  unfold State.takeConfirm
  obtain ⟨hprompt, hresume⟩ | ⟨hsolution, hwater, hsource⟩ := hroute
  · rw [if_pos (Sdu.atPrompt_iff.mpr hprompt), if_pos (Option.isSome_iff_ne_none.mpr hresume)]
  · rw [if_neg (Sdu.atPrompt_iff.not.mpr (not_or.mpr ⟨hsolution, hwater⟩))]
    exact if_pos (by simp [hwait, hsource])

theorem State.takeConfirm_of_run (hsolution : s.sdu.pstate ≠ .promptSolution) (hwater : s.sdu.pstate ≠ .promptWater)
    (hwait : s.sgc.state ≠ .waitTank ∨ s.sgc.source = .none) : s.takeConfirm = s.rsqConfirm := by
  rw [State.takeConfirm, if_neg (Sdu.atPrompt_iff.not.mpr (not_or.mpr ⟨hsolution, hwater⟩))]
  refine if_neg ?_
  obtain hwait | hsource := hwait
  · simp [hwait]
  · simp [hsource]

/-! ### At the SDU, R107, R108 and R111 -/

theorem State.sduConfirm_of_no_tank (h : s.sdu.tank = false) : s.sduConfirm = s.refuse .wrongState := by
  rw [State.sduConfirm, h]
  rfl

theorem State.sduConfirm_of_solution (hstate : s.sdu.pstate = .promptSolution) (htank : s.sdu.tank = true) :
    s.sduConfirm = (s.sduTo { s.sdu.enterDraw with rinse := true }
      [Sdu.keepSignal { s.sdu.enterDraw with rinse := true }]).answer .ok [] := by
  rw [State.sduConfirm, htank]
  exact if_pos hstate

theorem State.sduConfirm_of_water (hstate : s.sdu.pstate = .promptWater) (htank : s.sdu.tank = true) :
    s.sduConfirm = (s.sduTo { s.sdu.enterRinseFill with rinseCounter := 1 } []).answer .ok [] := by
  have hsolution : s.sdu.pstate ≠ .promptSolution := by
    rw [hstate]
    decide
  rw [State.sduConfirm, htank]
  exact (if_neg hsolution).trans (if_pos hstate)

/-! ### At the SGC, R82 -/

/-- R82: where a generator that waits for its tank goes on. -/
theorem Sgc.resume_state (g : Sgc) :
    g.resume.state = .filling ∨ g.resume.state = .refilling ∨ g.resume.state = .empty := by
  unfold Sgc.resume
  split
  · exact .inr (.inl rfl)
  · exact .inl rfl
  · split
    · exact .inl rfl
    · exact .inr (.inr rfl)
  · exact .inr (.inr rfl)

theorem State.sgcTo_answer_eq (s : State) (g : Sgc) (r : Result) (data : List Byte) : (s.sgcTo g).answer r data =
    { s with sgc := ((s.sgcTo g).answer r data).sgc, bus := ((s.sgcTo g).answer r data).bus } := rfl

theorem State.sgcConfirm_of_tank (hwait : s.sgc.state = .waitTank) (htank : s.sgc.tank = true) :
    s.sgcConfirm = (s.sgcTo s.sgc.resume).answer .ok [] :=
  if_pos (by simp [hwait, htank])

theorem State.sgcConfirm_of_no_tank (htank : s.sgc.tank = false) : s.sgcConfirm = s.refuse .wrongState :=
  if_neg (by simp [htank])

/-! ### At the RSQ, R128, R130 and R139 -/

theorem RunState.live_iff {r : RunState} : r.live = true ↔ r = .running ∨ r = .paused := by
  simp [RunState.live]

theorem State.rsqConfirm_of_active {l : LiveStep} (hrun : s.rsq.run = .running ∨ s.rsq.run = .paused)
    (hphase : s.rsq.phase = .active) (hlive : s.rsq.live = some l) (hend : l.endKind = .confirm) :
    s.rsqConfirm = s.rsqStepEnd.answer .ok [] := by
  rw [State.rsqConfirm, if_neg (by simp [hphase]), hlive]
  exact if_pos (by simp [RunState.live_iff.mpr hrun, hphase, hend])

theorem State.rsqConfirm_of_no_run (h : s.rsq.run = .idle ∨ s.rsq.run = .finishing) :
    s.rsqConfirm = s.refuse .wrongState := by
  have hrun : s.rsq.run.live = false := by obtain h | h := h <;> rw [h] <;> rfl
  rw [State.rsqConfirm, hrun, if_neg (by simp)]
  cases s.rsq.live with
  | none => rfl
  | some l => exact if_neg (by simp)

/-- R129: no core reading ends a step of another end kind. -/
theorem Rsq.coreReached_of_no_core {r : Rsq}
    (h : ∀ l, r.live = some l → l.endKind ≠ .core ∧ l.endKind ≠ .timeOrCore) : r.coreReached = false := by
  unfold Rsq.coreReached
  split
  · next l _ hlive _ =>
    obtain ⟨hcore, htimeOrCore⟩ := h l hlive
    have hkind : l.endKind.isCore = false := by
      unfold EndKind.isCore
      split
      · next hk => exact absurd hk hcore
      · next hk => exact absurd hk htimeOrCore
      · rfl
    rw [hkind]
    rfl
  · rfl

/-- R133: a phase of its own does not enter the cooking request, so that entry to ACTIVE delivers nothing. -/
theorem State.rsqTo_active (hbus : s.bus = []) (hfresh : s.rsq.Fresh) :
    s.rsqTo { s.rsq with phase := .active } [] [] [] = s.setRsq { s.rsq with phase := .active } := by
  have hcooking : Rsq.cookingNow { s.rsq with phase := .active } = s.rsq.cooking := Eq.symm hfresh
  rw [State.rsqTo, hcooking]
  dsimp only
  have hsignals : Rsq.cookingSignals s.rsq { s.rsq with phase := .active } = [] := by
    simp [Rsq.cookingSignals, sigIf]
  have hrun : Rsq.runSignals s.rsq { s.rsq with phase := .active } = [] := if_pos rfl
  rw [hsignals, hrun]
  exact State.emit_nil hbus

theorem State.rsqActive_of_no_core (hbus : s.bus = []) (hfresh : s.rsq.Fresh)
    (hcore : ∀ l, s.rsq.live = some l → l.endKind ≠ .core ∧ l.endKind ≠ .timeOrCore) :
    s.rsqActive = s.setRsq { s.rsq with phase := .active } := by
  have hreached : Rsq.coreReached { s.rsq with phase := .active } = false := Rsq.coreReached_of_no_core hcore
  rw [State.rsqActive, State.rsqTo_active hbus hfresh]
  exact if_neg (by simp [hreached])

/-- R128: a confirmed step becomes ACTIVE. -/
theorem State.rsqConfirm_of_waitConfirm (hbus : s.bus = []) (hfresh : s.rsq.Fresh)
    (hrun : s.rsq.run = .running ∨ s.rsq.run = .paused) (hphase : s.rsq.phase = .waitConfirm)
    (hcore : ∀ l, s.rsq.live = some l → l.endKind ≠ .core ∧ l.endKind ≠ .timeOrCore) :
    s.rsqConfirm = (s.setRsq { s.rsq with phase := .active }).answer .ok [] := by
  rw [← State.rsqActive_of_no_core hbus hfresh hcore]
  exact if_pos (by simp [RunState.live_iff.mpr hrun, hphase])

/-- R130: a step end before the last step leads to the next one's entry, whose read is pending. -/
theorem State.rsqStepEnd_rsq (h : s.rsq.index + 1 < s.rsq.stepCount) : s.rsqStepEnd.rsq =
    { s.rsq with index := s.rsq.index + 1, readPending := true, phase := .entry, cooking := none } := by
  have hcooking :
      Rsq.cookingNow { s.rsq with index := s.rsq.index + 1, readPending := true, phase := .entry } = none := by
    unfold Rsq.cookingNow
    cases s.rsq.live <;> simp
  rw [State.rsqStepEnd, if_pos h]
  dsimp only
  rw [State.rsqTo, hcooking]
  rfl

/-- A step end before the last step changes the RSQ alone. -/
theorem State.rsqStepEnd_answer_eq (h : s.rsq.index + 1 < s.rsq.stepCount) (r : Result) (data : List Byte) :
    s.rsqStepEnd.answer r data =
      { s with rsq := (s.rsqStepEnd.answer r data).rsq, bus := (s.rsqStepEnd.answer r data).bus } := by
  rw [State.rsqStepEnd, if_pos h]
  rfl

end routed

/-! ### CONFIRM on the panel -/

section panel

variable {s : State} {source : Fin 7}

/-- R107: a CONFIRM that the SDU takes. -/
theorem State.exec_confirm_sdu (h : s.listens source = true) (hconfigured : s.cmh.configured = true) {d : Sdu}
    {before : List Signal} (htake : (s.taken source (some 0x15) []).takeConfirm =
      ((s.taken source (some 0x15) []).sduTo d before).answer .ok []) :
    ∃ u : State, exec (.confirm source []) s = .next (u.settle (settleFuel - 1)) ∧
      u = { s.taken source (some 0x15) [] with sdu := u.sdu, bus := u.bus } ∧ u.sdu = d ∧
      Signal.cmhAnswer .ok [] ∈ u.bus ∧
      ∀ sig, sig ∈ before ∨ sig ∈ Sdu.requestSignals s.sdu d → sig ∈ u.bus := by
  obtain ⟨u, hpanel, hu, hanswer, hsignals⟩ :=
    State.panel_sduTo (k := 0x15) (q := s.evq) h hconfigured rfl rfl htake
  have hsdu : u.sdu = d := congrArg State.sdu hu
  refine ⟨u, congrArg Host.Outcome.next hpanel, ?_, hsdu, hanswer, fun sig hsig => hsignals sig (.inr hsig)⟩
  rw [hsdu]
  exact hu

/-- A CONFIRM refused by the block it is routed to. -/
theorem State.exec_confirm_refused (h : s.listens source = true) (hconfigured : s.cmh.configured = true)
    (htake : (s.taken source (some 0x15) []).takeConfirm = (s.taken source (some 0x15) []).refuse .wrongState) :
    exec (.confirm source []) s =
      .next ((s.taken source (some 0x15) []).answered ⟨source, 0x15, .wrongState, []⟩) :=
  congrArg Host.Outcome.next
    (State.panel_answers (k := 0x15) (payload := []) h rfl (by decide) rfl (.inl hconfigured) htake)

/-- R82: a CONFIRM that the SGC takes. -/
theorem State.exec_confirm_sgc (h : s.listens source = true) (hconfigured : s.cmh.configured = true)
    (htake : (s.taken source (some 0x15) []).takeConfirm =
      ((s.taken source (some 0x15) []).sgcTo s.sgc.resume).answer .ok []) :
    ∃ u : State, exec (.confirm source []) s = .next (u.settle (settleFuel - 1)) ∧
      u = { s.taken source (some 0x15) [] with sgc := u.sgc, bus := u.bus } ∧
      (u.sgc.state = .filling ∨ u.sgc.state = .refilling ∨ u.sgc.state = .empty) ∧
      Signal.cmhAnswer .ok [] ∈ u.bus := by
  refine ⟨_, congrArg Host.Outcome.next
    (State.panel_takes (k := 0x15) (payload := []) h rfl (by decide) rfl (.inl hconfigured) htake),
    State.sgcTo_answer_eq _ _ _ _, ?_, ?_⟩
  · exact s.sgc.resume_state
  · exact State.mem_answer_bus.mpr (.inr rfl)

/-- R128: a CONFIRM that changes the run alone, with no delivery but its answer. -/
theorem State.exec_confirm_setRsq (h : s.listens source = true) (hconfigured : s.cmh.configured = true) {r : Rsq}
    (htake : (s.taken source (some 0x15) []).takeConfirm =
      ((s.taken source (some 0x15) []).setRsq r).answer .ok []) :
    exec (.confirm source []) s = .next
      (({ s with rsq := r }.taken source (some 0x15) []).answered ⟨source, 0x15, .ok, []⟩) := by
  obtain ⟨hline, hslot, hbuffer, hwaiting, houtstanding, hmore⟩ := State.answering_taken h (some 0x15) []
  have hsettle := State.settle_answered (s := (s.taken source (some 0x15) []).setRsq r)
    ⟨hline, hslot, hbuffer, hwaiting, houtstanding, hmore⟩ (State.bus_taken h (some 0x15) []) .ok []
  exact congrArg Host.Outcome.next ((State.panel_takes (k := 0x15) (payload := []) h rfl (by decide) rfl
    (.inl hconfigured) htake).trans hsettle)

/-- R130: a CONFIRM that ends a step before the last one. -/
theorem State.exec_confirm_stepEnd (h : s.listens source = true) (hconfigured : s.cmh.configured = true)
    (hindex : s.rsq.index + 1 < s.rsq.stepCount) (htake : (s.taken source (some 0x15) []).takeConfirm =
      (s.taken source (some 0x15) []).rsqStepEnd.answer .ok []) :
    ∃ u : State, exec (.confirm source []) s = .next (u.settle (settleFuel - 1)) ∧
      u = { s.taken source (some 0x15) [] with rsq := u.rsq, bus := u.bus } ∧
      u.rsq = { s.rsq with index := s.rsq.index + 1, readPending := true, phase := .entry, cooking := none } ∧
      Signal.cmhAnswer .ok [] ∈ u.bus := by
  refine ⟨_, congrArg Host.Outcome.next
    (State.panel_takes (k := 0x15) (payload := []) h rfl (by decide) rfl (.inl hconfigured) htake),
    State.rsqStepEnd_answer_eq (s := s.taken source (some 0x15) []) hindex _ _, ?_, ?_⟩
  · exact State.rsqStepEnd_rsq (s := s.taken source (some 0x15) []) hindex
  · exact State.mem_answer_bus.mpr (.inr rfl)

end panel

/-- Settles O39: the route of CONFIRM decided first, then the block's answer. -/
theorem confirmIsRouted : Obligations.ConfirmIsRouted := by
  intro source s h hconfigured
  have hown := State.takeConfirm_of_own_prompt (s := s.taken source (some 0x15) [])
  have hgenerator := State.takeConfirm_of_waitTank (s := s.taken source (some 0x15) [])
  have hrsq := State.takeConfirm_of_run (s := s.taken source (some 0x15) [])
  refine ⟨fun hstate hresume htank => ?solution, fun hstate hresume htank => ?water,
    fun hprompt hresume htank => ?noTank, fun hroute hwait => ⟨fun htank => ?sgc, fun htank => ?sgcNoTank⟩,
    fun hsolution hwater hwait => ⟨fun hrun hphase hfresh hcore => ?waitConfirm,
      fun l hrun hphase hlive hend hindex => ?active, fun hrun => ?noRun⟩⟩
  case solution =>
    obtain ⟨u, hexec, hu, hsdu, hanswer, hsignals⟩ := State.exec_confirm_sdu h hconfigured
      ((hown (.inl hstate) hresume).trans (State.sduConfirm_of_solution hstate htank))
    exact ⟨u, hexec, hu, hsdu, hsignals _ (.inl (List.mem_singleton.mpr rfl)),
      fun hrequest => hsignals _ (.inr (Sdu.program_mem_requestSignals hrequest)), hanswer⟩
  case water =>
    obtain ⟨u, hexec, hu, hsdu, hanswer, -⟩ := State.exec_confirm_sdu h hconfigured
      ((hown (.inr hstate) hresume).trans (State.sduConfirm_of_water hstate htank))
    exact ⟨u, hexec, hu, hsdu, hanswer⟩
  case noTank =>
    exact State.exec_confirm_refused h hconfigured
      ((hown hprompt hresume).trans (State.sduConfirm_of_no_tank htank))
  case sgc =>
    exact State.exec_confirm_sgc h hconfigured
      ((hgenerator hroute hwait).trans (State.sgcConfirm_of_tank hwait htank))
  case sgcNoTank =>
    exact State.exec_confirm_refused h hconfigured
      ((hgenerator hroute hwait).trans (State.sgcConfirm_of_no_tank htank))
  case waitConfirm =>
    exact State.exec_confirm_setRsq h hconfigured ((hrsq hsolution hwater hwait).trans
      (State.rsqConfirm_of_waitConfirm (State.bus_taken h _ _) (State.fresh_iff.mp hfresh .rsq) hrun hphase hcore))
  case active =>
    exact State.exec_confirm_stepEnd h hconfigured hindex
      ((hrsq hsolution hwater hwait).trans (State.rsqConfirm_of_active hrun hphase hlive hend))
  case noRun =>
    exact State.exec_confirm_refused h hconfigured
      ((hrsq hsolution hwater hwait).trans (State.rsqConfirm_of_no_run hrun))

end Sys2Proof.Machine
end

section
/-! SUPPORT. The place of a run in its recipe: what the RSQ's operations do to the running step index and the step count,
and the invariant of R123. -/

namespace Sys2Proof.Machine

/-! ### The running step index and the step count -/

/-- From one state of the RSQ to another: both numbers are kept, or the index stands below the count. -/
def Rsq.Places (old new : Rsq) : Prop :=
  (new.index = old.index ∧ new.stepCount = old.stepCount) ∨ new.index < new.stepCount

theorem Rsq.Places.same {old new : Rsq} (hindex : new.index = old.index) (hcount : new.stepCount = old.stepCount) :
    old.Places new := .inl ⟨hindex, hcount⟩

theorem Rsq.Places.trans {old mid new : Rsq} (h : old.Places mid) (h' : mid.Places new) : old.Places new := by
  obtain ⟨hindex', hcount'⟩ | hbelow' := h'
  · obtain ⟨hindex, hcount⟩ | hbelow := h
    · exact .inl ⟨hindex'.trans hindex, hcount'.trans hcount⟩
    · exact .inr (hindex' ▸ hcount' ▸ hbelow)
  · exact .inr hbelow'

/-- R123: what places a run within its recipe keeps the index below the count. -/
theorem Rsq.Places.indexed {old new : Rsq} (h : old.Places new) (hold : old.indexed = true) : new.indexed = true := by
  simp only [Rsq.indexed, decide_eq_true_eq] at hold ⊢
  obtain ⟨hindex, hcount⟩ | hbelow := h
  · rwa [hindex, hcount]
  · exact hbelow

/-- The doings of another block leave the run where it is. -/
theorem BlockStep.places {k : Block} {s t : State} (h : BlockStep k s t) (hk : k ≠ .rsq) : s.rsq.Places t.rsq := by
  rw [h.rsq hk]
  exact .same rfl rfl

section operations

variable (s : State)

theorem State.rsqFinish_places (r : EndReason) : s.rsq.Places (s.rsqFinish r).rsq := .same rfl rfl

/-- R137: in IDLE the index is 0 and the count 1. -/
theorem State.rsqRunOnEnd_places : s.rsq.Places s.rsqRunOnEnd.rsq := by
  unfold State.rsqRunOnEnd; split
  · exact .inr Nat.one_pos
  · exact .same rfl rfl

/-- R130: a step end goes on to the next step only where there is one. -/
theorem State.rsqStepEnd_places : s.rsq.Places s.rsqStepEnd.rsq := by
  unfold State.rsqStepEnd; split
  · next hnext => exact .inr hnext
  · exact s.rsqFinish_places _

theorem State.rsqActive_places : s.rsq.Places s.rsqActive.rsq := by
  unfold State.rsqActive; dsimp only; split
  · exact .trans (.same rfl rfl) (State.rsqStepEnd_places _)
  · exact .same rfl rfl

theorem State.rsqPromptOrActive_places (l : LiveStep) : s.rsq.Places (s.rsqPromptOrActive l).rsq := by
  unfold State.rsqPromptOrActive; split
  · exact s.rsqActive_places
  · exact .same rfl rfl

theorem State.rsqPreheatTest_places : s.rsq.Places s.rsqPreheatTest.rsq := by
  unfold State.rsqPreheatTest; split
  · split
    · exact State.rsqPromptOrActive_places (s.post _ _ _) _
    · exact .same rfl rfl
  · exact .same rfl rfl

theorem State.rsqDecide_places (l : LiveStep) : s.rsq.Places (s.rsqDecide l).rsq := by
  unfold State.rsqDecide; split
  · exact .trans (.same rfl rfl) (State.rsqPreheatTest_places _)
  · exact s.rsqPromptOrActive_places l

theorem State.rsqReasons_places (r : Reasons) : s.rsq.Places (s.rsqReasons r).rsq := by
  unfold State.rsqReasons; dsimp only; split
  · exact .same rfl rfl
  · split
    · exact .same rfl rfl
    · split <;> exact .same rfl rfl

theorem State.rsqResumed_places : s.rsq.Places s.rsqResumed.rsq := by
  unfold State.rsqResumed; split
  · split
    · split
      · exact s.rsqStepEnd_places
      · exact .same rfl rfl
    · exact s.rsqPreheatTest_places
  · exact .same rfl rfl

theorem State.rsqProbePrompt_places : s.rsq.Places s.rsqProbePrompt.rsq := State.rsqReasons_places (s.post _ _ _) _

theorem State.rsqProbe_places (present : Bool) : s.rsq.Places (s.rsqProbe present).rsq := by
  unfold State.rsqProbe; dsimp only; split
  · split
    · exact .trans (.same rfl rfl) (State.rsqReasons_places _ _)
    · exact .same rfl rfl
  · split
    · exact .trans (.same rfl rfl) (State.rsqProbePrompt_places _)
    · exact .same rfl rfl

theorem State.rsqEntry_places : s.rsq.Places s.rsqEntry.rsq := by
  unfold State.rsqEntry; split
  · split
    · exact s.rsqDecide_places _
    · exact .same rfl rfl
  · exact .same rfl rfl

theorem State.rsqEnter_places (l : LiveStep) : s.rsq.Places (s.rsqEnter l).rsq := by
  unfold State.rsqEnter; split
  · exact s.rsqProbePrompt_places
  · exact s.rsqDecide_places l

theorem State.rsqBegin_places (step : RawStep) : s.rsq.Places (s.rsqBegin step).rsq := by
  unfold State.rsqBegin; split
  · split <;> exact .same rfl rfl
  · exact .same rfl rfl

theorem State.rsqBegun_places : s.rsq.Places s.rsqBegun.rsq := by
  unfold State.rsqBegun; split
  · exact .same rfl rfl
  · next l _ =>
    split
    · exact .same rfl rfl
    · dsimp only
      by_cases hcore : l.endKind.isCore = true
      · rw [if_pos hcore]
        exact State.rsqEnter_places (s.post _ _ _) l
      · rw [if_neg hcore]
        exact (s.rsqReasons_places { s.rsq.reasons with probe := false }).trans
          (State.rsqEnter_places (State.post _ _ _ _) l)

/-- R123: a run of at least one step starts at its first. -/
theorem State.rsqStart_places {r : Rsq} (hfirst : r.index < r.stepCount) (after : List Signal) :
    s.rsq.Places (s.rsqStart r after).rsq := .inr hfirst

theorem State.takeStartManual_places (payload : List Byte) : s.rsq.Places (s.takeStartManual payload).rsq := by
  unfold State.takeStartManual; split
  · exact .same rfl rfl
  · split
    · exact .same rfl rfl
    · split
      · exact .same rfl rfl
      · exact .same rfl rfl
      · rw [State.answer_rsq]
        exact s.rsqStart_places (r := s.rsq.started .manual 0 1 []) Nat.one_pos _

theorem State.takeRunRecipe_places (payload : List Byte) : s.rsq.Places (s.takeRunRecipe payload).rsq := by
  unfold State.takeRunRecipe; dsimp only; split
  · exact .same rfl rfl
  · split <;> exact .same rfl rfl

/-- As many steps are read as the count word gives. -/
theorem parseSteps_length {n offset stop : Nat} {ws : List Word} {steps : List (StepEntry × RawStep)}
    (h : parseSteps n offset ws = some (stop, steps)) : steps.length = n := by
  induction n generalizing offset ws stop steps with
  | zero => cases h; rfl
  | succ n ih =>
    unfold parseSteps at h
    split at h
    · cases h
    · dsimp only at h
      split at h
      · split at h
        · cases h
        · next hrest => cases h; exact congrArg (· + 1) (ih hrest)
      · cases h

/-- R144: a sound record holds at least one step. -/
theorem parseRecord_steps {ws : List Word} {record : Record} (h : parseRecord ws = some record) :
    0 < record.steps.length := by
  unfold parseRecord at h
  split at h
  · cases h
  · dsimp only at h
    split at h
    · next hcounts =>
      simp only [Bool.and_eq_true, decide_eq_true_eq] at hcounts
      obtain ⟨⟨⟨⟨hsteps, -⟩, -⟩, -⟩, -⟩ := hcounts
      split at h
      · cases h
      · next hparse => cases h; exact (parseSteps_length hparse).symm ▸ hsteps
    · cases h

theorem State.rsqStartRead_places (ws : List Word) : s.rsq.Places (s.rsqStartRead ws).rsq := by
  unfold State.rsqStartRead; split
  · exact .same rfl rfl
  · dsimp only; split
    · exact .same rfl rfl
    · split
      · exact .same rfl rfl
      · next hrecord =>
        split
        · exact .same rfl rfl
        · exact .inr (parseRecord_steps hrecord)

theorem State.rsqStepRead_places (ws : List Word) : s.rsq.Places (s.rsqStepRead ws).rsq := by
  unfold State.rsqStepRead; split
  · split
    · exact s.rsqBegin_places _
    · exact .same rfl rfl
  · exact .same rfl rfl

theorem State.rsqPreheat_places (on : Bool) : s.rsq.Places (s.rsqPreheat on).rsq :=
  .trans (.same rfl rfl) (State.rsqPreheatTest_places _)

theorem State.rsqCore_places (c : Option Int) : s.rsq.Places (s.rsqCore c).rsq := by
  unfold State.rsqCore; dsimp only; split
  · exact .trans (.same rfl rfl) (State.rsqStepEnd_places _)
  · exact .same rfl rfl

theorem Rsq.takeTrip_places (r : Rsq) (p : Place) (a : Word) (on : Bool) : r.Places (r.takeTrip p a on) := by
  unfold Rsq.takeTrip; split <;> exact .same rfl rfl

theorem State.rsqTrip_places (p : Place) (a : Word) (on : Bool) : s.rsq.Places (s.rsqTrip p a on).rsq := by
  have htrip := s.rsq.takeTrip_places p a on
  unfold State.rsqTrip; dsimp only; split
  · split
    · exact htrip.trans (State.rsqFinish_places (s.setRsq _) _)
    · exact htrip.trans (State.rsqReasons_places (s.setRsq _) _)
  · exact htrip

theorem State.rsqTank_places (waiting : Bool) : s.rsq.Places (s.rsqTank waiting).rsq :=
  .trans (.same rfl rfl) (State.rsqReasons_places (s.setRsq { s.rsq with tankWait := waiting }) _)

theorem State.rsqStepTimeEnd_places : s.rsq.Places s.rsqStepTimeEnd.rsq := by
  unfold State.rsqStepTimeEnd; split
  · split
    · exact .trans (.same rfl rfl) (State.rsqStepEnd_places (s.setRsq _))
    · exact .same rfl rfl
  · exact .same rfl rfl

theorem State.rsqPauseExpiry_places : s.rsq.Places s.rsqPauseExpiry.rsq := by
  unfold State.rsqPauseExpiry; split <;> exact .same rfl rfl

theorem State.rsqRunCap_places : s.rsq.Places s.rsqRunCap.rsq := by
  unfold State.rsqRunCap; split <;> exact .same rfl rfl

theorem State.takeAdjust_places (payload : List Byte) : s.rsq.Places (s.takeAdjust payload).rsq := by
  unfold State.takeAdjust; split
  · exact .same rfl rfl
  · exact .same rfl rfl
  · exact .same rfl rfl
  · split
    · exact .same rfl rfl
    · split <;> exact .same rfl rfl

theorem State.takePause_places : s.rsq.Places s.takePause.rsq := by
  unfold State.takePause; split
  · exact s.rsqReasons_places _
  · exact .same rfl rfl

theorem State.takeResume_places : s.rsq.Places s.takeResume.rsq := by
  unfold State.takeResume; split
  · exact s.rsqReasons_places _
  · exact .same rfl rfl

theorem State.takeSkipStep_places : s.rsq.Places s.takeSkipStep.rsq := by
  unfold State.takeSkipStep; split
  · exact .same rfl rfl
  · split
    · exact .same rfl rfl
    · exact s.rsqStepEnd_places

theorem State.takeStop_places : s.rsq.Places s.takeStop.rsq := by
  unfold State.takeStop; split <;> exact .same rfl rfl

theorem State.rsqConfirm_places : s.rsq.Places s.rsqConfirm.rsq := by
  unfold State.rsqConfirm; split
  · exact s.rsqActive_places
  · split
    · split
      · exact s.rsqStepEnd_places
      · exact .same rfl rfl
    · exact .same rfl rfl

end operations

/-! ### Commands, deliveries and follow-up steps -/

theorem State.takeConfirm_places (s : State) : s.rsq.Places s.takeConfirm.rsq := by
  unfold State.takeConfirm; split
  · split
    · exact s.sgcConfirm_block.places (by decide)
    · exact s.sduConfirm_block.places (by decide)
  · split
    · exact s.sgcConfirm_block.places (by decide)
    · exact s.rsqConfirm_places

theorem State.takeFetchEvents_places (s : State) : s.rsq.Places s.takeFetchEvents.rsq := by
  obtain ⟨q, hblock⟩ := s.takeFetchEvents_block
  exact hblock.places (by decide)

theorem State.take_places (code : Byte) (payload : List Byte) (s : State) : s.rsq.Places (s.take code payload).rsq := by
  unfold State.take
  split
  · exact (State.takeConfigLoads_block payload s).places (by decide)
  · exact (State.takeConfigTerm_block payload s).places (by decide)
  · exact s.takeConfigDone_block.places (by decide)
  · exact s.takeStartManual_places payload
  · exact s.takeRunRecipe_places payload
  · exact s.takeAdjust_places payload
  · exact s.takePause_places
  · exact s.takeResume_places
  · exact s.takeConfirm_places
  · exact s.takeSkipStep_places
  · exact s.takeStop_places
  · exact (State.takeStoreOpen_block payload s).places (by decide)
  · exact (State.takeStoreWrite_block payload s).places (by decide)
  · exact (State.takeStoreClose_block payload s).places (by decide)
  · exact (State.takeStoreErase_block payload s).places (by decide)
  · exact (State.takeStoreRead_block payload s).places (by decide)
  · exact s.takeStoreList_block.places (by decide)
  · exact (State.takeSetHardness_block payload s).places (by decide)
  · exact s.takeDescaleStart_block.places (by decide)
  · exact s.takeRinseStart_block.places (by decide)
  · exact s.takeDescaleAbort_block.places (by decide)
  · exact s.takeReadScale_block.places (by decide)
  · exact s.takeFetchEvents_places
  · exact (State.takeClearTrip_block payload s).places (by decide)
  · exact (State.takeReadPeers_block payload s).places (by decide)
  · exact s.takeReadLineCounts_block.places (by decide)
  · exact s.takeRestart_block.places (by decide)
  · exact .same rfl rfl

theorem State.refuseDecoded_places (code : Option Byte) (r : Result) (s : State) :
    s.rsq.Places (s.refuseDecoded code r).rsq := by
  unfold State.refuseDecoded; split
  · exact (State.refuseStoreWrite_block r s).places (by decide)
  · exact .same rfl rfl

theorem State.cmhCommand_places (c : Command) (s : State) : s.rsq.Places (s.cmhCommand c).rsq := by
  unfold State.cmhCommand; dsimp only; split
  · exact State.refuseDecoded_places _ _ (s.setCmh _)
  · exact .same rfl rfl
  · split
    · exact .same rfl rfl
    · exact State.take_places _ _ (s.setCmh _)

theorem State.takeDeferred_places (s : State) : s.rsq.Places s.takeDeferred.rsq := by
  unfold State.takeDeferred; dsimp only; split
  · exact State.take_places _ _ (s.setCmh _)
  · exact .same rfl rfl

/-- Table 0-2: every delivery leaves the run where it is, but for those to the RSQ and the commands it takes. -/
theorem handle_places (sig : Signal) (s : State) : s.rsq.Places (handle sig s).rsq := by
  by_cases hrsq : sig.block = .rsq
  · cases sig with
    | rsqPreheat on => exact s.rsqPreheat_places on
    | rsqCore c => exact s.rsqCore_places c
    | rsqProbe present _ => exact s.rsqProbe_places present
    | rsqTrip p a on => exact s.rsqTrip_places p a on
    | rsqTank waiting => exact s.rsqTank_places waiting
    | rsqRunOnEnd => exact s.rsqRunOnEnd_places
    | rsqLocks | rsqDescale | rsqConfigured => exact .same rfl rfl
    | rsqResumed => exact s.rsqResumed_places
    | rsqBegin step => exact s.rsqBegin_places step
    | rsqBegun => exact s.rsqBegun_places
    | rsqEntry => exact s.rsqEntry_places
    | _ => cases hrsq
  · cases hcommand : sig.isCommand with
    | false => exact (handle_block sig hcommand s).places hrsq
    | true =>
      cases sig with
      | cmhCommand c => exact s.cmhCommand_places c
      | _ => cases hcommand

theorem State.resetBy_rsq (cause : EventCode) (levels : Straps) (s : State) :
    (s.resetBy cause levels).rsq = Rsq.afterReset := by
  unfold State.resetBy; dsimp only; split
  · exact (State.enterSilenced_block _).rsq (by decide)
  · rfl

/-- Table 6-9: after reset the index is 0 and the count 1. -/
theorem State.resetBy_places (cause : EventCode) (levels : Straps) (s : State) :
    s.rsq.Places (s.resetBy cause levels).rsq := by
  rw [State.resetBy_rsq]
  exact .inr Nat.one_pos

theorem perform_places (k : FollowUp) (s : State) : s.rsq.Places (perform k s).rsq := by
  cases k
  case restartTakesEffect => exact State.resetBy_places _ _ s
  case startReadComplete =>
    unfold perform; dsimp only; split
    · exact State.rsqStartRead_places (s.setStc _) _
    · exact .same rfl rfl
  case stepReadComplete =>
    unfold perform; dsimp only; split
    · exact State.rsqStepRead_places (s.setStc _) _
    · exact .same rfl rfl
  case storeRequestServed => exact s.serveNext_block.places (by decide)
  case deferredConfigCommand => exact s.takeDeferred_places
  case configuredReached => exact s.configure_block.places (by decide)
  case answerHandover => exact s.answerHandover_block.places (by decide)
  case fetchEventsNextFrame => exact s.nextFrame_block.places (by decide)

/-! ### Every step, R123 -/

/-- What only other blocks do keeps the index below the count. -/
theorem BlockStep.keeps_indexed {k : Block} {s t : State} (h : BlockStep k s t) (hk : k ≠ .rsq)
    (hs : s.rsq.indexed = true) : t.rsq.indexed = true := (h.places hk).indexed hs

theorem kept_indexed : Kept fun s => s.rsq.indexed = true where
  delivered _ sig rest _ h := (handle_places sig _).indexed h
  pending _ _ h := h
  pins _ _ h := h
  performed k s h := (perform_places k s).indexed h
  reset pins s h := (State.resetBy_places _ pins s).indexed h
  tick _ h := h
  clcMeasure a b c s h := (s.clcMeasure_block a b c).keeps_indexed (by decide) h
  clcControlExpiry s h := s.clcControlExpiry_block.keeps_indexed (by decide) h
  clcRunOnExpiry s h := s.clcRunOnExpiry_block.keeps_indexed (by decide) h
  clcOpenExpiry s h := s.clcOpenExpiry_block.keeps_indexed (by decide) h
  clcCloseExpiry s h := s.clcCloseExpiry_block.keeps_indexed (by decide) h
  dspSlotExpiry s h := s.dspSlotExpiry_block.keeps_indexed (by decide) h
  lsuListenExpiry s h := s.lsuListenExpiry_block.keeps_indexed (by decide) h
  lsuPeriodExpiry s h := s.lsuPeriodExpiry_block.keeps_indexed (by decide) h
  lsuIntervalExpiry s h := s.lsuIntervalExpiry_block.keeps_indexed (by decide) h
  lsuHoldOffExpiry s h := s.lsuHoldOffExpiry_block.keeps_indexed (by decide) h
  lsuPeerSilent n s h := (State.lsuPeerSilent_block n s).keeps_indexed (by decide) h
  lsuPeerLost n s h := (State.lsuPeerLost_block n s).keeps_indexed (by decide) h
  sgcFillTimeout s h := s.sgcFillTimeout_block.keeps_indexed (by decide) h
  sgcDrainExpiry s h := s.sgcDrainExpiry_block.keeps_indexed (by decide) h
  sduSoakComplete s h := s.sduSoakComplete_block.keeps_indexed (by decide) h
  rsqStepTimeEnd s h := s.rsqStepTimeEnd_places.indexed h
  rsqPauseExpiry s h := s.rsqPauseExpiry_places.indexed h
  rsqRunCap s h := s.rsqRunCap_places.indexed h
  stcScan s h := s.stcScan_block.keeps_indexed (by decide) h
  storeOperationComplete kept s h := (State.storeOperationComplete_block kept s).keeps_indexed (by decide) h
  storeAbandon s h := s.storeAbandon_block.keeps_indexed (by decide) h
  iluSample pins s h := (State.iluSample_block pins s).keeps_indexed (by decide) h
  iluPersistence p s h := (State.iluPersistence_block p s).keeps_indexed (by decide) h
  receive f others s _ h := (State.receive_block f others s).keeps_indexed (by decide) h
  slcReceptionError cells s h := (State.slcReceptionError_block cells s).keeps_indexed (by decide) h
  slcStart s h := s.slcStart_block.keeps_indexed (by decide) h
  slcLoss bit s h := (State.slcLoss_block bit s).keeps_indexed (by decide) h
  slcMismatch cell s h := (State.slcMismatch_block cell s).keeps_indexed (by decide) h
  slcAcknowledge read s h := (State.slcAcknowledge_block read s).keeps_indexed (by decide) h
  slcLineFault s h := s.slcLineFault_block.keeps_indexed (by decide) h
  slcLineRestored s h := s.slcLineRestored_block.keeps_indexed (by decide) h
  slcFirstGap s h := s.slcFirstGap_block.keeps_indexed (by decide) h
  fillStatus s h := s.fillStatus_block.keeps_indexed (by decide) h
  statusInterval s h := s.statusInterval_block.keeps_indexed (by decide) h

/-- Settles O13: the index goes on only to a step there is, and a run starts with at least one. -/
theorem stepIndexStaysBelowCount : Obligations.StepIndexStaysBelowCount :=
  fun _ _ hs ht => kept_indexed.step hs ht

end Sys2Proof.Machine
end

section
/-! A live run ended, its step ended, paused, resumed and skipped: what the RSQ takes and delivers there (R118, R129 to
R136), and the obligations about STEP_TIME_END, PAUSE_TIMER_EXPIRY, RUN_TIME_CAP, STOP, PAUSE, RESUME and SKIP_STEP. -/

namespace Sys2Proof.Machine

/-! ### The RSQ takes a state of its own -/

/-- The doings of the RSQ change nothing but its own state, the event queue and the bus. -/
theorem BlockStep.rsq_eq {s u : State} (h : BlockStep .rsq s u) :
    u = { s with rsq := u.rsq, evq := u.evq, bus := u.bus } := by
  obtain ⟨hpending, hfree, hpins, hclc, hdsp, hlsu, hslc, hsgc, hsdu, -, hstc, hilu, hcmh, -⟩ := h
  cases u
  simp only [State.mk.injEq, true_and, and_true]
  exact ⟨hpending, hfree, hpins, hclc nofun, hdsp nofun, hlsu nofun, hslc nofun, hsgc nofun, hsdu nofun, hstc nofun,
    hilu nofun, hcmh nofun⟩

/-- The deliveries of `rsqTo`: what it is given, the cooking request and the run state. -/
theorem State.mem_rsqTo_bus {sig : Signal} {r : Rsq} {before mid after : List Signal} {s : State} :
    sig ∈ (s.rsqTo r before mid after).bus ↔ sig ∈ s.bus ∨ sig ∈ before ∨
      sig ∈ Rsq.cookingSignals s.rsq { r with cooking := r.cookingNow } ∨ sig ∈ mid ∨
      sig ∈ Rsq.runSignals s.rsq { r with cooking := r.cookingNow } ∨ sig ∈ after := by
  rw [State.rsqTo, State.mem_emit_bus]
  simp only [List.mem_append, or_assoc]
  rfl

@[simp] theorem State.rsqTo_rsq (r : Rsq) (before mid after : List Signal) (s : State) :
    (s.rsqTo r before mid after).rsq = { r with cooking := r.cookingNow } := rfl

@[simp] theorem State.rsqTo_evq (r : Rsq) (before mid after : List Signal) (s : State) :
    (s.rsqTo r before mid after).evq = s.evq := rfl

/-- R133: a changed cooking request is delivered. -/
theorem Rsq.cooking_mem_cookingSignals {old new : Rsq} (h : old.cooking ≠ new.cooking) :
    Signal.sgcCooking new.cooking ∈ Rsq.cookingSignals old new :=
  mem_sigIf.mpr ⟨bne_iff_ne.mpr h, rfl⟩

/-- R118: a changed run state is delivered to the ILU, the CLC and the CMH. -/
theorem Rsq.run_mem_runSignals {old new : Rsq} (h : old.run ≠ new.run) :
    Signal.iluRun new.run ∈ Rsq.runSignals old new ∧ Signal.clcRun new.run ∈ Rsq.runSignals old new ∧
      Signal.cmhRunState ∈ Rsq.runSignals old new := by
  simp [Rsq.runSignals, h]

/-- R133: nothing is asked for while no run is live. -/
theorem Rsq.cookingNow_of_not_live {r : Rsq} (h : r.run.live = false) : r.cookingNow = none := by
  obtain ⟨hrunning, hpaused⟩ : (r.run == .running) = false ∧ (r.run == .paused) = false := by
    simpa [RunState.live] using h
  unfold Rsq.cookingNow
  cases r.live <;> simp [hrunning, hpaused]

/-! ### A run ended, R136 -/

section ends

variable {s : State}

theorem State.rsqFinish_rsq (e : EndReason) : (s.rsqFinish e).rsq = { s.rsq with
    run := .finishing, reasons := ⟨false, false, false, false, false⟩, phase := .none, readPending := false,
    grant := false, pauseTimer := 0, cooking := none } := by
  have hcooking : s.rsq.finish.cookingNow = none := Rsq.cookingNow_of_not_live rfl
  rw [State.rsqFinish, State.rsqTo_rsq, hcooking]
  rfl

theorem State.rsqFinish_evq (e : EndReason) :
    (s.rsqFinish e).evq = s.evq.append .runEnded e.code (word (s.rsq.runElapsed / 1000)) := rfl

/-- R136: the deliveries of the end of a live run. -/
theorem State.mem_rsqFinish_bus (hrun : s.rsq.run = .running ∨ s.rsq.run = .paused) (e : EndReason) {sig : Signal}
    (hsig : sig ∈ [.sgcGrant false, .sgcDrainOrder, .lsuFloorClass 0 3, .clcRun .finishing, .iluRun .finishing,
      .cmhRunState]) : sig ∈ (s.rsqFinish e).bus := by
  have hne : s.rsq.run ≠ .finishing := by obtain h | h := hrun <;> rw [h] <;> decide
  obtain ⟨hilu, hclc, hcmh⟩ := Rsq.run_mem_runSignals (old := s.rsq)
    (new := { s.rsq.finish with cooking := s.rsq.finish.cookingNow }) hne
  refine State.mem_rsqTo_bus.mpr (.inr ?_)
  simp only [List.mem_cons, List.not_mem_nil, or_false] at hsig ⊢
  obtain rfl | rfl | rfl | rfl | rfl | rfl := hsig
  · exact .inl rfl
  · exact .inr (.inr (.inl (.inl rfl)))
  · exact .inr (.inr (.inl (.inr rfl)))
  · exact .inr (.inr (.inr hclc))
  · exact .inr (.inr (.inr hilu))
  · exact .inr (.inr (.inr hcmh))

/-- R133, R136: a cooking request that stands is withdrawn. -/
theorem State.cooking_mem_rsqFinish_bus (h : s.rsq.cooking ≠ none) (e : EndReason) :
    Signal.sgcCooking none ∈ (s.rsqFinish e).bus := by
  have hcooking : s.rsq.finish.cookingNow = none := Rsq.cookingNow_of_not_live rfl
  refine State.mem_rsqTo_bus.mpr (.inr (.inr (.inl ?_)))
  rw [hcooking]
  exact Rsq.cooking_mem_cookingSignals (new := { s.rsq.finish with cooking := none }) h

/-! ### A step ended, R130 -/

theorem State.rsqStepEnd_evq (h : s.rsq.index + 1 < s.rsq.stepCount) : s.rsqStepEnd.evq = s.evq := by
  rw [State.rsqStepEnd, if_pos h]
  rfl

/-- R124: the next step's words are asked for. -/
theorem State.rsqStepEnd_reads (h : s.rsq.index + 1 < s.rsq.stepCount) {slot : Nat} {e : StepEntry}
    (hsource : s.rsq.source = .slot slot) (hentry : s.rsq.table[s.rsq.index + 1]? = some e) :
    Signal.stcRequest (.stepRead slot e.offset e.length) ∈ s.rsqStepEnd.bus := by
  rw [State.rsqStepEnd, if_pos h, State.mem_rsqTo_bus]
  refine .inr (.inr (.inr (.inr (.inr ?_))))
  rw [Rsq.readSignals, hsource, hentry]
  exact List.mem_singleton.mpr rfl

/-- R130: the end of the last step ends the run. -/
theorem State.rsqStepEnd_of_last (h : s.rsq.stepCount ≤ s.rsq.index + 1) : s.rsqStepEnd = s.rsqFinish .normal := by
  rw [State.rsqStepEnd, if_neg (by omega)]

/-! ### The pause-reason set, R132 -/

/-- R132: the set becomes non-empty, and the run is paused. -/
theorem State.rsqReasons_pauses (hlive : s.rsq.run.live = true) {r : Reasons} (hold : s.rsq.reasons.any = false)
    (hnew : r.any = true) : s.rsqReasons r = (s.post .runPaused r.code (word s.rsq.index)).rsqTo
      { s.rsq with reasons := r, run := .paused, pauseTimer := 0 } [] [] [] := by
  simp [State.rsqReasons, hlive, hold, hnew]

/-- R132: the set becomes empty, and the run goes on. -/
theorem State.rsqReasons_resumes (hlive : s.rsq.run.live = true) {r : Reasons} (hold : s.rsq.reasons.any = true)
    (hnew : r.any = false) :
    s.rsqReasons r = (s.post .runResumed s.rsq.reasons.code (word (s.rsq.pauseTimer / 1000))).rsqTo
      { s.rsq with reasons := r, run := .running, pauseTimer := 0 } [] [] [.rsqResumed] := by
  simp [State.rsqReasons, hlive, hold, hnew, secs]

/-- R132: the set stays empty, or stays not empty, and the run state is kept. -/
theorem State.rsqReasons_keeps (hlive : s.rsq.run.live = true) {r : Reasons} (h : r.any = s.rsq.reasons.any) :
    s.rsqReasons r = s.rsqTo { s.rsq with reasons := r } [] [] [] := by
  cases hany : s.rsq.reasons.any <;> simp [State.rsqReasons, hlive, h, hany]

end ends

/-! ### Timers of a run, R129 and R134 -/

theorem EndKind.isTimed_iff {k : EndKind} : k.isTimed = true ↔ k = .time ∨ k = .timeOrCore := by
  cases k <;> simp [EndKind.isTimed]

theorem State.rsqStepTimeEnd_of_active {s : State} {l : LiveStep} (hlive : s.rsq.live = some l)
    (hrun : s.rsq.run = .running) (hphase : s.rsq.phase = .active) (hend : l.endKind.isTimed = true) :
    s.rsqStepTimeEnd = (s.setRsq { s.rsq with stepElapsed := 1000 * l.duration }).rsqStepEnd := by
  rw [State.rsqStepTimeEnd, hlive]
  exact if_pos (by simp [hrun, hphase, hend])

/-- Settles O37: the step end at the live duration, before the last step and at it. -/
theorem stepTimeEndsStep : Obligations.StepTimeEndsStep := by
  intro s l hquiet hlive hrun hphase hend
  have hstep := State.rsqStepTimeEnd_of_active hlive hrun hphase (EndKind.isTimed_iff.mpr hend)
  refine ⟨s.rsqStepTimeEnd, congrArg Host.Outcome.next (State.event_of_quiet hquiet _),
    s.rsqStepTimeEnd_block.rsq_eq, ?_⟩
  rw [hstep]
  by_cases hnext : s.rsq.index + 1 < s.rsq.stepCount
  · rw [State.rsqStepEnd_rsq (by exact hnext)]
    exact ⟨rfl, fun _ => ⟨rfl, rfl, rfl, hrun, hlive, rfl, State.rsqStepEnd_evq (by exact hnext),
      fun _ _ hsource hentry => State.rsqStepEnd_reads (by exact hnext) hsource hentry⟩, fun hlast => by omega⟩
  · rw [State.rsqStepEnd_of_last (by exact Nat.le_of_not_lt hnext), State.rsqFinish_rsq]
    exact ⟨rfl, fun h => absurd h hnext, fun _ => ⟨rfl, rfl⟩⟩

/-! ### Commands of the panel to a live run -/

/-- A panel command that the RSQ takes: what it leaves, and that its deliveries settle. -/
theorem State.panel_rsq {s u : State} {source : Fin 7} (h : s.listens source = true)
    (hconfigured : s.cmh.configured = true) {k : Byte} {payload : List Byte}
    (hlength : lengthAllowed k payload.length = true) (hshort : payload.length ≤ 15)
    (hconfig : isConfigCommand k = false) (htake : (s.taken source (some k) payload).take k payload = u)
    (hblock : BlockStep .rsq (s.taken source (some k) payload) u) :
    s.panel source (some k) payload = u.settle (settleFuel - 1) ∧
      u = { s.taken source (some k) payload with rsq := u.rsq, evq := u.evq, bus := u.bus } :=
  ⟨State.panel_takes h hlength hshort hconfig (.inl hconfigured) htake, hblock.rsq_eq⟩

theorem State.takeStop_of_live {s : State} (h : s.rsq.run.live = true) :
    s.takeStop = (s.rsqFinish .stopped).answer .ok [] := if_pos h

/-- Settles O38: each way leads to the one end of a live run, with its reason. -/
theorem runEndsInFinishing : Obligations.RunEndsInFinishing := by
  refine ⟨fun s hquiet hrun => ?pauseTimer, fun s hquiet hrun => ?cap, fun source s h hconfigured hrun => ?stop⟩
  case pauseTimer =>
    have hends : s.rsqPauseExpiry = s.rsqFinish .abandoned := if_pos hrun
    have hbus {sig : Signal} := State.mem_rsqFinish_bus (.inr hrun) .abandoned (sig := sig)
    exact ⟨s.rsqFinish .abandoned,
      congrArg Host.Outcome.next ((State.event_of_quiet hquiet _).trans (congrArg _ hends)),
      (State.rsqFinish_block _ s).rsq_eq, State.rsqFinish_rsq _, hbus (by simp), hbus (by simp), hbus (by simp),
      fun hcooking => State.cooking_mem_rsqFinish_bus hcooking _, hbus (by simp), hbus (by simp), hbus (by simp)⟩
  case cap =>
    let t := s.setRsq { s.rsq with runElapsed := 43200000 }
    have hends : s.rsqRunCap = t.rsqFinish .timeCap := if_pos (RunState.live_iff.mpr hrun)
    have hseconds : 43200000 / 1000 = 43200 := by norm_num
    have hevq : (t.rsqFinish .timeCap).evq = s.evq.append .runEnded 4 (word 43200) :=
      (State.rsqFinish_evq (s := t) .timeCap).trans (congrArg (fun n => s.evq.append .runEnded 4 (word n)) hseconds)
    have hframe := (State.rsqFinish_block .timeCap t).rsq_eq
    rw [hevq] at hframe
    have hbus {sig : Signal} := State.mem_rsqFinish_bus (s := t) hrun .timeCap (sig := sig)
    exact ⟨t.rsqFinish .timeCap,
      congrArg Host.Outcome.next ((State.event_of_quiet hquiet _).trans (congrArg _ hends)),
      hframe, State.rsqFinish_rsq _, hbus (by simp), hbus (by simp), hbus (by simp),
      fun hcooking => State.cooking_mem_rsqFinish_bus (s := t) hcooking _, hbus (by simp)⟩
  case stop =>
    obtain ⟨hpanel, hframe⟩ := State.panel_rsq (k := 0x17) (payload := []) h hconfigured rfl (by decide) rfl
      (State.takeStop_of_live (RunState.live_iff.mpr hrun))
      ((State.rsqFinish_block _ (s.taken source (some 0x17) [])).answer .ok [])
    have hbus {sig : Signal} := State.mem_rsqFinish_bus (s := s.taken source (some 0x17) []) hrun .stopped (sig := sig)
    exact ⟨_, congrArg Host.Outcome.next hpanel, hframe, State.rsqFinish_rsq (s := s.taken source (some 0x17) []) .stopped,
      State.mem_answer_bus.mpr (.inr rfl),
      State.mem_answer_bus.mpr (.inl (hbus (by simp))), State.mem_answer_bus.mpr (.inl (hbus (by simp)))⟩

theorem Reasons.any_of_panel {r : Reasons} (h : r.panel = true) : r.any = true := by
  simp [Reasons.any, h]

/-- Table 10-4: PANEL alone is bit 4. -/
theorem Reasons.code_of_panel_alone {r : Reasons} (hpanel : r.panel = true)
    (hothers : Reasons.any { r with panel := false } = false) : r.code = 16 := by
  simp only [Reasons.any, Bool.or_eq_false_iff] at hothers
  obtain ⟨⟨⟨⟨hdoor, htrip⟩, htank⟩, hprobe⟩, -⟩ := hothers
  simp [Reasons.code, hdoor, htrip, htank, hprobe, hpanel]

theorem State.takePause_of_live {s : State} (h : s.rsq.run.live = true) :
    s.takePause = (s.rsqReasons { s.rsq.reasons with panel := true }).answer .ok [] := if_pos h

theorem State.takeResume_of_panel {s : State} (h : s.rsq.run.live = true) (hpanel : s.rsq.reasons.panel = true) :
    s.takeResume = (s.rsqReasons { s.rsq.reasons with panel := false }).answer .ok [] :=
  if_pos (by simp [h, hpanel])

theorem State.takeResume_of_no_panel {s : State} (hpanel : s.rsq.reasons.panel = false) :
    s.takeResume = s.refuse .wrongState := if_neg (by simp [hpanel])

/-- R132, R135: PANEL joins the set. -/
theorem State.rsqReasons_panel_joins {s : State} (hlive : s.rsq.run.live = true) :
    let t := s.rsqReasons { s.rsq.reasons with panel := true }
    t.rsq.reasons = { s.rsq.reasons with panel := true } ∧
      (s.rsq.reasons.any = false →
        t.rsq.run = .paused ∧ t.rsq.pauseTimer = 0 ∧ t.evq = s.evq.append .runPaused 16 (word s.rsq.index)) ∧
      (s.rsq.reasons.any = true →
        t.rsq.run = s.rsq.run ∧ t.rsq.pauseTimer = s.rsq.pauseTimer ∧ t.evq = s.evq) := by
  have hnew : Reasons.any { s.rsq.reasons with panel := true } = true := Reasons.any_of_panel rfl
  dsimp only
  cases hany : s.rsq.reasons.any with
  | false =>
    have hothers : Reasons.any { s.rsq.reasons with panel := false } = false := by
      simp_all [Reasons.any]
    have hcode : Reasons.code { s.rsq.reasons with panel := true } = 16 := Reasons.code_of_panel_alone rfl hothers
    rw [State.rsqReasons_pauses hlive hany hnew, hcode]
    exact ⟨rfl, fun _ => ⟨rfl, rfl, rfl⟩, nofun⟩
  | true =>
    rw [State.rsqReasons_keeps hlive (hnew.trans hany.symm)]
    exact ⟨rfl, nofun, fun _ => ⟨rfl, rfl, rfl⟩⟩

/-- R132, R135: PANEL leaves the set. -/
theorem State.rsqReasons_panel_leaves {s : State} (hlive : s.rsq.run.live = true)
    (hpanel : s.rsq.reasons.panel = true) :
    let t := s.rsqReasons { s.rsq.reasons with panel := false }
    t.rsq.reasons = { s.rsq.reasons with panel := false } ∧
      (t.rsq.reasons.any = false →
        t.rsq.run = .running ∧ t.rsq.pauseTimer = 0 ∧
          t.evq = s.evq.append .runResumed 16 (word (s.rsq.pauseTimer / 1000))) ∧
      (t.rsq.reasons.any = true →
        t.rsq.run = s.rsq.run ∧ t.rsq.pauseTimer = s.rsq.pauseTimer ∧ t.evq = s.evq) := by
  have hold : s.rsq.reasons.any = true := Reasons.any_of_panel hpanel
  dsimp only
  cases hany : Reasons.any { s.rsq.reasons with panel := false } with
  | false =>
    rw [State.rsqReasons_resumes hlive hold hany, Reasons.code_of_panel_alone hpanel hany]
    exact ⟨rfl, fun _ => ⟨rfl, rfl, rfl⟩, fun h => absurd (hany.symm.trans h) (by decide)⟩
  | true =>
    rw [State.rsqReasons_keeps hlive (hany.trans hold.symm)]
    exact ⟨rfl, fun h => absurd (hany.symm.trans h) (by decide), fun _ => ⟨rfl, rfl, rfl⟩⟩

/-- Settles O41: PANEL joins or leaves the set, and the run state follows it. -/
theorem pauseAndResumeFollowPanel : Obligations.PauseAndResumeFollowPanel := by
  intro source s h hconfigured hrun
  have hlive := RunState.live_iff.mpr hrun
  refine ⟨?pause, fun hpanel => ?resume, fun hpanel => ?refused⟩
  case pause =>
    obtain ⟨hpanel, hframe⟩ := State.panel_rsq (k := 0x13) (payload := []) h hconfigured rfl (by decide) rfl
      (State.takePause_of_live hlive) ((State.rsqReasons_block _ (s.taken source (some 0x13) [])).answer .ok [])
    obtain ⟨hset, hpauses, hkeeps⟩ := State.rsqReasons_panel_joins (s := s.taken source (some 0x13) []) hlive
    exact ⟨_, congrArg Host.Outcome.next hpanel, hframe, hset, State.mem_answer_bus.mpr (.inr rfl), hpauses, hkeeps⟩
  case resume =>
    obtain ⟨hexec, hframe⟩ := State.panel_rsq (k := 0x14) (payload := []) h hconfigured rfl (by decide) rfl
      (State.takeResume_of_panel hlive hpanel) ((State.rsqReasons_block _ (s.taken source (some 0x14) [])).answer .ok [])
    obtain ⟨hset, hresumes, hkeeps⟩ := State.rsqReasons_panel_leaves (s := s.taken source (some 0x14) []) hlive hpanel
    exact ⟨_, congrArg Host.Outcome.next hexec, hframe, hset, State.mem_answer_bus.mpr (.inr rfl), hresumes, hkeeps⟩
  case refused =>
    exact congrArg Host.Outcome.next (State.panel_answers (k := 0x14) (payload := []) h rfl (by decide) rfl
      (.inl hconfigured) (State.takeResume_of_no_panel hpanel))

theorem State.takeSkipStep_of_live {s : State} (h : s.rsq.run.live = true) (hread : s.rsq.readPending = false) :
    s.takeSkipStep = s.rsqStepEnd.answer .ok [] := by
  rw [State.takeSkipStep, h, hread]
  rfl

theorem State.takeSkipStep_of_pending {s : State} (h : s.rsq.run.live = true) (hread : s.rsq.readPending = true) :
    s.takeSkipStep = s.refuse .busy := by
  rw [State.takeSkipStep, h, hread]
  rfl

/-- Settles O42: the step end, or BUSY while a step read is pending. -/
theorem skipStepEndsStep : Obligations.SkipStepEndsStep := by
  intro source s h hconfigured hrun
  have hlive := RunState.live_iff.mpr hrun
  refine ⟨fun hread => ?ends, fun hread => ?busy⟩
  case ends =>
    obtain ⟨hpanel, hframe⟩ := State.panel_rsq (k := 0x16) (payload := []) h hconfigured rfl (by decide) rfl
      (State.takeSkipStep_of_live hlive hread) ((State.rsqStepEnd_block (s.taken source (some 0x16) [])).answer .ok [])
    refine ⟨_, congrArg Host.Outcome.next hpanel, hframe, State.mem_answer_bus.mpr (.inr rfl), fun hnext => ?_,
      fun hlast => ?_⟩
    · exact ⟨State.rsqStepEnd_rsq (s := s.taken source (some 0x16) []) hnext,
        State.rsqStepEnd_evq (s := s.taken source (some 0x16) []) hnext⟩
    · rw [State.rsqStepEnd_of_last (by exact hlast), State.answer_rsq, State.answer_evq, State.rsqFinish_rsq]
      exact ⟨rfl, rfl⟩
  case busy =>
    exact congrArg Host.Outcome.next (State.panel_answers (k := 0x16) (payload := []) h rfl (by decide) rfl
      (.inl hconfigured) (State.takeSkipStep_of_pending hlive hread))

end Sys2Proof.Machine
end

section
/-! A live step adjusted (R138), and a run started from the panel or from the store (R121 to R124): ADJUST, RUN_RECIPE,
START_MANUAL and START_READ_COMPLETE. -/

namespace Sys2Proof.Machine

/-! ### ADJUST, R138 -/

/-- R138: the values of an ADJUST that the step uses give its new values, each clamped. -/
theorem LiveStep.adjusted_step {l : LiveStep} {a : Adjustment} (hused : a.unused l = false) (elapsed : Nat) :
    (l.adjusted a elapsed).1 = { l with
      setpoint := match a.setpoint with
        | some v => some (clampInt l.mode.row.lo l.mode.row.hi v)
        | none => l.setpoint
      humidity := match a.humidity with
        | some v => clampNat l.mode.row.humLo l.mode.row.humHi v
        | none => l.humidity
      fan := match a.fan with
        | some v => min 3 v
        | none => l.fan
      duration := match a.remaining with
        | some v => elapsed + clampNat 1 (43200 - elapsed) v
        | none => l.duration } := by
  have hfields : (l.adjusted a elapsed).1 = { l with
      setpoint := (l.adjusted a elapsed).1.setpoint, humidity := (l.adjusted a elapsed).1.humidity
      fan := (l.adjusted a elapsed).1.fan, duration := (l.adjusted a elapsed).1.duration } := rfl
  rw [hfields]
  congr 1
  · show (match a.setpoint with
      | some v => l.mode.clampSetpoint v
      | none => l.setpoint) = _
    cases hsetpoint : a.setpoint with
    | none => rfl
    | some v =>
      refine if_neg fun hfan => ?_
      simp [Adjustment.unused, hsetpoint, hfan] at hused
  · show (match a.fan with
      | some v => clampNat 0 3 v
      | none => l.fan) = _
    cases a.fan with
    | none => rfl
    | some v => exact clampNat_zero 3 v
  · show (match a.remaining.map (clampNat 1 (43200 - elapsed)) with
      | some v => elapsed + v
      | none => l.duration) = _
    cases a.remaining <;> rfl

/-- A value given differs from the value taken. -/
theorem given_ne_taken_iff {α : Type} [BEq α] [LawfulBEq α] {given taken : Option α} :
    (given.isSome && given != taken) = true ↔ ∃ v, given = some v ∧ taken ≠ some v := by
  cases given with
  | none => simp
  | some v => simp [ne_comm]

theorem ne_map_iff {α : Type} [BEq α] [LawfulBEq α] {given : Option α} {f : α → α} :
    (given != given.map f) = true ↔ ∃ v, given = some v ∧ f v ≠ v := by
  cases given with
  | none => simp
  | some v => simp [ne_comm]

/-- R138: a value counts as clamped where its clamped value is another. -/
theorem LiveStep.adjusted_clamped_iff {l : LiveStep} {a : Adjustment} (hused : a.unused l = false) (elapsed : Nat) :
    (l.adjusted a elapsed).2 = true ↔
      (∃ v, a.setpoint = some v ∧ clampInt l.mode.row.lo l.mode.row.hi v ≠ v) ∨
      (∃ v, a.humidity = some v ∧ clampNat l.mode.row.humLo l.mode.row.humHi v ≠ v) ∨
      (∃ v, a.fan = some v ∧ 3 < v) ∨ ∃ v, a.remaining = some v ∧ clampNat 1 (43200 - elapsed) v ≠ v := by
  have hflag : (l.adjusted a elapsed).2 =
      ((a.setpoint.isSome && a.setpoint != (l.adjusted a elapsed).1.setpoint) ||
        (a.humidity.isSome && a.humidity != some (l.adjusted a elapsed).1.humidity) ||
        (a.fan.isSome && a.fan != some (l.adjusted a elapsed).1.fan) ||
        a.remaining != a.remaining.map (clampNat 1 (43200 - elapsed))) := rfl
  rw [hflag, LiveStep.adjusted_step hused]
  simp only [Bool.or_eq_true, or_assoc, given_ne_taken_iff, ne_map_iff]
  refine or_congr ?_ (or_congr ?_ (or_congr ?_ Iff.rfl)) <;>
    refine exists_congr fun v => and_congr_right fun hv => ?_ <;> rw [hv]
  · simp
  · simp
  · simp

/-- R138: what an ADJUST of a live step delivers to the CLC. -/
def LiveStep.adjustSignals (l : LiveStep) (a : Adjustment) : List Signal :=
  sigIf (a.setpoint.isSome || a.humidity.isSome || a.fan.isSome)
    (.clcAdjust (a.setpoint.map (clampInt l.mode.row.lo l.mode.row.hi))
      (a.humidity.map (clampNat l.mode.row.humLo l.mode.row.humHi)) (a.fan.map (min 3)))

/-- R138: an ADJUST that a live step takes. -/
theorem State.takeAdjust_of_live {s : State} {payload : List Byte} {l : LiveStep} {a : Adjustment}
    (hrun : s.rsq.run.live = true) (hread : s.rsq.readPending = false) (hlive : s.rsq.live = some l)
    (hpayload : adjustmentOf payload = some a) (hused : a.unused l = false) :
    let r := l.adjusted a (s.rsq.stepElapsed / 1000)
    s.takeAdjust payload = (s.rsqTo { s.rsq with live := some r.1 } (l.adjustSignals a) [] []).answer
      (if r.2 then .clamped else .ok) [] := by
  intro r
  have hsignals : l.adjustSignals a = sigIf (a.setpoint.isSome || a.humidity.isSome || a.fan.isSome)
      (.clcAdjust (a.setpoint.bind fun _ => r.1.setpoint) (a.humidity.map fun _ => r.1.humidity)
        (a.fan.map fun _ => r.1.fan)) := by
    rw [LiveStep.adjustSignals, LiveStep.adjusted_step hused]
    cases a.setpoint <;> cases a.humidity <;> cases a.fan <;> rfl
  unfold State.takeAdjust
  rw [hrun, hread, hlive, hsignals]
  dsimp only
  rw [hpayload]
  dsimp only
  rw [hused]
  rfl

/-- The payload of an ADJUST has seven bytes. -/
theorem adjustmentOf_length {payload : List Byte} {a : Adjustment} (h : adjustmentOf payload = some a) :
    payload.length = 7 := by
  unfold adjustmentOf at h
  split at h
  · rfl
  · cases h

/-- Where the run state is kept, the RSQ delivers no answer but the one given after it. -/
theorem State.cmhAnswer_mem_rsqTo_answer {s : State} {r : Rsq} {before : List Signal} (hbus : s.bus = [])
    (hrun : r.run = s.rsq.run) (hbefore : ∀ x, Signal.cmhAnswer x [] ∉ before) (x y : Result) :
    Signal.cmhAnswer x [] ∈ ((s.rsqTo r before [] []).answer y []).bus ↔ x = y := by
  have hruns : Rsq.runSignals s.rsq { r with cooking := r.cookingNow } = [] := if_pos hrun.symm
  rw [State.mem_answer_bus, State.mem_rsqTo_bus, hbus, hruns]
  simp [hbefore x, Rsq.cookingSignals, mem_sigIf]

/-- Settles O40: the step's new values, and the result by whether one was clamped. -/
theorem adjustAppliesPresentValues : Obligations.AdjustAppliesPresentValues := by
  intro source payload s l a h hconfigured hrun hread hlive hpayload hused elapsed setpoint humidity remaining clamped
  let t := s.taken source (some 0x12) payload
  let r := l.adjusted a (s.rsq.stepElapsed / 1000)
  have hlength := adjustmentOf_length hpayload
  have hclamped : r.2 = true ↔ clamped := LiveStep.adjusted_clamped_iff hused _
  obtain ⟨hpanel, -⟩ := State.panel_rsq (k := 0x12) (payload := payload) h hconfigured (by rw [hlength]; decide)
    (by omega) rfl (State.takeAdjust_of_live (s := t) (RunState.live_iff.mpr hrun) hread hlive hpayload hused)
    (((BlockStep.refl (s := t)).rsqTo { t.rsq with live := some r.1 } (l.adjustSignals a) [] []).answer
      (if r.2 then .clamped else .ok) [])
  have hanswer := State.cmhAnswer_mem_rsqTo_answer (s := t) (r := { t.rsq with live := some r.1 })
    (before := l.adjustSignals a) (State.bus_taken h _ _) rfl (fun x => by simp [LiveStep.adjustSignals, mem_sigIf])
  refine ⟨_, congrArg Host.Outcome.next hpanel, rfl, rfl, ?live, fun hc => ?clamped, fun hc => ?ok, fun hp => ?clc,
    fun hc => ?cooking⟩
  case live => exact congrArg some (LiveStep.adjusted_step hused _)
  case clamped =>
    have hresult : (if r.2 then Result.clamped else .ok) = .clamped := if_pos (hclamped.mpr hc)
    exact ⟨(hanswer _ _).mpr hresult.symm, fun hmem => nomatch ((hanswer _ _).mp hmem).trans hresult⟩
  case ok =>
    have hresult : (if r.2 then Result.clamped else .ok) = .ok := if_neg (hclamped.not.mpr hc)
    exact ⟨(hanswer _ _).mpr hresult.symm, fun hmem => nomatch ((hanswer _ _).mp hmem).trans hresult⟩
  case clc =>
    refine State.mem_answer_bus.mpr (.inl (State.mem_rsqTo_bus.mpr (.inr (.inl ?_))))
    exact mem_sigIf.mpr ⟨by simpa [or_assoc] using hp, rfl⟩
  case cooking =>
    refine State.mem_answer_bus.mpr (.inl (State.mem_rsqTo_bus.mpr (.inr (.inr (.inl ?_)))))
    exact Rsq.cooking_mem_cookingSignals (old := s.rsq) (Ne.symm hc)

/-! ### The tests of a start, R121 -/

/-- R121, tests 2 to 4. -/
theorem Rsq.startRefusal_of_passed {r : Rsq} (hrun : r.run = .idle ∨ r.run = .finishing)
    (hdescale : r.descaleActive = false) (htrips : r.abortTrips.any = false) : r.startRefusal = none := by
  have hlive : r.run.live = false := by obtain h | h := hrun <;> rw [h] <;> rfl
  simp [Rsq.startRefusal, hlive, hdescale, htrips]

/-- R121, tests 6 to 8. -/
theorem Rsq.stepRefusal_of_passed {r : Rsq} {steps : List RawStep}
    (hmodes : ∀ x ∈ steps, ∀ m, x.mode = some m → r.usable m = true ∧ (m.isSteam = true → r.steamLocked = false))
    (hkinds : ∀ x ∈ steps, ∀ k, x.endKind = some k → k.isCore = true → r.probeFitted = true)
    (hrinse : r.rinse = false) : r.stepRefusal steps = none := by
  have husable : ((steps.filterMap (·.mode)).any fun m => !r.usable m) = false := by
    simp only [List.any_eq_false, List.mem_filterMap]
    rintro m ⟨x, hx, hm⟩
    simp [(hmodes x hx m hm).1]
  have hprobe : ((steps.filterMap (·.endKind)).any (·.isCore) && !r.probeFitted) = false := by
    by_contra hcore
    simp only [Bool.not_eq_false, Bool.and_eq_true, List.any_eq_true, List.mem_filterMap, Bool.not_eq_true'] at hcore
    obtain ⟨⟨k, ⟨x, hx, hk⟩, hkind⟩, hfitted⟩ := hcore
    exact absurd (hkinds x hx k hk hkind) (by simp [hfitted])
  have hsteam : ((steps.filterMap (·.mode)).any (·.isSteam) && r.steamLocked) = false := by
    by_contra hlocked
    simp only [Bool.not_eq_false, Bool.and_eq_true, List.any_eq_true, List.mem_filterMap] at hlocked
    obtain ⟨⟨m, ⟨x, hx, hm⟩, hmode⟩, hlock⟩ := hlocked
    exact absurd ((hmodes x hx m hm).2 hmode) (by simp [hlock])
  rw [Rsq.stepRefusal, husable, hprobe, hsteam, hrinse]
  rfl

/-! ### The run context of a start, R123 -/

theorem Rsq.cookingNow_of_no_live {r : Rsq} (h : r.live = none) : r.cookingNow = none := by
  rw [Rsq.cookingNow, h]

/-- R123: the run context of a start, where no rinse is due. -/
theorem State.rsqStart_started_rsq {r : Rsq} (hrinse : r.rinse = false) (source : RunSource) (recipe count : Nat)
    (table : List StepEntry) (after : List Signal) (s : State) :
    let reasons : Reasons := ⟨r.doorTrip, r.pauseTrips.any, false, false, false⟩
    (s.rsqStart (r.started source recipe count table) after).rsq = { r with
      source := source, recipe := recipe, stepCount := count, table := table, index := 0, stepElapsed := 0,
      runElapsed := 0, pauseTimer := 0, grant := !r.steamLocked, reasons := reasons, live := none, startSlot := none,
      run := if reasons.any then .paused else .running, cooking := none } := by
  have hcooking : (r.started source recipe count table).cookingNow = none := Rsq.cookingNow_of_no_live rfl
  have hgrant : (!r.steamLocked && !r.rinse) = !r.steamLocked := by rw [hrinse]; exact Bool.and_true _
  rw [State.rsqStart, State.rsqTo_rsq, hcooking, Rsq.started, hgrant]
  rfl

/-- R123: the trips alone make a run start paused. -/
theorem Reasons.any_of_trips (door trip : Bool) : Reasons.any ⟨door, trip, false, false, false⟩ = (door || trip) := by
  simp [Reasons.any]

/-- R123: the events of a start, paused or not. -/
theorem State.rsqStart_started_evq (r : Rsq) (source : RunSource) (recipe count : Nat) (table : List StepEntry)
    (after : List Signal) (s : State) :
    let reasons : Reasons := ⟨r.doorTrip, r.pauseTrips.any, false, false, false⟩
    (s.rsqStart (r.started source recipe count table) after).evq =
      if reasons.any then
        (s.evq.append .runStarted source.slotNumber (word recipe)).append .runPaused reasons.code 0
      else s.evq.append .runStarted source.slotNumber (word recipe) := by
  intro reasons
  have hrun : (r.started source recipe count table).run = if reasons.any then .paused else .running := rfl
  rw [State.rsqStart, State.rsqTo_evq, State.postAll_evq, Rsq.startEvents, hrun]
  cases reasons.any <;> rfl

/-- R123, R124: a start delivers the grant, and what begins or asks for its first step. -/
theorem State.mem_rsqStart_bus {r : Rsq} {after : List Signal} {s : State} {sig : Signal}
    (h : sig = .sgcGrant r.grant ∨ sig ∈ after) : sig ∈ (s.rsqStart r after).bus := by
  refine State.mem_rsqTo_bus.mpr (.inr ?_)
  obtain rfl | h := h
  · exact .inl (List.mem_singleton.mpr rfl)
  · exact .inr (.inr (.inr (.inr h)))

/-! ### START_MANUAL, R122 -/

/-- A sound step has the end kind of its live copy. -/
theorem RawStep.endKind_of_toLive {r : RawStep} {l : LiveStep} (h : r.toLive = some l) : r.endKind = some l.endKind := by
  unfold RawStep.toLive at h
  split at h
  · next hkind => cases h; exact hkind
  · cases h

theorem EndKind.isCore_iff {k : EndKind} : k.isCore = true ↔ k = .core ∨ k = .timeOrCore := by
  cases k <;> simp [EndKind.isCore]

theorem State.takeStartManual_of_passed {s : State} {payload : List Byte} {step : RawStep} {l : LiveStep}
    (hstart : s.rsq.startRefusal = none) (hpayload : manualStep payload = some step)
    (hstep : s.rsq.stepRefusal [step] = none) (hlive : step.toLive = some l) : s.takeStartManual payload =
      (s.rsqStart (s.rsq.started .manual 0 1 []) [.rsqBegin step]).answer (if l.clamped then .clamped else .ok) [] := by
  unfold State.takeStartManual
  rw [hstart]
  dsimp only
  rw [hpayload]
  dsimp only
  rw [hstep, hlive]

/-- Settles O43: the tests passed, the run context and the deliveries of a start of one step. -/
theorem startManualStartsRun : Obligations.StartManualStartsRun := by
  intro source payload s step m l h hconfigured hlength hrun hdescale htrips hpayload hmode hlive husable hprobe hsteam
    hrinse
  let t := s.taken source (some 0x10) payload
  have hstep : t.rsq.stepRefusal [step] = none := by
    refine Rsq.stepRefusal_of_passed (fun x hx m' hm' => ?_) (fun x hx k hk hcore => ?_) hrinse
    · obtain rfl := List.mem_singleton.mp hx
      obtain rfl := Option.some.inj (hmode.symm.trans hm')
      exact ⟨husable, hsteam⟩
    · obtain rfl := List.mem_singleton.mp hx
      obtain rfl := Option.some.inj ((RawStep.endKind_of_toLive hlive).symm.trans hk)
      exact hprobe (EndKind.isCore_iff.mp hcore)
  have hshort : payload.length ≤ 15 := by
    have hrange : 6 ≤ payload.length ∧ payload.length ≤ 14 := by simpa [lengthAllowed, commandLength] using hlength
    omega
  have htake := State.takeStartManual_of_passed (s := t) (Rsq.startRefusal_of_passed hrun hdescale htrips) hpayload hstep
    hlive
  have hrsq := State.rsqStart_started_rsq (r := t.rsq) hrinse .manual 0 1 [] [.rsqBegin step] t
  have hevq := State.rsqStart_started_evq t.rsq .manual 0 1 [] [.rsqBegin step] t
  dsimp only at hrsq hevq
  rw [Reasons.any_of_trips] at hrsq hevq
  obtain ⟨hpanel, hframe⟩ := State.panel_rsq (k := 0x10) h hconfigured hlength hshort rfl htake
    ((State.rsqStart_block _ _ t).answer _ _)
  refine ⟨_, congrArg Host.Outcome.next hpanel, hframe, congrArg Rsq.source hrsq, congrArg Rsq.recipe hrsq,
    congrArg Rsq.stepCount hrsq, congrArg Rsq.index hrsq, congrArg Rsq.stepElapsed hrsq, congrArg Rsq.runElapsed hrsq,
    congrArg Rsq.grant hrsq, congrArg Rsq.reasons hrsq, congrArg Rsq.run hrsq, hevq, ?sgc, ?begins, ?answer⟩
  case sgc => exact State.mem_answer_bus.mpr (.inl (State.mem_rsqStart_bus (.inl rfl)))
  case begins => exact State.mem_answer_bus.mpr (.inl (State.mem_rsqStart_bus (.inr (List.mem_singleton.mpr rfl))))
  case answer => exact State.mem_answer_bus.mpr (.inr rfl)

/-! ### START_READ_COMPLETE, R121 -/

/-- R121: a start read served is taken, and what it delivers settles. -/
theorem State.followUp_startRead {s : State} {ws : List Word} (h : s.stc.readDone = some (.start ws)) :
    s.followUp .startReadComplete =
      ((s.setStc { s.stc with readDone := none }).rsqStartRead ws).settle settleFuel := by
  have hread : s.stc.startRead = some ws := by rw [Stc.startRead, h]
  have hdue : due .startReadComplete s = true := by rw [due, hread]; rfl
  rw [State.followUp, hdue, perform, hread]
  rfl

/-- R121: the run context of a recipe whose start read passed its tests, with its first step read pending. -/
def Rsq.startedFrom (r : Rsq) (slot recipe : Nat) (record : Record) : Rsq :=
  Rsq.started { r with readPending := true, phase := .entry } (.slot slot) recipe record.steps.length
    (record.steps.map (·.1))

section startRead

variable {s : State} {slot : Nat} {ws : List Word} {record : Record}

/-- R121, R124: a start read that passes its tests starts the run, with the read of its first step. -/
theorem State.rsqStartRead_of_passed (hslot : s.rsq.startSlot = some slot) (htrips : s.rsq.abortTrips.any = false)
    (hrecord : parseRecord (ws.drop 2) = some record)
    (hsteps : Rsq.stepRefusal { s.rsq with startSlot := none } (record.steps.map (·.2)) = none) :
    s.rsqStartRead ws = ((s.setRsq { s.rsq with startSlot := none }).rsqStart
      (s.rsq.startedFrom slot (ws.getD 1 0).toNat record)
      (s.rsq.startedFrom slot (ws.getD 1 0).toNat record).readSignals).answer .ok [] := by
  unfold State.rsqStartRead
  rw [hslot]
  dsimp only
  rw [State.setRsq_rsq, if_neg (by rw [htrips]; decide), hrecord]
  dsimp only
  rw [hsteps]
  rfl

theorem Rsq.stepRefusal_of_record {r : Rsq}
    (hmodes : ∀ x ∈ record.steps, ∀ m, x.2.mode = some m →
      r.usable m = true ∧ (m.isSteam = true → r.steamLocked = false))
    (hkinds : ∀ x ∈ record.steps, ∀ k, x.2.endKind = some k → k.isCore = true → r.probeFitted = true)
    (hrinse : r.rinse = false) : r.stepRefusal (record.steps.map (·.2)) = none := by
  refine Rsq.stepRefusal_of_passed (fun step hstep m hm => ?_) (fun step hstep k hk hcore => ?_) hrinse
  · obtain ⟨x, hx, rfl⟩ := List.mem_map.mp hstep
    exact hmodes x hx m hm
  · obtain ⟨x, hx, rfl⟩ := List.mem_map.mp hstep
    exact hkinds x hx k hk hcore

/-- R124: the first step's words are asked for. -/
theorem Rsq.startedFrom_reads {r : Rsq} {recipe : Nat} {e : StepEntry} (h : (record.steps.map (·.1))[0]? = some e) :
    Signal.stcRequest (.stepRead slot e.offset e.length) ∈ (r.startedFrom slot recipe record).readSignals := by
  have hentry : (r.startedFrom slot recipe record).table[(r.startedFrom slot recipe record).index]? = some e := h
  have hsource : (r.startedFrom slot recipe record).source = .slot slot := rfl
  rw [Rsq.readSignals, hsource, hentry]
  exact List.mem_singleton.mpr rfl

end startRead

/-- Settles O34: the tests passed again, the run context, and the deliveries of a start from the store. -/
theorem startReadStartsRun : Obligations.StartReadStartsRun := by
  intro s slot ws record hbus hread hslot htrips hrecord hmodes hkinds hrinse
  let t := s.setStc { s.stc with readDone := none }
  let r := s.rsq.startedFrom slot (ws.getD 1 0).toNat record
  let u := (t.setRsq { s.rsq with startSlot := none }).rsqStart r r.readSignals
  have hstarts : t.rsqStartRead ws = u.answer .ok [] := State.rsqStartRead_of_passed hslot htrips hrecord
    (Rsq.stepRefusal_of_record (r := { s.rsq with startSlot := none }) hmodes hkinds hrinse)
  have hrsq := State.rsqStart_started_rsq (r := { s.rsq with readPending := true, phase := .entry }) hrinse (.slot slot)
    (ws.getD 1 0).toNat record.steps.length (record.steps.map (·.1)) r.readSignals
    (t.setRsq { s.rsq with startSlot := none })
  have hevq := State.rsqStart_started_evq { s.rsq with readPending := true, phase := .entry } (.slot slot)
    (ws.getD 1 0).toNat record.steps.length (record.steps.map (·.1)) r.readSignals
    (t.setRsq { s.rsq with startSlot := none })
  have hframe := (State.rsqStartRead_block ws t).rsq_eq
  rw [hstarts] at hframe
  have hbegins {sig : Signal} (hsig : sig = .sgcGrant r.grant ∨ sig ∈ r.readSignals) : sig ∈ (u.answer .ok []).bus :=
    State.mem_answer_bus.mpr (.inl (State.mem_rsqStart_bus hsig))
  refine ⟨u.answer .ok [], congrArg Host.Outcome.next ((State.followUp_startRead hread).trans (congrArg _ hstarts)),
    hframe, ⟨hrsq, ?evq⟩, hbegins (.inl rfl), State.mem_answer_bus.mpr (.inr rfl), fun e he => ?reads⟩
  case evq =>
    have hrecipe : (u.answer .ok []).rsq.recipe = (ws.getD 1 0).toNat := congrArg Rsq.recipe hrsq
    rw [hrecipe]
    exact hevq
  case reads =>
    have htable : (u.answer .ok []).rsq.table = record.steps.map (·.1) := congrArg Rsq.table hrsq
    rw [htable] at he
    exact hbegins (.inr (Rsq.startedFrom_reads he))

/-! ### RUN_RECIPE, R121 and R142 -/

/-- With the cooking request and the run state kept, the RSQ delivers what it is given and no more. -/
theorem State.rsqTo_of_same {s : State} {r : Rsq} (hbus : s.bus = []) (hcooking : r.cookingNow = s.rsq.cooking)
    (hrun : r.run = s.rsq.run) (before mid after : List Signal) : s.rsqTo r before mid after =
      { s with rsq := { r with cooking := s.rsq.cooking }, bus := Signal.inOrder (before ++ mid ++ after) } := by
  have hruns : Rsq.runSignals s.rsq { r with cooking := s.rsq.cooking } = [] := if_pos hrun.symm
  have hcookings : Rsq.cookingSignals s.rsq { r with cooking := s.rsq.cooking } = [] := by
    simp [Rsq.cookingSignals, sigIf]
  rw [State.rsqTo, hcooking, hruns, hcookings, List.append_nil, List.append_nil, State.emit_of_bus (by exact hbus)]
  rfl

theorem Stc.slot_valid_iff {t : Stc} {slot : Nat} :
    (t.table[slot - 1]? == some .valid) = true ↔ t.slotState slot = .valid := by
  rw [beq_iff_eq, Stc.slotState, List.getD_eq_getElem?_getD]
  cases t.table[slot - 1]? <;> simp

theorem State.takeRunRecipe_of_valid {s : State} {slot : Byte} (hstart : s.rsq.startRefusal = none)
    (hlo : 1 ≤ slot.toNat) (hhi : slot.toNat ≤ 24) (hvalid : s.stc.slotState slot.toNat = .valid) :
    s.takeRunRecipe [slot] =
      s.rsqTo { s.rsq with startSlot := some slot.toNat } [] [] [.stcRequest (.startRead slot.toNat)] := by
  unfold State.takeRunRecipe
  rw [hstart]
  refine if_pos ?_
  rw [Bool.and_eq_true, Bool.and_eq_true]
  exact ⟨⟨decide_eq_true hlo, decide_eq_true hhi⟩, Stc.slot_valid_iff.mpr hvalid⟩

theorem State.takeRunRecipe_of_bad_slot {s : State} {slot : Byte} (hstart : s.rsq.startRefusal = none)
    (hbad : slot.toNat = 0 ∨ 24 < slot.toNat ∨ s.stc.slotState slot.toNat ≠ .valid) :
    s.takeRunRecipe [slot] = s.refuse .badField := by
  unfold State.takeRunRecipe
  rw [hstart]
  refine if_neg fun h => ?_
  rw [Bool.and_eq_true, Bool.and_eq_true] at h
  obtain ⟨⟨hlo, hhi⟩, hvalid⟩ := h
  have hlo := of_decide_eq_true hlo
  have hhi := of_decide_eq_true hhi
  rw [List.headD_cons] at hlo hhi
  obtain hzero | habove | hnot := hbad
  · omega
  · omega
  · exact hnot (Stc.slot_valid_iff.mp hvalid)

theorem Mem.sector_eq (m : List MemCell) (sector n : Nat) : Mem.sector m sector n = sectorWords m sector 0 n := by
  simp [Mem.sector, sectorWords]

/-- R142: a start read that a free store serves at its arrival. -/
theorem State.settle_startRead {s : State} (hfree : s.stc.free = true) {slot : Nat}
    (hbus : s.bus = [.stcRequest (.startRead slot)]) (n : Nat) : s.settle (n + 1) = { s with
      bus := []
      stc := { s.stc with readDone := some (.start (sectorWords s.stc.mem slot 0 128)) } } := by
  rw [State.settle_cons hbus, handle, State.stcRequest_of_free (by exact hfree), State.serve, Mem.sector_eq]
  exact State.settle_nil rfl n

/-- Settles O44: the start read is served at once, or the slot is refused. -/
theorem runRecipeReadsRecord : Obligations.RunRecipeReadsRecord := by
  intro source slot s h hconfigured hrun hdescale htrips hfresh hfree htable
  let t := s.taken source (some 0x11) [slot]
  have hstart : t.rsq.startRefusal = none := Rsq.startRefusal_of_passed hrun hdescale htrips
  refine ⟨fun ⟨hlo, hhi, hvalid⟩ => ?reads, fun hbad => ?refused⟩
  case reads =>
    have hcooking : Rsq.cookingNow { t.rsq with startSlot := some slot.toNat } = t.rsq.cooking :=
      Eq.symm (State.fresh_iff.mp hfresh .rsq)
    have htake := (State.takeRunRecipe_of_valid hstart hlo hhi hvalid).trans
      (State.rsqTo_of_same (s := t) (r := { t.rsq with startSlot := some slot.toNat }) (State.bus_taken h _ _) hcooking rfl
        [] [] _)
    refine congrArg Host.Outcome.next ((State.panel_takes (k := 0x11) (payload := [slot]) h rfl (by simp) rfl
      (.inl hconfigured) htake).trans ?_)
    refine (State.settle_startRead (by exact hfree) rfl 4094).trans ?_
    rw [← (State.listens_iff.mp h).bus]
    rfl
  case refused =>
    exact congrArg Host.Outcome.next (State.panel_answers (k := 0x11) (payload := [slot]) h rfl (by simp) rfl
      (.inl hconfigured) (State.takeRunRecipe_of_bad_slot hstart hbad))

end Sys2Proof.Machine
end

section
/-! A step begun, and its phases (R124 to R132): STEP_READ_COMPLETE, the ENTRY decision, PREHEAT, and the end of an ACTIVE
step at its core temperature. -/

namespace Sys2Proof.Machine

/-! ### STEP_READ_COMPLETE, R124 and R125 -/

section stepRead

variable {s : State} {ws rest : List Word} {step : RawStep} {l : LiveStep}

/-- R124: a step read served is taken, and what it delivers settles. -/
theorem State.followUp_stepRead (h : s.stc.readDone = some (.step ws)) : s.followUp .stepReadComplete =
    ((s.setStc { s.stc with readDone := none }).rsqStepRead ws).settle settleFuel := by
  have hread : s.stc.stepRead = some ws := by rw [Stc.stepRead, h]
  have hdue : due .stepReadComplete s = true := by rw [due, hread]; rfl
  rw [State.followUp, hdue, perform, hread]
  rfl

/-- R125: the live copy of a live run's step, and what it delivers. -/
theorem State.rsqBegin_of_live (hrun : s.rsq.run.live = true) (hlive : step.toLive = some l) : s.rsqBegin step =
    s.rsqTo { s.rsq with live := some l, stepElapsed := 0, readPending := false, phase := .entry } [.clcStep l]
      [.lsuFloorClass l.floor (if l.hold then 2 else 1)] [.rsqBegun] := by
  unfold State.rsqBegin
  rw [hlive]
  exact if_pos hrun

theorem State.rsqStepRead_of_pending (hrun : s.rsq.run.live = true) (hread : s.rsq.readPending = true)
    (hparse : parseStep ws = some (step, rest)) : s.rsqStepRead ws = s.rsqBegin step := by
  unfold State.rsqStepRead
  rw [hrun, hread, hparse]
  rfl

theorem State.rsqStepRead_of_no_run (hrun : s.rsq.run = .idle ∨ s.rsq.run = .finishing) : s.rsqStepRead ws = s := by
  have hlive : s.rsq.run.live = false := by obtain h | h := hrun <;> rw [h] <;> rfl
  unfold State.rsqStepRead
  rw [hlive]
  rfl

end stepRead

/-! ### How a step goes on, R126 to R130 -/

/-- R129: the core reading is at the target of a core-type step. -/
def LiveStep.ReachedBy (l : LiveStep) (core : Option Int) : Prop :=
  (l.endKind = .core ∨ l.endKind = .timeOrCore) ∧ ∃ c, core = some c ∧ l.core ≤ c

/-- R130: from the context `r` and the events `q`, the step has ended: the next one's read is pending, or the run is over. -/
def Rsq.StepEnds (r : Rsq) (q : Evq) (t : State) : Prop :=
  (r.index + 1 < r.stepCount → t.rsq.index = r.index + 1 ∧ t.rsq.readPending = true ∧ t.rsq.phase = .entry ∧ t.evq = q ∧
    ∀ slot e, r.source = .slot slot → r.table[r.index + 1]? = some e →
      Signal.stcRequest (.stepRead slot e.offset e.length) ∈ t.bus) ∧
  (r.stepCount ≤ r.index + 1 →
    t.rsq.run = .finishing ∧ t.evq = q.append .runEnded 0 (word (r.runElapsed / 1000)))

/-- R126, cases 3 and 4, and R129: the step waits at its prompt, is ACTIVE, or ends there. -/
def Rsq.GoesOn (r : Rsq) (l : LiveStep) (run : RunState) (q : Evq) (t : State) : Prop :=
  (l.prompt ≠ 0 → t.rsq.phase = .waitConfirm ∧ t.rsq.run = run ∧ t.rsq.index = r.index ∧
    t.evq = q.append .prompt l.prompt (word (256 + r.index))) ∧
  (l.prompt = 0 → ¬(run = .running ∧ l.ReachedBy r.core) →
    t.rsq.phase = .active ∧ t.rsq.run = run ∧ t.rsq.index = r.index ∧ t.evq = q) ∧
  (l.prompt = 0 → run = .running → l.ReachedBy r.core → r.StepEnds q t)

section phases

variable {s : State} {l : LiveStep}

theorem Rsq.coreReached_iff {r : Rsq} (hlive : r.live = some l) : r.coreReached = true ↔ l.ReachedBy r.core := by
  unfold Rsq.coreReached LiveStep.ReachedBy
  rw [hlive]
  cases r.core with
  | none => simp
  | some c => simp [EndKind.isCore_iff]

theorem State.rsqStepEnd_ends (s : State) : s.rsq.StepEnds s.evq s.rsqStepEnd := by
  refine ⟨fun hnext => ?_, fun hlast => ?_⟩
  · rw [State.rsqStepEnd_rsq hnext]
    exact ⟨rfl, rfl, rfl, State.rsqStepEnd_evq hnext, fun _ _ => State.rsqStepEnd_reads hnext⟩
  · rw [State.rsqStepEnd_of_last hlast]
    exact ⟨rfl, rfl⟩

theorem State.rsqPromptOrActive_goesOn (hlive : s.rsq.live = some l) :
    s.rsq.GoesOn l s.rsq.run s.evq (s.rsqPromptOrActive l) := by
  let t := s.rsqTo { s.rsq with phase := .active } [] [] []
  have hreached : t.rsq.coreReached = true ↔ l.ReachedBy s.rsq.core := Rsq.coreReached_iff (r := t.rsq) hlive
  refine ⟨fun hprompt => ?_, fun hprompt hnot => ?_, fun hprompt hrun hcore => ?_⟩
  · rw [State.rsqPromptOrActive, if_neg hprompt]
    exact ⟨rfl, rfl, rfl, rfl⟩
  · have hstays : s.rsqActive = t := if_neg (by
      rw [Bool.and_eq_true, decide_eq_true_eq, hreached]
      exact hnot)
    rw [State.rsqPromptOrActive, if_pos hprompt, hstays]
    exact ⟨rfl, rfl, rfl, rfl⟩
  · have hends : s.rsqActive = t.rsqStepEnd := if_pos (by
      rw [Bool.and_eq_true, decide_eq_true_eq, hreached]
      exact ⟨hrun, hcore⟩)
    rw [State.rsqPromptOrActive, if_pos hprompt, hends]
    exact t.rsqStepEnd_ends

/-- R127: preheat is reached in a RUNNING run. -/
theorem State.rsqPreheatTest_goesOn (hlive : s.rsq.live = some l) (hphase : s.rsq.phase = .preheat)
    (hrun : s.rsq.run = .running) (hpreheat : s.rsq.preheat = true) :
    s.rsq.GoesOn l .running (s.evq.append .preheatReached s.rsq.index (wordOfInt s.clc.temp)) s.rsqPreheatTest := by
  have htest : s.rsqPreheatTest =
      (s.post .preheatReached s.rsq.index (wordOfInt s.clc.temp)).rsqPromptOrActive l := by
    rw [State.rsqPreheatTest, hlive]
    exact if_pos (by simp [hphase, hrun, hpreheat])
  rw [htest, ← hrun]
  exact State.rsqPromptOrActive_goesOn (s := s.post _ _ _) hlive

/-- R127: without the condition, or in a PAUSED run, preheat is not reached. -/
theorem State.rsqPreheatTest_waits (h : s.rsq.run = .paused ∨ s.rsq.preheat = false) : s.rsqPreheatTest = s := by
  unfold State.rsqPreheatTest
  split
  · refine if_neg ?_
    obtain h | h := h <;> simp [h]
  · rfl

/-! ### The step begun, R125 and R126 -/

/-- R125: PROBE leaves the set of a step that is not core-type. -/
def State.probeLeft (l : LiveStep) (s : State) : State :=
  if l.endKind.isCore then s else s.rsqReasons { s.rsq.reasons with probe := false }

/-- R125: the pause-reason set of a step begun. -/
def Rsq.beginReasons (r : Rsq) (l : LiveStep) : Reasons :=
  if l.endKind.isCore then r.reasons else { r.reasons with probe := false }

/-- R132: the run goes on as the step begins. -/
def Rsq.beginResumes (r : Rsq) (l : LiveStep) : Bool := r.reasons.any && !(r.beginReasons l).any

theorem Reasons.any_of_without_probe {r : Reasons} (h : r.any = false) : Reasons.any { r with probe := false } = false := by
  simp_all [Reasons.any]

theorem State.probeLeft_eq (hrun : s.rsq.run.live = true) :
    (s.probeLeft l).rsq = { s.rsq with
      reasons := s.rsq.beginReasons l, run := if s.rsq.beginResumes l then .running else s.rsq.run
      pauseTimer := (s.probeLeft l).rsq.pauseTimer, cooking := (s.probeLeft l).rsq.cooking } ∧
    (s.probeLeft l).evq = if s.rsq.beginResumes l then
      s.evq.append .runResumed s.rsq.reasons.code (word (s.rsq.pauseTimer / 1000)) else s.evq := by
  unfold Rsq.beginResumes
  cases hkind : l.endKind.isCore with
  | true =>
    have hset : s.rsq.beginReasons l = s.rsq.reasons := if_pos hkind
    have hleft : s.probeLeft l = s := if_pos hkind
    rw [hset, hleft, Bool.and_not_self]
    exact ⟨rfl, rfl⟩
  | false =>
    have hset : s.rsq.beginReasons l = { s.rsq.reasons with probe := false } := if_neg (by simp [hkind])
    have hleft : s.probeLeft l = s.rsqReasons { s.rsq.reasons with probe := false } := if_neg (by simp [hkind])
    rw [hset, hleft]
    cases hold : s.rsq.reasons.any with
    | false =>
      rw [State.rsqReasons_keeps hrun ((Reasons.any_of_without_probe hold).trans hold.symm)]
      exact ⟨rfl, rfl⟩
    | true =>
      cases hnew : Reasons.any { s.rsq.reasons with probe := false } with
      | false =>
        rw [State.rsqReasons_resumes hrun hold hnew]
        exact ⟨rfl, rfl⟩
      | true =>
        rw [State.rsqReasons_keeps hrun (hnew.trans hold.symm)]
        exact ⟨rfl, rfl⟩

/-- R125: the step begun, before its ENTRY decision. -/
def State.begun (l : LiveStep) (s : State) : State :=
  (s.probeLeft l).post .stepBegun (s.probeLeft l).rsq.index (if l.clamped then 1 else 0)

/-- R125: the events of a step begun. -/
def State.begunEvents (l : LiveStep) (s : State) : Evq :=
  (if s.rsq.beginResumes l then s.evq.append .runResumed s.rsq.reasons.code (word (s.rsq.pauseTimer / 1000))
    else s.evq).append .stepBegun s.rsq.index (if l.clamped then 1 else 0)

theorem State.begun_rsq (hrun : s.rsq.run.live = true) : (s.begun l).rsq = { s.rsq with
    reasons := s.rsq.beginReasons l, run := if s.rsq.beginResumes l then .running else s.rsq.run
    pauseTimer := (s.begun l).rsq.pauseTimer, cooking := (s.begun l).rsq.cooking } := (State.probeLeft_eq hrun).1

theorem State.begun_evq (hrun : s.rsq.run.live = true) : (s.begun l).evq = s.begunEvents l := by
  obtain ⟨hrsq, hevq⟩ := State.probeLeft_eq (l := l) hrun
  have hindex : (s.probeLeft l).rsq.index = s.rsq.index := by rw [hrsq]
  rw [State.begun, State.post_evq, hevq, hindex]
  rfl

theorem State.begun_clc (l : LiveStep) (s : State) : (s.begun l).clc = s.clc := by
  rw [State.begun, State.post_clc, State.probeLeft]
  split
  · rfl
  · exact (State.rsqReasons_block _ s).clc nofun

/-- How the step goes on from there is how it goes on from the context before. -/
theorem State.goesOn_of_begun (hrun : s.rsq.run.live = true) {run : RunState} {q : Evq} {t : State}
    (h : (s.begun l).rsq.GoesOn l run q t) : s.rsq.GoesOn l run q t := by
  rw [State.begun_rsq hrun] at h
  exact h

theorem State.rsqBegun_of_entry (hlive : s.rsq.live = some l) (hrun : s.rsq.run.live = true)
    (hphase : s.rsq.phase = .entry) : s.rsqBegun = (s.begun l).rsqEnter l := by
  unfold State.rsqBegun
  rw [hlive]
  exact if_neg (by simp [hrun, hphase])

/-- R126 case 1, R131, R132: PROBE joins the set, and the run waits for the probe. -/
theorem State.rsqProbePrompt_eq (hrun : s.rsq.run.live = true) :
    s.rsqProbePrompt.rsq = { s.rsq with
      reasons := { s.rsq.reasons with probe := true }, cooking := s.rsqProbePrompt.rsq.cooking
      run := if s.rsq.reasons.any then s.rsq.run else .paused
      pauseTimer := if s.rsq.reasons.any then s.rsq.pauseTimer else 0 } ∧
    s.rsqProbePrompt.evq = if s.rsq.reasons.any then s.evq.append .prompt 10 (word (512 + s.rsq.index))
      else (s.evq.append .prompt 10 (word (512 + s.rsq.index))).append .runPaused
        (Reasons.code { s.rsq.reasons with probe := true }) (word s.rsq.index) := by
  have hnew : Reasons.any { s.rsq.reasons with probe := true } = true := by simp [Reasons.any]
  let t := s.post .prompt 10 (word (512 + s.rsq.index))
  have hprompt : s.rsqProbePrompt = t.rsqReasons { s.rsq.reasons with probe := true } := rfl
  rw [hprompt]
  cases hold : s.rsq.reasons.any with
  | false =>
    rw [State.rsqReasons_pauses (s := t) hrun hold hnew]
    exact ⟨rfl, rfl⟩
  | true =>
    rw [State.rsqReasons_keeps (s := t) hrun (hnew.trans hold.symm)]
    exact ⟨rfl, rfl⟩

/-- R126 case 1: a core-type step without its probe. -/
theorem State.rsqBegun_of_no_probe (hlive : s.rsq.live = some l) (hrun : s.rsq.run.live = true)
    (hphase : s.rsq.phase = .entry) (hcore : l.endKind.isCore = true) (hprobe : s.rsq.probe = false) :
    s.rsqBegun = (s.begun l).rsqProbePrompt ∧ (s.begun l).rsq = s.rsq := by
  have hrsq : (s.begun l).rsq = s.rsq := by rw [State.begun, State.post_rsq, State.probeLeft, if_pos hcore]
  refine ⟨?_, hrsq⟩
  rw [State.rsqBegun_of_entry hlive hrun hphase, State.rsqEnter, hrsq, hcore, hprobe]
  rfl

/-- R126, from case 2 on. -/
theorem State.rsqBegun_of_probe (hlive : s.rsq.live = some l) (hrun : s.rsq.run.live = true)
    (hphase : s.rsq.phase = .entry) (h : l.endKind.isCore = false ∨ s.rsq.probe = true) :
    s.rsqBegun = (s.begun l).rsqDecide l := by
  have hprobe : (s.begun l).rsq.probe = s.rsq.probe := by rw [State.begun_rsq hrun]
  rw [State.rsqBegun_of_entry hlive hrun hphase, State.rsqEnter, hprobe]
  refine if_neg ?_
  obtain h | h := h <;> simp [h]

/-- R126 case 2: the step waits in PREHEAT. -/
theorem State.rsqDecide_waits (hpreheat : l.preheat = true) (h : s.rsq.run = .paused ∨ s.rsq.preheat = false) :
    s.rsqDecide l = s.rsqTo { s.rsq with phase := .preheat } [] [] [] := by
  rw [State.rsqDecide, if_pos hpreheat]
  exact State.rsqPreheatTest_waits (s := s.rsqTo { s.rsq with phase := .preheat } [] [] []) h

/-- R126 case 2, R127: the condition stands already. -/
theorem State.rsqDecide_preheated (hlive : s.rsq.live = some l) (hpreheat : l.preheat = true)
    (hrun : s.rsq.run = .running) (hcondition : s.rsq.preheat = true) :
    s.rsq.GoesOn l .running (s.evq.append .preheatReached s.rsq.index (wordOfInt s.clc.temp)) (s.rsqDecide l) := by
  rw [State.rsqDecide, if_pos hpreheat]
  exact State.rsqPreheatTest_goesOn (s := s.rsqTo { s.rsq with phase := .preheat } [] [] []) hlive rfl hrun hcondition

/-- R126, cases 3 and 4. -/
theorem State.rsqDecide_goesOn (hlive : s.rsq.live = some l) (hpreheat : l.preheat = false) :
    s.rsq.GoesOn l s.rsq.run s.evq (s.rsqDecide l) := by
  rw [State.rsqDecide, if_neg (by simp [hpreheat])]
  exact State.rsqPromptOrActive_goesOn hlive

/-! ### The return to RUNNING, R132 -/

/-- R127: at the return to RUNNING, the preheat condition is tested. -/
theorem State.rsqResumed_of_not_active (hrun : s.rsq.run = .running) (hread : s.rsq.readPending = false)
    (hphase : s.rsq.phase ≠ .active) : s.rsqResumed = s.rsqPreheatTest := by
  rw [State.rsqResumed, hrun, hread]
  exact if_neg hphase

/-- R129: at the return to RUNNING, a core reading at the target ends an ACTIVE step. -/
theorem State.rsqResumed_of_reached (hrun : s.rsq.run = .running) (hread : s.rsq.readPending = false)
    (hphase : s.rsq.phase = .active) (hcore : s.rsq.coreReached = true) : s.rsqResumed = s.rsqStepEnd := by
  rw [State.rsqResumed, hrun, hread, hphase, hcore]
  rfl

end phases

/-- R124, R125: the first part of `Obligations.StepReadBeginsStep`. -/
theorem State.exec_stepReadComplete {s : State} {ws rest : List Word} {step : RawStep} {l : LiveStep} (hbus : s.bus = [])
    (hdone : s.stc.readDone = some (.step ws)) (hparse : parseStep ws = some (step, rest))
    (hlive : step.toLive = some l) :
    ((s.rsq.run = .running ∨ s.rsq.run = .paused) ∧ s.rsq.readPending = true →
      ∃ u : State, exec .stepReadComplete s = .next (u.settle settleFuel) ∧
        u = { s with stc := { s.stc with readDone := none }, rsq := u.rsq, bus := u.bus } ∧
        u.rsq = { s.rsq with
          live := some l, stepElapsed := 0, readPending := false, phase := .entry, cooking := u.rsq.cooking } ∧
        Signal.clcStep l ∈ u.bus ∧ Signal.lsuFloorClass l.floor (if l.hold then 2 else 1) ∈ u.bus ∧
        (u.rsq.cooking ≠ s.rsq.cooking → Signal.sgcCooking u.rsq.cooking ∈ u.bus) ∧ Signal.rsqBegun ∈ u.bus) ∧
    (s.rsq.run = .idle ∨ s.rsq.run = .finishing →
      exec .stepReadComplete s = .next { s with stc := { s.stc with readDone := none } }) := by
  let t := s.setStc { s.stc with readDone := none }
  have hexec : exec .stepReadComplete s = .next ((t.rsqStepRead ws).settle settleFuel) :=
    congrArg Host.Outcome.next (State.followUp_stepRead hdone)
  rw [hexec]
  refine ⟨fun ⟨hrun, hread⟩ => ?begins, fun hrun => ?discarded⟩
  case begins =>
    have hbegins : t.rsqStepRead ws = t.rsqTo
        { t.rsq with live := some l, stepElapsed := 0, readPending := false, phase := .entry } [.clcStep l]
        [.lsuFloorClass l.floor (if l.hold then 2 else 1)] [.rsqBegun] :=
      (State.rsqStepRead_of_pending (s := t) (RunState.live_iff.mpr hrun) hread hparse).trans
        (State.rsqBegin_of_live (s := t) (RunState.live_iff.mpr hrun) hlive)
    rw [hbegins]
    refine ⟨_, rfl, rfl, rfl, ?_, ?_, fun hcooking => ?_, ?_⟩ <;> refine State.mem_rsqTo_bus.mpr (.inr ?_)
    · exact .inl (List.mem_singleton.mpr rfl)
    · exact .inr (.inr (.inl (List.mem_singleton.mpr rfl)))
    · exact .inr (.inl (Rsq.cooking_mem_cookingSignals (old := t.rsq) (Ne.symm hcooking)))
    · exact .inr (.inr (.inr (.inr (List.mem_singleton.mpr rfl))))
  case discarded =>
    rw [State.rsqStepRead_of_no_run (s := t) hrun, State.settle_nil (s := t) hbus]
    rfl

/-- Settles O35: the step read; then the step begun, in PREHEAT and ACTIVE, case by case as its end kind, its preheat mark
and its prompt have it. -/
theorem stepReadBeginsStep : Obligations.StepReadBeginsStep := by
  refine ⟨fun s ws rest step l hbus hdone hparse hlive => State.exec_stepReadComplete hbus hdone hparse hlive, ?_⟩
  intro s l hrun hlive hread i core reached stepEnds goesOn preheated
  have hrunLive := RunState.live_iff.mpr hrun
  have hcore : l.endKind.isCore = true ↔ core := EndKind.isCore_iff
  refine ⟨fun hphase => ?entry, fun hphase => ?preheat, fun hphase => ?active⟩
  case entry =>
    intro t set resumes run begun
    have hrsq := State.begun_rsq (l := l) hrunLive
    have hevq : (s.begun l).evq = begun := State.begun_evq (l := l) hrunLive
    have hruns : (s.begun l).rsq.run = run := by rw [hrsq]; rfl
    have hbegunLive : (s.begun l).rsq.live = some l := by rw [hrsq]; exact hlive
    have hcondition : (s.begun l).rsq.preheat = s.rsq.preheat := by rw [hrsq]
    have hindex : (s.begun l).rsq.index = s.rsq.index := by rw [hrsq]
    refine ⟨(State.rsqBegun_block s).rsq_eq, fun hc hprobe => ?noProbe, fun hc => ?probe⟩
    case noProbe =>
      obtain ⟨hprompt, hsame⟩ := State.rsqBegun_of_no_probe hlive hrunLive hphase (hcore.mpr hc) hprobe
      have hasks := State.rsqProbePrompt_eq (s := s.begun l) (by rw [hsame]; exact hrunLive)
      rw [hsame, hevq, ← hprompt] at hasks
      exact hasks
    case probe =>
      have hdecides : t = (s.begun l).rsqDecide l := State.rsqBegun_of_probe hlive hrunLive hphase
        (hc.imp (fun h => by simpa using hcore.not.mpr h) id)
      rw [hdecides]
      refine ⟨fun hpreheat hwaits => ?waits, fun hpreheat hrunning hpreheated => ?reached, fun hpreheat => ?goes⟩
      case waits =>
        rw [State.rsqDecide_waits hpreheat (hwaits.imp hruns.trans hcondition.trans)]
        exact ⟨rfl, hruns, by rw [State.rsqTo_rsq, hrsq]; rfl, hevq⟩
      case reached =>
        have hgoes := State.rsqDecide_preheated hbegunLive hpreheat (hruns.trans hrunning) (hcondition.trans hpreheated)
        rw [hevq, hindex, State.begun_clc, ← hrunning] at hgoes
        exact State.goesOn_of_begun hrunLive hgoes
      case goes =>
        have hgoes := State.rsqDecide_goesOn hbegunLive hpreheat
        rw [hevq, hruns] at hgoes
        exact State.goesOn_of_begun hrunLive hgoes
  case preheat =>
    refine ⟨fun hrunning => ?comes, fun hrunning hcondition => ?resumed, fun hrunning hcondition => ?waits,
      fun hpaused => ?paused⟩
    case comes =>
      exact State.rsqPreheatTest_goesOn (s := s.rsqTo { s.rsq with preheat := true } [] [] []) hlive hphase hrunning rfl
    case resumed =>
      have htest := State.rsqResumed_of_not_active hrunning hread (by rw [hphase]; decide)
      rw [handle, htest]
      exact State.rsqPreheatTest_goesOn hlive hphase hrunning hcondition
    case waits =>
      have htest := State.rsqResumed_of_not_active hrunning hread (by rw [hphase]; decide)
      rw [handle, htest]
      exact State.rsqPreheatTest_waits (.inr hcondition)
    case paused =>
      have hwaits := State.rsqPreheatTest_waits (s := s.rsqTo { s.rsq with preheat := true } [] [] []) (.inl hpaused)
      rw [handle, State.rsqPreheat, hwaits]
      exact ⟨hphase, rfl⟩
  case active =>
    refine ⟨fun hrunning hreached => ?resumed, fun c hrunning hc htarget => ?comes, fun c hnot => ?stays⟩
    case resumed =>
      rw [handle, State.rsqResumed_of_reached hrunning hread hphase ((Rsq.coreReached_iff hlive).mpr hreached)]
      exact s.rsqStepEnd_ends
    case comes =>
      let t := s.rsqTo { s.rsq with core := some c } [] [] []
      have hreached : t.rsq.coreReached = true := (Rsq.coreReached_iff (r := t.rsq) hlive).mpr ⟨hc, c, rfl, htarget⟩
      have hends : handle (.rsqCore (some c)) s = t.rsqStepEnd := if_pos (by
        rw [Bool.and_eq_true, Bool.and_eq_true]
        exact ⟨⟨decide_eq_true hrunning, decide_eq_true hphase⟩, hreached⟩)
      rw [hends]
      exact t.rsqStepEnd_ends
    case stays =>
      let t := s.rsqTo { s.rsq with core := some c } [] [] []
      have hstays : handle (.rsqCore (some c)) s = t := if_neg (by
        rw [Bool.and_eq_true, Bool.and_eq_true, Rsq.coreReached_iff (r := t.rsq) hlive]
        rintro ⟨⟨hrunning, -⟩, hc, d, hd, htarget⟩
        obtain rfl := Option.some.inj hd
        obtain hpaused | hno | hbelow := hnot
        · exact absurd ((of_decide_eq_true hrunning).symm.trans hpaused) (by decide)
        · exact hno hc
        · omega)
      rw [hstays]
      exact ⟨rfl, rfl⟩

end Sys2Proof.Machine
end

section
/-! The STATUS frame (R118, R189, R190, Table 10-5): when the STATUS slot is filled, and what each byte says. -/

namespace Sys2Proof.Machine

/-! ### The STATUS slot, R190 -/

/-- R190: the frame built stands in the STATUS slot, but on a line that discards it. -/
theorem State.settle_fillStatus {s : State} (hbus : s.bus = []) (n : Nat) : s.fillStatus.settle (n + 1) = { s with
    cmh := { s.cmh with statusTimer := 1000, intervalTimer := some 200, changeHeld := false }
    slc := { s.slc with
      statusSlot := if s.slc.line = .lineFault ∨ s.slc.line = .silenced then s.slc.statusSlot
        else some s.statusPayload } } := by
  let t := s.setCmh { s.cmh with statusTimer := 1000, intervalTimer := some 200, changeHeld := false }
  have hfill : s.fillStatus = { t with bus := [.slcStatus s.statusPayload] } := State.emit_of_bus (s := t) hbus _
  have ht : ({ t with bus := [] } : State) = t := by rw [← hbus]; rfl
  have hdiscards : t.slc.discards = true ↔ s.slc.line = .lineFault ∨ s.slc.line = .silenced := by
    rw [Slc.discards, Bool.or_eq_true, beq_iff_eq, beq_iff_eq]
    rfl
  rw [hfill, State.settle_cons rfl]
  dsimp only
  rw [ht, handle, State.slcStatus]
  split
  · next h =>
    rw [State.settle_nil (s := t) hbus, if_pos (hdiscards.mp h)]
    rfl
  · next h =>
    rw [State.settle_nil (by exact hbus), if_neg (hdiscards.not.mp h)]
    rfl

theorem State.statusInterval_of_held {s : State} (htimer : s.cmh.intervalTimer.isSome = true)
    (hheld : s.cmh.changeHeld = true) : s.statusInterval = s.fillStatus := by
  rw [State.statusInterval, if_pos htimer]
  exact if_pos hheld

theorem State.statusInterval_of_none_held {s : State} (htimer : s.cmh.intervalTimer.isSome = true)
    (hheld : s.cmh.changeHeld = false) : s.statusInterval = s.setCmh { s.cmh with intervalTimer := none } := by
  rw [State.statusInterval, if_pos htimer]
  exact if_neg (by simp [hheld])

/-! ### Bytes and words of the frame, R189 -/

theorem byte_toNat {n : Nat} (h : n < 256) : (byte n).toNat = n := by
  rw [byte, BitVec.toNat_ofNat, Nat.mod_eq_of_lt h]

theorem word_toNat {n : Nat} (h : n < 65536) : (word n).toNat = n := by
  rw [word, BitVec.toNat_ofNat, Nat.mod_eq_of_lt h]

theorem wordOfInt_toInt {i : Int} (hlo : -32768 ≤ i) (hhi : i < 32768) : (wordOfInt i).toInt = i :=
  BitVec.toInt_ofInt_eq_self (by decide) hlo hhi

/-- Table 10-4: bit n of the active trips is that of place n. -/
theorem Places.toByte_getLsbD (x : Places) (p : Place) : x.toByte.getLsbD p.val = x.get p := by
  have hbits : x.toByte = (((((((BitVec.ofBool x.p7).concat x.p6).concat x.p5).concat x.p4).concat x.p3).concat
      x.p2).concat x.p1).concat x.p0 := rfl
  rw [hbits]
  fin_cases p <;> simp [Eight.get]

theorem RunState.code_lt (r : RunState) : r.code < 4 := by cases r <;> decide

theorem Phase.code_lt (p : Phase) : p.code < 5 := by cases p <;> decide

theorem GenState.code_lt (g : GenState) : g.code < 10 := by cases g <;> decide

theorem Reasons.code_lt (r : Reasons) : r.code < 32 := by
  have hdoor := r.door.toNat_lt
  have htrip := r.trip.toNat_lt
  have htank := r.tank.toNat_lt
  have hprobe := r.probe.toNat_lt
  have hpanel := r.panel.toNat_lt
  unfold Reasons.code
  omega

theorem Sdu.active_toNat (d : Sdu) : d.active.toNat = if d.pstate = .idle then 0 else 1 := by
  unfold Sdu.active
  cases d.pstate <;> rfl

theorem Sdu.status_eq (d : Sdu) : d.status =
    if d.rinse = true then 3 else if 8000 ≤ d.scale then 2 else if 6000 ≤ d.scale then 1 else 0 := by
  have hlocked : d.steamLocked = true ↔ 8000 ≤ d.scale := decide_eq_true_iff
  exact if_congr Iff.rfl rfl (if_congr hlocked rfl rfl)

theorem Sdu.status_lt (d : Sdu) : d.status < 4 := by
  rw [Sdu.status_eq]
  split_ifs <;> decide

/-! ### The remaining step seconds, R118 -/

theorem Rsq.remaining_of_timed {r : Rsq} {l : LiveStep} (hrun : r.run = .running ∨ r.run = .paused)
    (hlive : r.live = some l) (hend : l.endKind = .time ∨ l.endKind = .timeOrCore) :
    r.remaining = l.duration - r.stepElapsed / 1000 := by
  rw [Rsq.remaining, RunState.live_iff.mpr hrun, hlive]
  exact if_pos (EndKind.isTimed_iff.mpr hend)

theorem Rsq.remaining_of_untimed {r : Rsq} (h : r.run = .idle ∨ r.run = .finishing ∨
    ∀ l, r.live = some l → l.endKind ≠ .time ∧ l.endKind ≠ .timeOrCore) : r.remaining = 0 := by
  unfold Rsq.remaining
  split
  · next hrun =>
    split
    · next l hlive =>
      refine if_neg fun hend => ?_
      obtain hidle | hfinishing | hkind := h
      · rw [hidle] at hrun
        cases hrun
      · rw [hfinishing] at hrun
        cases hrun
      · obtain ⟨htime, htimeOrCore⟩ := hkind l hlive
        exact (EndKind.isTimed_iff.mp hend).elim htime htimeOrCore
    · rfl
  · rfl

/-! ### The frame -/

/-- Settles O59: the slot filled at each expiry, and the frame byte by byte. -/
theorem statusFramesFollowTimers : Obligations.StatusFramesFollowTimers := by
  refine ⟨?timers, fun s => ?change, fun s => ?frame⟩
  case timers =>
    intro s fill hquiet
    have hbus := (State.quiet_iff.mp hquiet).1
    have hfill : s.fillStatus.settle settleFuel = fill s := State.settle_fillStatus hbus 4095
    refine ⟨?_, fun htimer hheld => ?_, fun htimer hheld => ?_⟩ <;> refine congrArg Host.Outcome.next ?_ <;>
      rw [State.event_of_quiet hquiet]
    · exact hfill
    · rw [State.statusInterval_of_held htimer hheld, hfill]
    · rw [State.statusInterval_of_none_held htimer hheld]
      exact State.settle_nil (by exact hbus) _
  case change =>
    refine ⟨fun htimer => if_pos htimer, fun htimer => ?_⟩
    have hfill : handle .cmhRunState s = s.fillStatus := if_neg (by simp [htimer])
    rw [hfill]
    exact State.mem_emit_bus.mpr (.inr (List.mem_singleton.mpr rfl))
  case frame =>
    have hword (w : Word) : wordOf (w.extractLsb' 8 8) (w.extractLsb' 0 8) = w := wordOf_bytesOf w
    refine ⟨rfl, ⟨_, rfl, ?states⟩, fun hindex => congrArg some (byte_toNat hindex), congrArg some ?reasons,
      ⟨_, _, rfl, rfl, fun hlo hhi => ?temp⟩, fun hnone => ?noSetpoint, fun hnone => ?noCore,
      fun v hv hlo hhi => ⟨_, _, rfl, rfl, ?setpoint⟩, fun v hv hlo hhi => ⟨_, _, rfl, rfl, ?core⟩,
      ⟨_, _, rfl, rfl, fun l hrun hlive hend hlt => ?timed, fun huntimed => ?untimed⟩,
      fun hqueue => ?queue, congrArg some ?generator, fun p => ⟨_, rfl, ?trips⟩, ⟨_, _, rfl, rfl, fun hlimit => ?limit⟩⟩
    case states =>
      have hrun := s.rsq.run.code_lt
      have hphase := s.rsq.phase.code_lt
      have hheat := s.clc.heatLimited.toNat_lt
      have hconfigured := s.cmh.configured.toNat_lt
      have hactive := s.sdu.active.toNat_lt
      rw [← Sdu.active_toNat]
      exact byte_toNat (by omega)
    case reasons => exact byte_toNat (lt_trans s.rsq.reasons.code_lt (by decide))
    case temp =>
      rw [hword]
      exact wordOfInt_toInt hlo hhi
    case noSetpoint =>
      have hnothing : wordOrNone s.clc.setpoint = 0x8000 := by rw [hnone]; rfl
      exact ⟨congrArg (fun w : Word => some (w.extractLsb' 8 8)) hnothing,
        congrArg (fun w : Word => some (w.extractLsb' 0 8)) hnothing⟩
    case noCore =>
      have hnothing : wordOrNone s.clc.core = 0x8000 := by rw [hnone]; rfl
      exact ⟨congrArg (fun w : Word => some (w.extractLsb' 8 8)) hnothing,
        congrArg (fun w : Word => some (w.extractLsb' 0 8)) hnothing⟩
    case setpoint =>
      rw [hword, hv]
      exact wordOfInt_toInt hlo hhi
    case core =>
      rw [hword, hv]
      exact wordOfInt_toInt hlo hhi
    case timed =>
      rw [hword, Rsq.remaining_of_timed hrun hlive hend]
      exact word_toNat (lt_of_le_of_lt (Nat.sub_le _ _) hlt)
    case untimed =>
      rw [hword, Rsq.remaining_of_untimed huntimed]
      rfl
    case queue =>
      have hstatus := s.sdu.status_lt
      rw [← Sdu.status_eq, Nat.add_comm]
      exact congrArg some (byte_toNat (by omega))
    case generator => exact byte_toNat (lt_trans s.sgc.state.code_lt (by decide))
    case trips => exact (Places.toByte_getLsbD _ p).trans (Eight.get_map _ _ p)
    case limit =>
      rw [hword]
      exact word_toNat hlimit

end Sys2Proof.Machine
end

section
/-! SUPPORT. The memory of the store through a step (R141, R155): which operations of the part leave every word as it is,
and that those which do not keep its canonical form. -/

namespace Sys2Proof.Machine

/-! ### The store controller leaves the memory, but for the end of an operation -/

theorem State.storeDone_mem (r : StoreRequest) (s : State) : (s.storeDone r).stc.mem = s.stc.mem := by
  unfold State.storeDone
  dsimp only
  split
  case h_3 => split <;> rfl
  all_goals rfl

theorem State.storeFailed_mem (r : StoreRequest) (w : Option Nat) (s : State) :
    (s.storeFailed r w).stc.mem = s.stc.mem := by
  unfold State.storeFailed
  dsimp only
  split
  case h_3 => split <;> rfl
  all_goals rfl

theorem State.serve_mem (r : StoreRequest) (s : State) : (s.serve r).stc.mem = s.stc.mem := by
  unfold State.serve
  dsimp only
  split
  case h_2 => split <;> rfl
  case h_3 =>
    split
    · split <;> rfl
    · rfl
  case h_9 => split <;> rfl
  all_goals rfl

theorem State.serveNext_mem (s : State) : s.serveNext.stc.mem = s.stc.mem := by
  unfold State.serveNext
  split
  · rfl
  · exact State.serve_mem _ _

theorem State.stcRequest_mem (r : StoreRequest) (s : State) : (s.stcRequest r).stc.mem = s.stc.mem := by
  unfold State.stcRequest
  split
  · exact State.serve_mem _ _
  · rfl

theorem State.stcScan_mem (s : State) : s.stcScan.stc.mem = s.stc.mem := by
  unfold State.stcScan
  split
  · rfl
  · dsimp only
    split <;> rfl

theorem State.storeAbandon_mem (s : State) : s.storeAbandon.stc.mem = s.stc.mem := by
  unfold State.storeAbandon
  split
  · rfl
  · split <;> rfl

theorem State.takeStoreOpen_mem (p : List Byte) (s : State) : (s.takeStoreOpen p).stc.mem = s.stc.mem := by
  unfold State.takeStoreOpen
  dsimp only
  split
  · rfl
  · split
    · rfl
    · split
      · rfl
      · exact State.stcRequest_mem _ s

theorem State.takeStoreWrite_mem (p : List Byte) (s : State) : (s.takeStoreWrite p).stc.mem = s.stc.mem := by
  unfold State.takeStoreWrite
  dsimp only
  split
  · rfl
  · split
    · rfl
    · exact State.stcRequest_mem _ _

theorem State.takeStoreClose_mem (p : List Byte) (s : State) : (s.takeStoreClose p).stc.mem = s.stc.mem := by
  unfold State.takeStoreClose
  split
  · rfl
  · exact State.stcRequest_mem _ _

theorem State.takeStoreErase_mem (p : List Byte) (s : State) : (s.takeStoreErase p).stc.mem = s.stc.mem := by
  unfold State.takeStoreErase
  dsimp only
  split
  · rfl
  · split
    · rfl
    · exact State.stcRequest_mem _ s

theorem State.takeStoreRead_mem (p : List Byte) (s : State) : (s.takeStoreRead p).stc.mem = s.stc.mem := by
  unfold State.takeStoreRead
  dsimp only
  split
  · rfl
  · exact State.stcRequest_mem _ s

/-! ### Commands, deliveries and follow-up steps leave the memory -/

/-- The doings of another block than the STC. -/
theorem BlockStep.mem {k : Block} {s t : State} (h : BlockStep k s t) (hk : k ≠ .stc) : t.stc.mem = s.stc.mem :=
  congrArg Stc.mem (h.stc hk)

theorem State.takeConfirm_mem (s : State) : s.takeConfirm.stc.mem = s.stc.mem := by
  unfold State.takeConfirm
  split
  · split
    · exact s.sgcConfirm_block.mem (by decide)
    · exact s.sduConfirm_block.mem (by decide)
  · split
    · exact s.sgcConfirm_block.mem (by decide)
    · exact s.rsqConfirm_block.mem (by decide)

theorem State.takeFetchEvents_mem (s : State) : s.takeFetchEvents.stc.mem = s.stc.mem := by
  obtain ⟨q, hblock⟩ := s.takeFetchEvents_block
  exact hblock.mem (by decide)

/-- Table 10-2: no command writes a word as it is taken; the store's begin their operation at most (R142). -/
theorem State.take_mem (code : Byte) (payload : List Byte) (s : State) : (s.take code payload).stc.mem = s.stc.mem := by
  unfold State.take
  split
  · exact (s.takeConfigLoads_block payload).mem (by decide)
  · exact (s.takeConfigTerm_block payload).mem (by decide)
  · exact s.takeConfigDone_block.mem (by decide)
  · exact (s.takeStartManual_block payload).mem (by decide)
  · exact (s.takeRunRecipe_block payload).mem (by decide)
  · exact (s.takeAdjust_block payload).mem (by decide)
  · exact s.takePause_block.mem (by decide)
  · exact s.takeResume_block.mem (by decide)
  · exact s.takeConfirm_mem
  · exact s.takeSkipStep_block.mem (by decide)
  · exact s.takeStop_block.mem (by decide)
  · exact s.takeStoreOpen_mem payload
  · exact s.takeStoreWrite_mem payload
  · exact s.takeStoreClose_mem payload
  · exact s.takeStoreErase_mem payload
  · exact s.takeStoreRead_mem payload
  · exact State.stcRequest_mem _ s
  · exact (s.takeSetHardness_block payload).mem (by decide)
  · exact s.takeDescaleStart_block.mem (by decide)
  · exact s.takeRinseStart_block.mem (by decide)
  · exact s.takeDescaleAbort_block.mem (by decide)
  · exact s.takeReadScale_block.mem (by decide)
  · exact s.takeFetchEvents_mem
  · exact (s.takeClearTrip_block payload).mem (by decide)
  · exact (s.takeReadPeers_block payload).mem (by decide)
  · exact s.takeReadLineCounts_block.mem (by decide)
  · exact s.takeRestart_block.mem (by decide)
  · rfl

theorem State.cmhCommand_mem (c : Command) (s : State) : (s.cmhCommand c).stc.mem = s.stc.mem := by
  unfold State.cmhCommand
  dsimp only
  split
  · unfold State.refuseDecoded
    split <;> rfl
  · rfl
  · split
    · rfl
    · exact State.take_mem _ _ (s.setCmh _)

theorem State.takeDeferred_mem (s : State) : s.takeDeferred.stc.mem = s.stc.mem := by
  unfold State.takeDeferred
  dsimp only
  split
  · exact State.take_mem _ _ (s.setCmh _)
  · rfl

/-- Table 0-2: no delivery writes a word of the memory. -/
theorem handle_mem (sig : Signal) (s : State) : (handle sig s).stc.mem = s.stc.mem := by
  by_cases hstc : sig.block = .stc
  · cases sig with
    | stcRequest r => exact s.stcRequest_mem r
    | _ => cases hstc
  · cases hcommand : sig.isCommand with
    | false => exact (handle_block sig hcommand s).mem hstc
    | true =>
      cases sig with
      | cmhCommand c => exact s.cmhCommand_mem c
      | _ => cases hcommand

theorem State.settle_mem (n : Nat) (s : State) : (s.settle n).stc.mem = s.stc.mem :=
  KeptByDeliveries.settle (P := fun t => t.stc.mem = s.stc.mem) ⟨fun _ sig _ _ h => (handle_mem sig _).trans h⟩ n rfl

/-- A follow-up step leaves the memory, but for a restart. -/
theorem perform_mem {k : FollowUp} (hk : k ≠ .restartTakesEffect) (s : State) : (perform k s).stc.mem = s.stc.mem := by
  cases k
  case restartTakesEffect => exact absurd rfl hk
  case startReadComplete =>
    unfold perform
    dsimp only
    split
    · exact (State.rsqStartRead_block _ (s.setStc _)).mem (by decide)
    · rfl
  case stepReadComplete =>
    unfold perform
    dsimp only
    split
    · exact (State.rsqStepRead_block _ (s.setStc _)).mem (by decide)
    · rfl
  case storeRequestServed => exact s.serveNext_mem
  case deferredConfigCommand => exact s.takeDeferred_mem
  case configuredReached => exact s.configure_block.mem (by decide)
  case answerHandover => exact s.answerHandover_block.mem (by decide)
  case fetchEventsNextFrame => exact s.nextFrame_block.mem (by decide)

/-! ### What a command does to the memory -/

/-- What a command can do: an own effect that leaves the memory, the end of a memory operation, a follow-up step, a
restart, or a reset. -/
inductive Instr.MemDoes (i : Instr) (s : State) : State → Prop where
  | own (f : State → State) (mem : ∀ s, (f s).stc.mem = s.stc.mem) : Instr.MemDoes i s (s.event f)
  | store (kept : List (Nat × Word)) (is_end : i = .storeOperationComplete kept) :
    Instr.MemDoes i s (s.event (State.storeOperationComplete kept))
  | followUp (k : FollowUp) : Instr.MemDoes i s (s.followUp k)
  | restart (levels : Straps) : Instr.MemDoes i s (s.restart levels)
  | reset (station budget : Fin 8) (is_reset : i = .powerOnReset station budget) :
    Instr.MemDoes i s ((s.resetBy .powerOn ⟨station, budget⟩).settle settleFuel)

/-- The own effect of a command of another block than the STC. -/
theorem Instr.MemDoes.other {i : Instr} {s : State} {k : Block} {f : State → State} (hk : k ≠ .stc)
    (block : ∀ s, BlockStep k s (f s)) : Instr.MemDoes i s (s.event f) := .own f fun s => (block s).mem hk

theorem exec_memDoes {i : Instr} {s t : State} (h : exec i s = .next t) : Instr.MemDoes i s t := by
  have panel : ∀ source code payload, Instr.MemDoes i s (s.panel source code payload) := fun _ _ _ =>
    .other (k := .slc) (by decide) fun _ => State.receive_block _ _ _
  cases i <;> cases h
  case powerOnReset => exact .reset _ _ rfl
  case storeOperationComplete => exact .store _ rfl
  case wakeTimerExpiry => exact .own _ State.stcScan_mem
  case storeAbandoned => exact .own _ State.storeAbandon_mem
  case measurementExpiry => exact .other (by decide) (State.clcMeasure_block _ _ _)
  case controlTimerExpiry => exact .other (by decide) State.clcControlExpiry_block
  case runOnTimerExpiry => exact .other (by decide) State.clcRunOnExpiry_block
  case openDriveExpiry => exact .other (by decide) State.clcOpenExpiry_block
  case closeTravelTimeout => exact .other (by decide) State.clcCloseExpiry_block
  case slotExpiry => exact .other (by decide) State.dspSlotExpiry_block
  case listenWindowExpiry => exact .other (by decide) State.lsuListenExpiry_block
  case claimPeriodExpiry => exact .other (by decide) State.lsuPeriodExpiry_block
  case minimumIntervalExpiry => exact .other (by decide) State.lsuIntervalExpiry_block
  case raiseHoldOffExpiry => exact .other (by decide) State.lsuHoldOffExpiry_block
  case claimReceived => exact .other (by decide) (State.receive_block _ _)
  case peerSilent => exact .other (by decide) (State.lsuPeerSilent_block _)
  case peerLost => exact .other (by decide) (State.lsuPeerLost_block _)
  case fillTimeout => exact .other (by decide) State.sgcFillTimeout_block
  case drainTimerExpiry => exact .other (by decide) State.sgcDrainExpiry_block
  case soakComplete => exact .other (by decide) State.sduSoakComplete_block
  case stepTimeEnd => exact .other (by decide) State.rsqStepTimeEnd_block
  case pauseTimerExpiry => exact .other (by decide) State.rsqPauseExpiry_block
  case runTimeCap => exact .other (by decide) State.rsqRunCap_block
  case sampleExpiry => exact .other (by decide) (State.iluSample_block _)
  case persistenceExpiry => exact .other (by decide) (State.iluPersistence_block _)
  case receptionError => exact .other (by decide) (State.slcReceptionError_block _)
  case frameDiscarded => exact .other (by decide) (State.slcFrame_block _ _)
  case ownSourceFrameReceived => exact .other (k := .slc) (by decide) fun _ => State.receive_block _ _ _
  case transmitStart => exact .other (by decide) State.slcStart_block
  case arbitrationLoss => exact .other (by decide) (State.slcLoss_block _)
  case conflictWhileSending => exact .other (by decide) (State.slcMismatch_block _)
  case acknowledgeCell => exact .other (by decide) (State.slcAcknowledge_block _)
  case lineFault => exact .other (by decide) State.slcLineFault_block
  case lineRestored => exact .other (by decide) State.slcLineRestored_block
  case firstIdleGap => exact .other (by decide) State.slcFirstGap_block
  case statusTimerExpiry => exact .other (by decide) State.fillStatus_block
  case statusIntervalExpiry => exact .other (by decide) State.statusInterval_block
  case startReadComplete | stepReadComplete | storeRequestServed | configuredReached | deferredConfigCommand
    | fetchEventsNextFrame | answerHandover => exact .followUp _
  case restartTakesEffect => exact .restart _
  all_goals exact panel _ _ _

/-- Settles O16: from a quiet state no restart is due, and only the end of an operation and a reset write a word. -/
theorem onlyStoreOperationsChangeMemory : Obligations.OnlyStoreOperationsChangeMemory := by
  intro i s t hquiet hstore hreset ht
  cases exec_memDoes ht with
  | own f mem =>
    rw [State.event_of_quiet hquiet, State.settle_mem]
    exact mem s
  | store kept is_end => exact absurd is_end (hstore kept)
  | followUp k => rw [State.followUp_of_quiet hquiet]
  | restart levels => rw [State.restart_of_quiet hquiet]
  | reset station budget is_reset => exact absurd is_reset (hreset station budget)

/-! ### The canonical form, R141 -/

theorem StoreOp.wf_apply (o : StoreOp) {m : List MemCell} (keep : Nat → Word) (h : Mem.wf m = true) :
    Mem.wf (o.apply m keep) = true := by
  unfold StoreOp.apply
  split
  · exact Mem.wf_eraseUpTo 128 h
  · split
    · exact Mem.wf_program h
    · exact h

/-- R141, R155: what a reset cuts short leaves the memory in its canonical form. -/
theorem Stc.wf_cutMem (t : Stc) (use : Nat) (h : Mem.wf t.mem = true) : Mem.wf (t.cutMem use) = true := by
  unfold Stc.cutMem
  split
  · exact h
  · split
    · exact Mem.wf_eraseUpTo 128 h
    · split
      · exact Mem.wf_program h
      · exact h

/-- The end of an operation leaves the memory, or applies the operation in flight to it. -/
theorem State.storeOperationComplete_mem (kept : List (Nat × Word)) (s : State) :
    (s.storeOperationComplete kept).stc.mem = s.stc.mem ∨
      ∃ o, s.stc.op = some o ∧ (s.storeOperationComplete kept).stc.mem = o.apply s.stc.mem (keptBits kept) := by
  unfold State.storeOperationComplete
  split
  · exact .inl rfl
  · next o hop =>
    refine .inr ⟨o, hop, ?_⟩
    dsimp only
    split
    · split
      · rfl
      · exact (State.serveNext_mem _).trans (State.storeDone_mem _ _)
    · split
      · exact (State.serveNext_mem _).trans (State.storeFailed_mem _ _ _)
      · rfl

theorem State.storeOperationComplete_wf (kept : List (Nat × Word)) {s : State} (h : Mem.wf s.stc.mem = true) :
    Mem.wf (s.storeOperationComplete kept).stc.mem = true := by
  obtain hmem | ⟨o, -, hmem⟩ := State.storeOperationComplete_mem kept s
  · rwa [hmem]
  · rw [hmem]
    exact o.wf_apply _ h

theorem State.resetBy_mem (cause : EventCode) (levels : Straps) (s : State) :
    (s.resetBy cause levels).stc.mem = s.stc.cutMem s.freeUse := by
  unfold State.resetBy
  dsimp only
  split
  · exact (State.enterSilenced_block _).mem (by decide)
  · rfl

theorem perform_wf (k : FollowUp) {s : State} (h : Mem.wf s.stc.mem = true) : Mem.wf (perform k s).stc.mem = true := by
  by_cases hk : k = .restartTakesEffect
  · rw [hk, perform, State.resetBy_mem]
    exact s.stc.wf_cutMem _ h
  · rwa [perform_mem hk]

theorem State.followUp_wf (k : FollowUp) {s : State} (h : Mem.wf s.stc.mem = true) :
    Mem.wf (s.followUp k).stc.mem = true := by
  unfold State.followUp
  split
  · rw [State.settle_mem]
    exact perform_wf k h
  · exact h

theorem State.complete_wf (n : Nat) {s : State} (h : Mem.wf s.stc.mem = true) : Mem.wf (s.complete n).stc.mem = true := by
  induction n generalizing s with
  | zero => exact h
  | succ n ih =>
    rw [State.complete]
    split
    · exact h
    · exact ih (State.followUp_wf _ h)

/-- R141: every command keeps the canonical form. -/
theorem exec_wf {i : Instr} {s t : State} (ht : exec i s = .next t) (h : Mem.wf s.stc.mem = true) :
    Mem.wf t.stc.mem = true := by
  have hdone := State.complete_wf completeFuel h
  cases exec_memDoes ht with
  | own f mem => rwa [State.event, State.settle_mem, mem]
  | store kept _ =>
    rw [State.event, State.settle_mem]
    exact State.storeOperationComplete_wf kept hdone
  | followUp k => exact State.followUp_wf k h
  | restart levels =>
    unfold State.restart
    split
    · exact State.followUp_wf _ h
    · exact h
  | reset station budget _ =>
    rw [State.settle_mem, State.resetBy_mem]
    exact s.stc.wf_cutMem _ h

/-- Settles O5: the memory is only ever written word by word, whole or cut short, and each write keeps the form. -/
theorem memoryStaysCanonical : Obligations.MemoryStaysCanonical := by
  intro s t h ht
  rw [step] at ht
  split at ht
  · cases ht
    exact State.complete_wf completeFuel h
  · exact exec_wf ht h

end Sys2Proof.Machine
end

section
/-! SUPPORT. The store at work (R141 to R143, R147 to R154): what the end of an erase and of a word program comes to, how
requests wait, and how the request at the head of the list is served. -/

namespace Sys2Proof.Machine

/-! ### A word after an operation, R141 -/

/-- A program clears the bits that the value has clear, but for those the cells kept set. -/
theorem settleWord_program (old value keep : Word) :
    settleWord old (old &&& value) keep = (old &&& value) ||| (old &&& keep) := by
  refine BitVec.eq_of_getLsbD_eq fun i _ => ?_
  simp only [settleWord, BitVec.getLsbD_xor, BitVec.getLsbD_and, BitVec.getLsbD_or]
  cases old.getLsbD i <;> cases value.getLsbD i <;> simp

/-- An erase sets every bit, but for those the cells kept clear. -/
theorem settleWord_erase (old keep : Word) : settleWord old erasedWord keep = ~~~(~~~old &&& keep) := by
  have herased : erasedWord = BitVec.allOnes 16 := rfl
  refine BitVec.eq_of_getLsbD_eq fun i hi => ?_
  rw [settleWord, herased]
  simp only [BitVec.getLsbD_xor, BitVec.getLsbD_and, BitVec.getLsbD_not, BitVec.getLsbD_allOnes, hi, decide_true]
  cases old.getLsbD i <;> simp

/-- The verify of an erase finds every word of the sector erased. -/
theorem Mem.erased_iff {m : List MemCell} {sector : Nat} :
    Mem.erased m sector = true ↔ ∀ i, i < 128 → Mem.read m (128 * sector + i) = 0xFFFF#16 := by
  simp [Mem.erased, Mem.sector, memAddr, erasedWord]

/-! ### A word program, R141 -/

section
variable {o : StoreOp} {a : Nat} {w : Word} {rest : List MemCell} (herasing : o.erasing = none)
  (hwords : o.words = (a, w) :: rest)
include herasing hwords

theorem StoreOp.apply_word (m : List MemCell) (keep : Nat → Word) :
    o.apply m keep = Mem.program m a w (keep (a % 128)) := by
  rw [StoreOp.apply, herasing, hwords]

theorem StoreOp.verified_word (m : List MemCell) : o.verified m = true ↔ Mem.read m a = w := by
  rw [StoreOp.verified, herasing, hwords]
  exact beq_iff_eq

theorem StoreOp.next_word (hrest : rest ≠ []) :
    o.next = some { o with words := rest, retried := false, left := 1 } := by
  obtain ⟨request, erasing, words, retried, left⟩ := o
  subst herasing hwords
  exact if_neg fun h => hrest (List.isEmpty_iff.mp h)

theorem StoreOp.next_last_word (hrest : rest = []) : o.next = none := by
  rw [StoreOp.next, herasing, hwords, hrest]
  rfl

end

/-! ### A sector erase, R141 -/

section
variable {o : StoreOp} {sector : Nat} (herasing : o.erasing = some sector)
include herasing

theorem StoreOp.apply_erase (m : List MemCell) (keep : Nat → Word) :
    o.apply m keep = Mem.eraseUpTo m sector keep 128 := by
  rw [StoreOp.apply, herasing]

theorem StoreOp.verified_erase (m : List MemCell) :
    o.verified m = true ↔ ∀ i, i < 128 → Mem.read m (128 * sector + i) = 0xFFFF#16 := by
  rw [StoreOp.verified, herasing]
  exact Mem.erased_iff

theorem StoreOp.next_erase (hwords : o.words ≠ []) :
    o.next = some { o with erasing := none, retried := false, left := 1 } := by
  rw [StoreOp.next, herasing]
  exact if_neg fun h => hwords (List.isEmpty_iff.mp h)

theorem StoreOp.next_erase_only (hwords : o.words = []) : o.next = none := by
  rw [StoreOp.next, herasing, hwords]
  rfl

/-- R154: only the erase of sector 0 moves the keep write position. -/
theorem StoreOp.keepPosAfter_erase (pos : Nat) : o.keepPosAfter pos = if sector = 0 then 0 else pos := by
  rw [StoreOp.keepPosAfter, herasing]
  by_cases h : sector = 0 <;> simp [h]

end

/-! ### An operation completed or failed, R147 to R151 and R154 -/

section
variable {s : State} (hbus : s.bus = [])
include hbus

/-- With nothing on its way, a change at the STC alone is settled at once. -/
theorem State.stcSettled_of_bus (t : Stc) (n : Nat) : State.settle n { s with stc := t } = { s with stc := t } :=
  State.settle_nil (s := { s with stc := t }) hbus n

/-- R184: with nothing on its way, the STC's answer is the only delivery. -/
theorem State.stcAnswer_of_bus (t : Stc) (r : Result) (data : List Byte) :
    State.answer r data { s with stc := t } = { s with stc := t, bus := [.cmhAnswer r data] } :=
  State.emit_of_bus (s := { s with stc := t }) hbus [.cmhAnswer r data]

theorem State.storeDone_openSlot (slot recipe : Nat) :
    s.storeDone (.openSlot slot recipe) = { s with
      stc := { s.stc with ctx := some ⟨slot, recipe, none, some inactivity⟩ }, bus := [.cmhAnswer .ok []] } :=
  State.stcAnswer_of_bus hbus _ _ _

theorem State.storeDone_write {c : WriteContext} (hctx : s.stc.ctx = some c) (offset : Nat) (ws : List Word) :
    s.storeDone (.write offset ws) = { s with
      stc := { s.stc with ctx := some { c with
        highest := some (max (c.highest.getD 0) (offset + ws.length - 1)), timer := some inactivity } }
      bus := [.cmhAnswer .ok []] } := by
  rw [State.storeDone, hctx]
  exact State.stcAnswer_of_bus hbus _ _ _

theorem State.storeDone_close {c : WriteContext} (hctx : s.stc.ctx = some c) (n : Nat) :
    s.storeDone (.close n) = { s with
      stc := { s.stc with ctx := none, table := s.stc.table.set (c.slot - 1) .valid }, bus := [.cmhAnswer .ok []] } := by
  rw [State.storeDone, hctx]
  exact State.stcAnswer_of_bus hbus _ _ _

theorem State.storeDone_erase (slot : Nat) :
    s.storeDone (.erase slot) = { s with
      stc := { s.stc with table := s.stc.table.set (slot - 1) .empty }, bus := [.cmhAnswer .ok []] } :=
  State.stcAnswer_of_bus hbus _ _ _

theorem State.storeFailed_openSlot (slot recipe : Nat) (w : Option Nat) :
    s.storeFailed (.openSlot slot recipe) w = { s with bus := [.cmhAnswer .storeFault []] } :=
  State.stcAnswer_of_bus hbus _ _ _

theorem State.storeFailed_erase (slot : Nat) (w : Option Nat) :
    s.storeFailed (.erase slot) w = { s with bus := [.cmhAnswer .storeFault []] } :=
  State.stcAnswer_of_bus hbus _ _ _

theorem State.storeFailed_write (offset : Nat) (ws : List Word) (w : Option Nat) :
    s.storeFailed (.write offset ws) w = { s with
      stc := { s.stc with ctx := none }, bus := [.cmhAnswer .storeFault []] } :=
  State.stcAnswer_of_bus hbus _ _ _

theorem State.storeFailed_close (n : Nat) (w : Option Nat) :
    s.storeFailed (.close n) w = { s with
      stc := { s.stc with ctx := none }, bus := [.cmhAnswer .storeFault []] } :=
  State.stcAnswer_of_bus hbus _ _ _

end

/-! ### The end of an operation, R141 and R142 -/

/-- R142: the next request, where one waits. -/
theorem State.serveNext_eq (s : State) (requests : List StoreRequest) : s.stc.requests = requests →
    s.serveNext = match requests with
      | [] => s
      | r :: more => State.serve r { s with stc := { s.stc with requests := more } } := by
  intro h
  rw [State.serveNext, h]
  cases requests <;> rfl

theorem State.serveNext_of_nil {s : State} (h : s.stc.requests = []) : s.serveNext = s := State.serveNext_eq s [] h

section
variable {kept : List (Nat × Word)} {s : State} {o : StoreOp} {m : List MemCell} (hquiet : s.quiet = true)
  (hop : s.stc.op = some o) (happly : o.apply s.stc.mem (keptBits kept) = m)
include hquiet hop happly

/-- A good verify goes on with what is left of the operation. -/
theorem exec_storeOperationComplete_continues {next : StoreOp} (hgood : o.verified m = true)
    (hnext : o.next = some next) :
    exec (.storeOperationComplete kept) s = .next { s with
      stc := { s.stc with mem := m, op := some next, keepPos := o.keepPosAfter s.stc.keepPos } } := by
  refine congrArg Host.Outcome.next ((State.event_of_quiet hquiet _).trans ?_)
  rw [State.storeOperationComplete, hop]
  dsimp only
  rw [happly, if_pos hgood, hnext, Option.isSome_some, if_pos rfl]
  exact State.stcSettled_of_bus (State.quiet_iff.mp hquiet).1 _ _

/-- A good verify of the last part completes the operation, and the next request is served. -/
theorem exec_storeOperationComplete_done (hgood : o.verified m = true) (hnext : o.next = none) {t : State}
    (hdone : State.storeDone o.request { s with
      stc := { s.stc with mem := m, op := none, keepPos := o.keepPosAfter s.stc.keepPos } } = t) :
    exec (.storeOperationComplete kept) s = .next (t.serveNext.settle settleFuel) := by
  refine congrArg Host.Outcome.next ((State.event_of_quiet hquiet _).trans ?_)
  rw [State.storeOperationComplete, hop]
  dsimp only
  rw [happly, if_pos hgood, hnext, ← hdone]
  rfl

/-- The first failed verify repeats the erase or the word program. -/
theorem exec_storeOperationComplete_retries (hbad : ¬ o.verified m = true) (hretried : o.retried = false) :
    exec (.storeOperationComplete kept) s = .next { s with
      stc := { s.stc with
        mem := m, op := some { o with retried := true, left := if o.erasing.isSome then 25 else 1 } } } := by
  refine congrArg Host.Outcome.next ((State.event_of_quiet hquiet _).trans ?_)
  rw [State.storeOperationComplete, hop]
  dsimp only
  rw [happly, if_neg hbad, hretried, if_neg Bool.false_ne_true]
  exact State.stcSettled_of_bus (State.quiet_iff.mp hquiet).1 _ _

/-- The second failed verify fails the operation, and the next request is served. -/
theorem exec_storeOperationComplete_fails (hbad : ¬ o.verified m = true) (hretried : o.retried = true) {t : State}
    (hfailed : State.storeFailed o.request (if o.erasing.isSome then none else o.words.head?.map (·.1))
      { s with stc := { s.stc with mem := m, op := none } } = t) :
    exec (.storeOperationComplete kept) s = .next (t.serveNext.settle settleFuel) := by
  refine congrArg Host.Outcome.next ((State.event_of_quiet hquiet _).trans ?_)
  rw [State.storeOperationComplete, hop]
  dsimp only
  rw [happly, if_neg hbad, if_pos hretried, ← hfailed]
  rfl

end

/-- Settles O46: the word programmed, and the four ways on from its verify. -/
theorem wordProgramsVerify : Obligations.WordProgramsVerify := by
  intro kept s o a w rest hquiet hmem hop herasing hwords ha
  have happly := StoreOp.apply_word herasing hwords s.stc.mem (keptBits kept)
  have hkeepPos : o.keepPosAfter s.stc.keepPos = s.stc.keepPos := by
    rw [StoreOp.keepPosAfter, herasing]
    rfl
  have hread (b : Nat) := Mem.read_program (v := w) (k := keptBits kept (a % 128)) hmem ha b
  rw [settleWord_program] at hread
  generalize Mem.program s.stc.mem a w (keptBits kept (a % 128)) = m at happly hread
  have hgood := StoreOp.verified_word herasing hwords m
  have hbus : ({ s with stc := { s.stc with mem := m, op := none } } : State).bus = [] := (State.quiet_iff.mp hquiet).1
  have hm : Mem.wf m = true := happly ▸ o.wf_apply _ hmem
  rw [hread, if_pos rfl] at hgood
  refine ⟨m, _, rfl, hm, hread, fun hnew hrest => ?continues, fun hnew hretried => ?retries, ?_⟩
  case continues =>
    rw [exec_storeOperationComplete_continues hquiet hop happly (hgood.mpr hnew)
      (StoreOp.next_word herasing hwords hrest), hkeepPos]
  case retries =>
    rw [exec_storeOperationComplete_retries hquiet hop happly (hgood.not.mpr hnew) hretried, herasing]
    rfl
  intro served
  have hserved {t : State} (ht : t.stc.requests = s.stc.requests) : t.serveNext = served t := State.serveNext_eq _ _ ht
  refine ⟨fun hnew hrest => ?done, fun hnew hretried => ?failed⟩
  case done =>
    have hdone {t : State} (ht : State.storeDone o.request
        { s with stc := { s.stc with mem := m, op := none } } = t) (hrequests : t.stc.requests = s.stc.requests) :
        exec (.storeOperationComplete kept) s = .next ((served t).settle settleFuel) := by
      rw [← hserved hrequests]
      refine exec_storeOperationComplete_done hquiet hop happly (hgood.mpr hnew)
        (StoreOp.next_last_word herasing hwords hrest) ?_
      rwa [hkeepPos]
    refine ⟨fun slot recipe h => hdone ?_ rfl, fun offset ws c h hctx => hdone ?_ rfl,
      fun n c h hctx => hdone ?_ rfl, fun v h => hdone ?_ rfl⟩ <;> rw [h]
    · exact State.storeDone_openSlot hbus slot recipe
    · exact State.storeDone_write hbus hctx offset ws
    · exact State.storeDone_close hbus hctx n
    · rfl
  case failed =>
    have hfailed {t : State} (ht : State.storeFailed o.request (some a)
        { s with stc := { s.stc with mem := m, op := none } } = t) (hrequests : t.stc.requests = s.stc.requests) :
        exec (.storeOperationComplete kept) s = .next ((served t).settle settleFuel) := by
      rw [← hserved hrequests]
      refine exec_storeOperationComplete_fails hquiet hop happly (hgood.not.mpr hnew) hretried ?_
      rwa [herasing, hwords]
    refine ⟨fun slot recipe h => hfailed ?_ rfl, fun h => hfailed ?_ rfl, fun v h => hfailed ?_ rfl⟩
    · rw [h]
      exact State.storeFailed_openSlot hbus slot recipe _
    · obtain ⟨offset, ws, h⟩ | ⟨n, h⟩ := h <;> rw [h]
      · exact State.storeFailed_write hbus offset ws _
      · exact State.storeFailed_close hbus n _
    · rw [h]
      rfl

/-- Settles O47: the sector erased, and the ways on from its verify. -/
theorem sectorErasesVerify : Obligations.SectorErasesVerify := by
  intro kept s o sector hquiet hmem hop herasing hsector hrequests
  have happly := StoreOp.apply_erase herasing s.stc.mem (keptBits kept)
  have hend : memAddr sector 128 ≤ memWords := by
    simp only [memAddr, memWords]
    omega
  have hread (b : Nat) := Mem.read_eraseUpTo (k := keptBits kept) 128 hmem hend b
  generalize Mem.eraseUpTo s.stc.mem sector (keptBits kept) 128 = m at happly hread
  have hm : Mem.wf m = true := happly ▸ o.wf_apply _ hmem
  have hgood := StoreOp.verified_erase herasing m
  have hbus : ({ s with stc := { s.stc with mem := m, op := none } } : State).bus = [] := (State.quiet_iff.mp hquiet).1
  refine ⟨m, hm, fun i hi => ?inside, fun b hb => ?outside, ?_⟩
  case inside => rw [hread, if_pos (by omega), Nat.add_sub_cancel_left, settleWord_erase]
  case outside => rw [hread, if_neg (by omega)]
  intro good
  have hdone {t : State} (hg : good) (hwords : o.words = []) (hpos : sector ≠ 0) (ht : State.storeDone o.request
      { s with stc := { s.stc with mem := m, op := none } } = t) (hrequests : t.stc.requests = []) :
      exec (.storeOperationComplete kept) s = .next (t.settle settleFuel) := by
    rw [← State.serveNext_of_nil hrequests]
    refine exec_storeOperationComplete_done hquiet hop happly (hgood.mpr hg)
      (StoreOp.next_erase_only herasing hwords) ?_
    rwa [StoreOp.keepPosAfter_erase herasing, if_neg hpos]
  have hfailed {t : State} (hbad : ¬ good) (hretried : o.retried = true) (ht : State.storeFailed o.request none
      { s with stc := { s.stc with mem := m, op := none } } = t) (hrequests : t.stc.requests = []) :
      exec (.storeOperationComplete kept) s = .next (t.settle settleFuel) := by
    rw [← State.serveNext_of_nil hrequests]
    refine exec_storeOperationComplete_fails hquiet hop happly (hgood.not.mpr hbad) hretried ?_
    rwa [herasing]
  refine ⟨fun hg hwords => ?continues, fun slot hg hwords h hslot => ?erased, fun hbad hretried => ?retries,
    fun hbad hretried => ⟨fun v h => ?keepWrite, fun h => ?answered⟩⟩
  case continues =>
    rw [exec_storeOperationComplete_continues hquiet hop happly (hgood.mpr hg)
      (StoreOp.next_erase herasing hwords), StoreOp.keepPosAfter_erase herasing]
  case erased =>
    refine hdone hg hwords (by omega) ?_ hrequests
    rw [h]
    exact State.storeDone_erase hbus slot
  case retries =>
    rw [exec_storeOperationComplete_retries hquiet hop happly (hgood.not.mpr hbad) hretried, herasing]
    rfl
  case keepWrite =>
    have hposted : ({ s with
        stc := { s.stc with mem := m, op := none }, evq := s.evq.append .keepWriteFail 25 0 } : State).bus = [] := hbus
    rw [← State.settle_nil hposted settleFuel]
    refine hfailed hbad hretried ?_ hrequests
    rw [h]
    rfl
  case answered =>
    refine hfailed hbad hretried ?_ hrequests
    obtain ⟨slot, recipe, h⟩ | ⟨slot, h⟩ := h <;> rw [h]
    · exact State.storeFailed_openSlot hbus slot recipe none
    · exact State.storeFailed_erase hbus slot none

/-! ### Requests, R142 and R143 -/

/-- A request joins the end of the list, unless it is a keep write and one waits. -/
theorem joinRequests_eq_append {r : StoreRequest} {requests : List StoreRequest}
    (h : (∀ v, r ≠ .keepWrite v) ∨ ∀ v, .keepWrite v ∉ requests) : joinRequests r requests = requests ++ [r] := by
  induction requests with
  | nil => rfl
  | cons q rest ih =>
    unfold joinRequests
    split
    · next old v =>
      obtain hr | hnone := h
      · exact absurd rfl (hr v)
      · exact absurd List.mem_cons_self (hnone old)
    · rw [ih (h.imp_right fun hnone v hv => hnone v (List.mem_cons_of_mem q hv)), List.cons_append]

/-- R143: a keep write takes the place of the first one that waits. -/
theorem joinRequests_keepWrite {v old : KeepValues} {before after : List StoreRequest}
    (h : ∀ x, .keepWrite x ∉ before) :
    joinRequests (.keepWrite v) (before ++ .keepWrite old :: after) = before ++ .keepWrite v :: after := by
  induction before with
  | nil => rfl
  | cons q before ih =>
    rw [List.cons_append, List.cons_append]
    unfold joinRequests
    split
    · next x _ _ => exact absurd List.mem_cons_self (h x)
    · rw [ih fun x hx => h x (List.mem_cons_of_mem _ hx)]

theorem State.stcRequest_of_busy {s : State} (h : s.stc.free = false) (r : StoreRequest) :
    s.stcRequest r = { s with stc := { s.stc with requests := joinRequests r s.stc.requests } } := by
  rw [State.stcRequest]
  exact if_neg (Bool.eq_false_iff.mp h)

/-! ### A request served, R142, R152 and R154 -/

/-- R154: the keep area is sector 0, so a word's place in it is its address. -/
theorem placed_keepArea (offset : Nat) (ws : List Word) :
    placed 0 offset ws = ws.zipIdx.map fun p => (offset + p.2, p.1) := by
  simp only [placed, memAddr, Nat.mul_zero, Nat.zero_add]

/-- R154: a keep write to a free place begins with its first word. -/
theorem State.serve_keepWrite {s : State} (h : s.stc.keepPos ≠ 125) (v : KeepValues) :
    s.serve (.keepWrite v) = { s with stc := { s.stc with
      op := some ⟨.keepWrite v, none, v.words.zipIdx.map fun p => (s.stc.keepPos + p.2, p.1), false, 1⟩ } } := by
  rw [State.serve, ← placed_keepArea]
  exact if_neg h

/-- R154: a keep write to a full area begins with the erase of sector 0, and its words follow from address 0. -/
theorem State.serve_keepWrite_of_full {s : State} (h : s.stc.keepPos = 125) (v : KeepValues) :
    s.serve (.keepWrite v) = { s with stc := { s.stc with
      op := some ⟨.keepWrite v, some 0, v.words.zipIdx.map fun p => (p.2, p.1), false, 25⟩ } } := by
  have hplaced : placed 0 0 v.words = v.words.zipIdx.map fun p => (p.2, p.1) := by
    simp only [placed_keepArea, Nat.zero_add]
  rw [State.serve, ← hplaced]
  exact if_pos h

/-- R152: a start read takes the whole sector. -/
theorem State.serve_startRead (s : State) (slot : Nat) :
    s.serve (.startRead slot) = { s with stc := { s.stc with
      readDone := some (.start (sectorWords s.stc.mem slot 0 128)) } } := by
  have hwords : sectorWords s.stc.mem slot 0 128 = Mem.sector s.stc.mem slot 128 := by
    simp only [sectorWords, Mem.sector, Nat.zero_add]
  rw [hwords]
  rfl

/-- R142: where the store is free and no read waits to be taken, the head of the list is served. -/
theorem exec_storeRequestServed {s : State} {r : StoreRequest} {more : List StoreRequest} (hscanned : s.stc.scanned = true)
    (hop : s.stc.op = none) (hread : s.stc.readDone = none) (hrequests : s.stc.requests = r :: more) :
    exec .storeRequestServed s =
      .next ((State.serve r { s with stc := { s.stc with requests := more } }).settle settleFuel) := by
  have hdue : due .storeRequestServed s = true := by
    rw [due, Stc.serviceDue, hscanned, hop, hread, hrequests]
    rfl
  have hserved : perform .storeRequestServed s = State.serve r { s with stc := { s.stc with requests := more } } :=
    State.serveNext_eq s _ hrequests
  refine congrArg Host.Outcome.next ?_
  rw [State.followUp, if_pos hdue, hserved]

/-- Settles O48: the list of requests, and the head of the list served. -/
theorem storeRequestsAreServedInOrder : Obligations.StoreRequestsAreServedInOrder := by
  refine ⟨?joins, ?replaces, ?serves⟩
  case joins =>
    intro s r hbusy hkeep
    rw [handle, State.stcRequest_of_busy hbusy, joinRequests_eq_append hkeep]
  case replaces =>
    intro s v old before after hbusy hrequests hbefore
    rw [handle, State.stcRequest_of_busy hbusy, hrequests, joinRequests_keepWrite hbefore]
  case serves =>
    intro s r more hbus hscanned hop hread hrequests
    have hserves {t : Stc} (ht : State.serve r { s with stc := { s.stc with requests := more } } = { s with stc := t }) :
        exec .storeRequestServed s = .next { s with stc := t } := by
      rw [exec_storeRequestServed hscanned hop hread hrequests, ht, State.stcSettled_of_bus hbus]
    refine ⟨fun v h hpos => hserves ?_, fun v h hpos => hserves ?_, fun slot h => hserves ?_,
      fun slot offset length h => hserves ?_⟩ <;> rw [h]
    · refine State.serve_keepWrite ?_ v
      exact hpos
    · refine State.serve_keepWrite_of_full ?_ v
      exact hpos
    · exact State.serve_startRead _ slot
    · rfl

end Sys2Proof.Machine
end

section
/-! SUPPORT. The built-in trips and their terms (R162 to R164, R167): what holds of them at the ILU, and that every step
keeps it. -/

namespace Sys2Proof.Machine

/-! ### The invariant -/

/-- R163, R164: without persistence a trip is active where its term is true, and in LEVEL mode only there. -/
structure TermState.Follows (x : TermState) (latched : Bool) : Prop where
  sets : x.output = some true → x.active = true
  clears : latched = false → x.active = true → x.output = some true

/-- What holds of the built-in trips at all times, part by part. -/
structure Ilu.BuiltInSound (i : Ilu) : Prop where
  door : i.terms.p0.output.isSome = i.inputs.door.settled
  cutout : i.terms.p1.output.isSome = i.inputs.cutout.settled
  sensor : i.terms.p2.output.isSome = true
  dry : i.terms.p3.output.isSome = true
  follows : ∀ p : Place, p.val < 4 → (i.terms.get p).Follows (i.latched p)

theorem TermState.follows_level_iff {x : TermState} :
    x.Follows false ↔ x.active = (x.output == some true) := by
  obtain ⟨latch, output, timer, active⟩ := x
  constructor
  · rintro ⟨hsets, hclears⟩
    cases active <;> simp_all
  · intro h
    exact ⟨fun houtput => by simp_all, fun _ hactive => by simp_all⟩

theorem TermState.follows_latched_iff {x : TermState} :
    x.Follows true ↔ (x.active || x.output != some true) = true := by
  rw [Bool.or_eq_true, bne_iff_ne, or_iff_not_imp_right, not_not]
  exact ⟨fun h => h.sets, fun h => ⟨h, nofun⟩⟩

theorem Ilu.builtInSound_iff {i : Ilu} : i.builtInSound = true ↔ i.BuiltInSound := by
  have hfollows : (∀ p : Place, p.val < 4 → (i.terms.get p).Follows (i.latched p)) ↔
      i.terms.p0.Follows false ∧ i.terms.p1.Follows true ∧ i.terms.p2.Follows true ∧ i.terms.p3.Follows true :=
    Place.forall_builtIn
  simp only [TermState.follows_level_iff, TermState.follows_latched_iff] at hfollows
  simp only [Ilu.builtInSound, Bool.and_eq_true, beq_iff_eq (α := Bool)]
  constructor
  · rintro ⟨⟨⟨⟨⟨⟨⟨hdoor, hcutout⟩, hsensor⟩, hdry⟩, h0⟩, h1⟩, h2⟩, h3⟩
    exact ⟨hdoor, hcutout, hsensor, hdry, hfollows.mpr ⟨h0, h1, h2, h3⟩⟩
  · rintro ⟨hdoor, hcutout, hsensor, hdry, hall⟩
    obtain ⟨h0, h1, h2, h3⟩ := hfollows.mp hall
    exact ⟨⟨⟨⟨⟨⟨⟨hdoor, hcutout⟩, hsensor⟩, hdry⟩, h0⟩, h1⟩, h2⟩, h3⟩

/-- Table 8-6: the mode of a built-in trip is fixed. -/
theorem Ilu.latched_builtIn (i j : Ilu) : ∀ {p : Place}, p.val < 4 → i.latched p = j.latched p :=
  @(Place.forall_builtIn.mpr ⟨rfl, rfl, rfl, rfl⟩)

/-- Table 8-6: a built-in trip has no persistence. -/
theorem Ilu.persistence_builtIn (i : Ilu) : ∀ {p : Place}, p.val < 4 → i.persistence p = 0 :=
  @(Place.forall_builtIn.mpr ⟨rfl, rfl, rfl, rfl⟩)

namespace Ilu.BuiltInSound

variable {i j : Ilu}

/-- The inputs stand, the same terms are evaluated, and the trips follow. -/
theorem congr (h : i.BuiltInSound) (hinputs : j.inputs = i.inputs)
    (hevaluated : ∀ p : Place, (j.terms.get p).output.isSome = (i.terms.get p).output.isSome)
    (hfollows : ∀ p : Place, p.val < 4 → (i.terms.get p).Follows (i.latched p) →
      (j.terms.get p).Follows (i.latched p)) : j.BuiltInSound where
  door := (hevaluated 0).trans (hinputs ▸ h.door)
  cutout := (hevaluated 1).trans (hinputs ▸ h.cutout)
  sensor := (hevaluated 2).trans h.sensor
  dry := (hevaluated 3).trans h.dry
  follows p hp := Ilu.latched_builtIn i j hp ▸ hfollows p hp (h.follows p hp)

/-- What leaves the inputs, the outputs and the trips. -/
theorem of_same (h : i.BuiltInSound) (hinputs : j.inputs = i.inputs)
    (houtput : ∀ p, (j.terms.get p).output = (i.terms.get p).output)
    (hactive : ∀ p, (j.terms.get p).active = (i.terms.get p).active) : j.BuiltInSound :=
  h.congr hinputs (fun p => by rw [houtput]) fun p _ hp =>
    ⟨fun ho => (hactive p).trans (hp.sets (houtput p ▸ ho)), fun hl ha => (houtput p).trans (hp.clears hl (hactive p ▸ ha))⟩

/-- A trip set or cleared, as its term allows. -/
theorem setTerm (h : i.BuiltInSound) {p : Place} {x : TermState} (houtput : x.output = (i.terms.get p).output)
    (hx : p.val < 4 → (i.terms.get p).Follows (i.latched p) → x.Follows (i.latched p)) :
    (i.setTerm p x).BuiltInSound := by
  refine h.congr rfl (fun q => ?_) fun q hq hfollows => ?_ <;> by_cases hqp : q = p
  · subst hqp
    rw [Ilu.setTerm_get_self, houtput]
  · rw [Ilu.setTerm_get_of_ne i hqp]
  · subst hqp
    rw [Ilu.setTerm_get_self]
    exact hx hq hfollows
  · rwa [Ilu.setTerm_get_of_ne i hqp]

end Ilu.BuiltInSound

/-! ### Terms recomputed, R160 to R164 -/

section
variable {s t : State} {p : Place} {value latched : Bool} {persistence : Nat} {a : Word}

/-- A term is evaluated after its recomputing just where it was before. -/
theorem State.tripFollows.isSome (h : s.tripFollows t p value persistence latched a) :
    (t.ilu.terms.get p).output.isSome = (s.ilu.terms.get p).output.isSome := by
  obtain ⟨hnone, hsome⟩ := h
  cases hold : (s.ilu.terms.get p).output with
  | none => rw [hnone hold, hold]
  | some was => rw [(hsome was hold).1]; rfl

/-- R163, R164: a trip without persistence goes on following its term. -/
theorem State.tripFollows.follows (h : s.tripFollows t p value 0 latched a)
    (hs : (s.ilu.terms.get p).Follows latched) : (t.ilu.terms.get p).Follows latched := by
  obtain ⟨hnone, hsome⟩ := h
  cases hold : (s.ilu.terms.get p).output with
  | none => rwa [hnone hold]
  | some was =>
    obtain ⟨houtput, hsame, hrise, hfall⟩ := hsome was hold
    refine ⟨fun htrue => ?_, fun hlevel hactive => ?_⟩
    · obtain rfl : value = true := by simpa [houtput] using htrue
      cases was with
      | true => exact (hsame rfl).1.trans (hs.sets hold)
      | false =>
        obtain ⟨hheld, hset, -⟩ := hrise rfl rfl
        cases hactive : (s.ilu.terms.get p).active with
        | true => exact (hheld hactive).1
        | false => exact (hset hactive rfl).1
    · cases value with
      | true => exact houtput
      | false =>
        cases was with
        | false =>
          have htrue := hs.clears hlevel ((hsame rfl).1.symm.trans hactive)
          rw [hold] at htrue
          cases htrue
        | true =>
          obtain ⟨-, -, hclears⟩ := hfall rfl rfl
          rw [(hclears hlevel (hs.sets hold)).1] at hactive
          cases hactive

end

/-- R163, R164: recomputing every term keeps the built-in trips with their terms. -/
theorem State.iluTo_builtInSound {i : Ilu} (h : i.BuiltInSound) (s : State) : (s.iluTo i).ilu.BuiltInSound := by
  have hfollows (p : Place) := State.iluTo_follows (s := s) (i := i) (t := s.setIlu i) (p := p) rfl
  obtain ⟨_, hilu⟩ := State.iluTo_ilu i s
  refine h.congr (by rw [hilu]) (fun p => (hfollows p).isSome) fun p hp hi => ?_
  have hp' := hfollows p
  rw [Ilu.persistence_builtIn i hp] at hp'
  exact hp'.follows hi

/-! ### The sample expiry, R156, R157 and R162 -/

/-- R162: the state that a sample expiry gives the ILU: the terms of DOOR and CUTOUT begin as their inputs settle. -/
def Ilu.sampled (i : Ilu) (pins : Inputs Bool) : Ilu :=
  let new := takeSamples i.inputs pins;
  { i with
    sampleTimer := 5
    inputs := new
    terms := { i.terms with
      p0 := i.terms.p0.begun (!i.inputs.door.settled && new.door.settled)
      p1 := i.terms.p1.begun (!i.inputs.cutout.settled && new.cutout.settled) } }

theorem State.iluSample_eq (pins : Inputs Bool) (s : State) : s.iluSample pins =
    (s.emit (inputSignals s.ilu.inputs (takeSamples s.ilu.inputs pins))).iluTo (s.ilu.sampled pins) := by
  unfold State.iluSample
  simp only [Ilu.beginTerm_eq]
  rfl

/-- R157: an input that has settled stays so. -/
theorem InputState.settled_take {i : InputState} (h : i.settled = true) (len : Nat) (sample : Bool) :
    (i.take len sample).settled = true := by
  rw [InputState.take, h]
  rfl

section
variable {x : TermState} {old new : Bool}

/-- A term that begins as its input settles is evaluated just where its input has settled. -/
theorem TermState.begun_isSome (h : x.output.isSome = old) (hstays : old = true → new = true) :
    (x.begun (!old && new)).output.isSome = new := by
  cases old with
  | true => rw [hstays rfl]; exact h
  | false =>
    cases new with
    | true => rfl
    | false => exact h

/-- A term begins with its output false and its trip inactive, or LATCHED. -/
theorem TermState.begun_follows {latched : Bool} (h : x.output.isSome = old) (hx : x.Follows latched) :
    (x.begun (!old && new)).Follows latched := by
  unfold TermState.begun
  split
  · next hbegins =>
    have hnone : x.output = none := by simp_all
    refine ⟨nofun, fun hlevel hactive => ?_⟩
    have htrue := hx.clears hlevel hactive
    rw [hnone] at htrue
    cases htrue
  · exact hx

end

theorem Ilu.BuiltInSound.sampled {i : Ilu} (h : i.BuiltInSound) (pins : Inputs Bool) :
    (i.sampled pins).BuiltInSound where
  door := TermState.begun_isSome h.door fun hsettled => InputState.settled_take hsettled _ _
  cutout := TermState.begun_isSome h.cutout fun hsettled => InputState.settled_take hsettled _ _
  sensor := h.sensor
  dry := h.dry
  follows := by
    obtain ⟨hdoor, hcutout, hothers⟩ := Place.forall_builtIn.mp h.follows
    exact Place.forall_builtIn.mpr
      ⟨TermState.begun_follows h.door hdoor, TermState.begun_follows h.cutout hcutout, hothers⟩

theorem State.iluSample_builtInSound (pins : Inputs Bool) {s : State} (h : s.ilu.BuiltInSound) :
    (s.iluSample pins).ilu.BuiltInSound := by
  rw [State.iluSample_eq]
  exact State.iluTo_builtInSound (h.sampled pins) _

/-! ### Deliveries and commands -/

/-- R159, R162: a delivery to the ILU gives it new sources, or begins configurable terms. -/
theorem handle_ilu_builtInSound {sig : Signal} (hblock : sig.block = .ilu) {s : State} (h : s.ilu.BuiltInSound) :
    (handle sig s).ilu.BuiltInSound := by
  have hsources {i : Ilu} (hinputs : i.inputs = s.ilu.inputs) (hterms : i.terms = s.ilu.terms) :
      (s.iluTo i).ilu.BuiltInSound :=
    State.iluTo_builtInSound (h.of_same hinputs (fun _ => by rw [hterms]) fun _ => by rw [hterms]) s
  cases sig with
  | iluClimate => rw [handle, State.iluClimate]; exact hsources rfl rfl
  | iluRun => rw [handle, State.iluRun]; exact hsources rfl rfl
  | iluGenerator => rw [handle, State.iluGenerator]; exact hsources rfl rfl
  | iluDescale => rw [handle, State.iluDescale]; exact hsources rfl rfl
  | iluFan => rw [handle, State.iluFan]; exact hsources rfl rfl
  | iluHeat => rw [handle, State.iluHeat]; exact hsources rfl rfl
  | iluConfigured =>
    rw [handle, State.iluConfigured_eq]
    refine State.iluTo_builtInSound ?_ s
    exact ⟨h.door, h.cutout, h.sensor, h.dry, Place.forall_builtIn.mpr (Place.forall_builtIn.mp h.follows)⟩
  | _ => cases hblock

/-- R163: a persistence timer's expiry sets the trip of a term that is true. -/
theorem State.iluPersistence_builtInSound (p : Place) {s : State} (h : s.ilu.BuiltInSound) :
    (s.iluPersistence p).ilu.BuiltInSound := by
  unfold State.iluPersistence
  dsimp only
  split
  · next hdue =>
    simp only [Bool.and_eq_true, beq_iff_eq] at hdue
    obtain ⟨⟨-, houtput⟩, -⟩ := hdue
    exact h.setTerm rfl fun _ _ => ⟨fun _ => rfl, fun _ _ => houtput⟩
  · exact h

/-- R165: CLEAR_TRIP clears a trip whose term is not true; of the built-in trips, a LATCHED one. -/
theorem State.takeClearTrip_builtInSound (payload : List Byte) {s : State} (h : s.ilu.BuiltInSound) :
    (s.takeClearTrip payload).ilu.BuiltInSound := by
  unfold State.takeClearTrip
  dsimp only
  split
  · split
    · exact h
    · split
      · exact h
      · next houtput =>
        exact h.setTerm rfl fun _ _ => ⟨fun htrue => absurd (beq_iff_eq.mpr htrue) houtput, fun _ => nofun⟩
  · exact h

/-- R168: CONFIG_TERM gives the ILU a configurable term. -/
theorem State.takeConfigTerm_builtInSound (payload : List Byte) {s : State} (h : s.ilu.BuiltInSound) :
    (s.takeConfigTerm payload).ilu.BuiltInSound := by
  unfold State.takeConfigTerm
  split
  · exact h
  · rw [State.answer_ilu, State.setIlu_ilu]
    split <;> exact h.of_same rfl (fun _ => rfl) fun _ => rfl

/-- The doings of another block than the ILU. -/
theorem BlockStep.builtInSound {k : Block} {s t : State} (hstep : BlockStep k s t) (hk : k ≠ .ilu)
    (h : s.ilu.BuiltInSound) : t.ilu.BuiltInSound := by
  rwa [hstep.ilu hk]

theorem State.takeConfirm_builtInSound {s : State} (h : s.ilu.BuiltInSound) : s.takeConfirm.ilu.BuiltInSound := by
  unfold State.takeConfirm
  split
  · split
    · exact s.sgcConfirm_block.builtInSound (by decide) h
    · exact s.sduConfirm_block.builtInSound (by decide) h
  · split
    · exact s.sgcConfirm_block.builtInSound (by decide) h
    · exact s.rsqConfirm_block.builtInSound (by decide) h

/-- Table 10-2: CONFIG_TERM and CLEAR_TRIP alone go to the ILU. -/
theorem State.take_builtInSound (code : Byte) (payload : List Byte) {s : State} (h : s.ilu.BuiltInSound) :
    (s.take code payload).ilu.BuiltInSound := by
  have other {k : Block} {t : State} (hstep : BlockStep k s t) (hk : k ≠ .ilu) := hstep.builtInSound hk h
  unfold State.take
  split
  · exact other (s.takeConfigLoads_block payload) (by decide)
  · exact State.takeConfigTerm_builtInSound payload h
  · exact other s.takeConfigDone_block (by decide)
  · exact other (s.takeStartManual_block payload) (by decide)
  · exact other (s.takeRunRecipe_block payload) (by decide)
  · exact other (s.takeAdjust_block payload) (by decide)
  · exact other s.takePause_block (by decide)
  · exact other s.takeResume_block (by decide)
  · exact State.takeConfirm_builtInSound h
  · exact other s.takeSkipStep_block (by decide)
  · exact other s.takeStop_block (by decide)
  · exact other (s.takeStoreOpen_block payload) (by decide)
  · exact other (s.takeStoreWrite_block payload) (by decide)
  · exact other (s.takeStoreClose_block payload) (by decide)
  · exact other (s.takeStoreErase_block payload) (by decide)
  · exact other (s.takeStoreRead_block payload) (by decide)
  · exact other s.takeStoreList_block (by decide)
  · exact other (s.takeSetHardness_block payload) (by decide)
  · exact other s.takeDescaleStart_block (by decide)
  · exact other s.takeRinseStart_block (by decide)
  · exact other s.takeDescaleAbort_block (by decide)
  · exact other s.takeReadScale_block (by decide)
  · obtain ⟨_, hblock⟩ := s.takeFetchEvents_block
    exact hblock.builtInSound (by decide) h
  · exact State.takeClearTrip_builtInSound payload h
  · exact other (s.takeReadPeers_block payload) (by decide)
  · exact other s.takeReadLineCounts_block (by decide)
  · exact other s.takeRestart_block (by decide)
  · exact h

theorem State.cmhCommand_builtInSound (c : Command) {s : State} (h : s.ilu.BuiltInSound) :
    (s.cmhCommand c).ilu.BuiltInSound := by
  unfold State.cmhCommand
  dsimp only
  split
  · unfold State.refuseDecoded
    split <;> exact h
  · exact h
  · split
    · exact h
    · exact State.take_builtInSound _ _ h

theorem State.takeDeferred_builtInSound {s : State} (h : s.ilu.BuiltInSound) : s.takeDeferred.ilu.BuiltInSound := by
  unfold State.takeDeferred
  dsimp only
  split
  · exact State.take_builtInSound _ _ h
  · exact h

/-- Table 0-2: every delivery keeps the built-in trips with their terms. -/
theorem handle_builtInSound (sig : Signal) {s : State} (h : s.ilu.BuiltInSound) : (handle sig s).ilu.BuiltInSound := by
  by_cases hilu : sig.block = .ilu
  · exact handle_ilu_builtInSound hilu h
  · cases hcommand : sig.isCommand with
    | false => exact (handle_block sig hcommand s).builtInSound hilu h
    | true =>
      cases sig with
      | cmhCommand c => exact State.cmhCommand_builtInSound c h
      | _ => cases hcommand

/-! ### Every step -/

/-- Table 8-8: after reset DOOR and CUTOUT have not settled, the terms of SENSOR and DRY are false, and no trip is
active. -/
theorem Ilu.afterReset_builtInSound : Ilu.afterReset.BuiltInSound := Ilu.builtInSound_iff.mp (by decide)

theorem State.resetBy_builtInSound (cause : EventCode) (levels : Straps) (s : State) :
    (s.resetBy cause levels).ilu.BuiltInSound := by
  unfold State.resetBy
  dsimp only
  split
  · exact (State.enterSilenced_block _).builtInSound (by decide) Ilu.afterReset_builtInSound
  · exact Ilu.afterReset_builtInSound

/-- Time moves the persistence timers. -/
theorem Ilu.BuiltInSound.tick {i : Ilu} (h : i.BuiltInSound) : i.tick.BuiltInSound :=
  h.of_same rfl (fun p => (congrArg TermState.output (Eight.get_map TermState.tick i.terms p)).trans rfl) fun p =>
    (congrArg TermState.active (Eight.get_map TermState.tick i.terms p)).trans rfl

theorem perform_builtInSound (k : FollowUp) {s : State} (h : s.ilu.BuiltInSound) :
    (perform k s).ilu.BuiltInSound := by
  cases k
  case restartTakesEffect => exact State.resetBy_builtInSound _ _ s
  case startReadComplete =>
    unfold perform
    dsimp only
    split
    · exact (State.rsqStartRead_block _ (s.setStc _)).builtInSound (by decide) h
    · exact h
  case stepReadComplete =>
    unfold perform
    dsimp only
    split
    · exact (State.rsqStepRead_block _ (s.setStc _)).builtInSound (by decide) h
    · exact h
  case storeRequestServed => exact s.serveNext_block.builtInSound (by decide) h
  case deferredConfigCommand => exact State.takeDeferred_builtInSound h
  case configuredReached => exact s.configure_block.builtInSound (by decide) h
  case answerHandover => exact s.answerHandover_block.builtInSound (by decide) h
  case fetchEventsNextFrame => exact s.nextFrame_block.builtInSound (by decide) h

/-- The built-in trips stay with their terms through everything a step consists of. -/
theorem kept_builtInSound : Kept fun s => s.ilu.BuiltInSound where
  delivered _ sig _ _ h := handle_builtInSound sig h
  pending _ _ h := h
  pins _ _ h := h
  performed k _ h := perform_builtInSound k h
  reset levels s _ := State.resetBy_builtInSound _ levels s
  tick _ h := h.tick
  iluSample pins _ h := State.iluSample_builtInSound pins h
  iluPersistence p _ h := State.iluPersistence_builtInSound p h
  clcMeasure a b c s h := (s.clcMeasure_block a b c).builtInSound (by decide) h
  clcControlExpiry s h := s.clcControlExpiry_block.builtInSound (by decide) h
  clcRunOnExpiry s h := s.clcRunOnExpiry_block.builtInSound (by decide) h
  clcOpenExpiry s h := s.clcOpenExpiry_block.builtInSound (by decide) h
  clcCloseExpiry s h := s.clcCloseExpiry_block.builtInSound (by decide) h
  dspSlotExpiry s h := s.dspSlotExpiry_block.builtInSound (by decide) h
  lsuListenExpiry s h := s.lsuListenExpiry_block.builtInSound (by decide) h
  lsuPeriodExpiry s h := s.lsuPeriodExpiry_block.builtInSound (by decide) h
  lsuIntervalExpiry s h := s.lsuIntervalExpiry_block.builtInSound (by decide) h
  lsuHoldOffExpiry s h := s.lsuHoldOffExpiry_block.builtInSound (by decide) h
  lsuPeerSilent n s h := (State.lsuPeerSilent_block n s).builtInSound (by decide) h
  lsuPeerLost n s h := (State.lsuPeerLost_block n s).builtInSound (by decide) h
  sgcFillTimeout s h := s.sgcFillTimeout_block.builtInSound (by decide) h
  sgcDrainExpiry s h := s.sgcDrainExpiry_block.builtInSound (by decide) h
  sduSoakComplete s h := s.sduSoakComplete_block.builtInSound (by decide) h
  rsqStepTimeEnd s h := s.rsqStepTimeEnd_block.builtInSound (by decide) h
  rsqPauseExpiry s h := s.rsqPauseExpiry_block.builtInSound (by decide) h
  rsqRunCap s h := s.rsqRunCap_block.builtInSound (by decide) h
  stcScan s h := s.stcScan_block.builtInSound (by decide) h
  storeOperationComplete kept s h := (State.storeOperationComplete_block kept s).builtInSound (by decide) h
  storeAbandon s h := s.storeAbandon_block.builtInSound (by decide) h
  receive f others s _ h := (State.receive_block f others s).builtInSound (by decide) h
  slcReceptionError cells s h := (State.slcReceptionError_block cells s).builtInSound (by decide) h
  slcStart s h := s.slcStart_block.builtInSound (by decide) h
  slcLoss bit s h := (State.slcLoss_block bit s).builtInSound (by decide) h
  slcMismatch cell s h := (State.slcMismatch_block cell s).builtInSound (by decide) h
  slcAcknowledge read s h := (State.slcAcknowledge_block read s).builtInSound (by decide) h
  slcLineFault s h := s.slcLineFault_block.builtInSound (by decide) h
  slcLineRestored s h := s.slcLineRestored_block.builtInSound (by decide) h
  slcFirstGap s h := s.slcFirstGap_block.builtInSound (by decide) h
  fillStatus s h := s.fillStatus_block.builtInSound (by decide) h
  statusInterval s h := s.statusInterval_block.builtInSound (by decide) h

/-- Settles O12: a term recomputed takes its trip along, a term begins with its input, and CLEAR_TRIP is refused while the
term is true. -/
theorem builtInTripsFollowTerms : Obligations.BuiltInTripsFollowTerms := fun _ _ hs ht =>
  Ilu.builtInSound_iff.mpr (kept_builtInSound.step (Ilu.builtInSound_iff.mp hs) ht)

end Sys2Proof.Machine
end

section
/-! SUPPORT. A LATCHED trip cleared by cells that come as a reception error: R173 has them read like any others, so they
may be a CLEAR_TRIP frame. -/

namespace Sys2Proof.Machine

/-- The CUTOUT trip is active and its term no longer true, in a CONFIGURED part whose line waits for a frame. -/
def cutoutHeldState : State :=
  { State.reset with
    slc := { State.reset.slc with line := .lineOk, rx := .waiting }
    ilu := { State.reset.ilu with terms := { State.reset.ilu.terms with p1 := ⟨false, some false, none, true⟩ } }
    cmh := { State.reset.cmh with configured := true } }

/-- The cells of a CLEAR_TRIP frame for CUTOUT, from station 1 to the part, with its acknowledge cell. -/
def clearCutoutCells : List Level := (Frame.mk .command 1 0 [0x41, 1]).cells ++ [.recessive]

/-- R165, R173, R174: these cells are read whole and accepted, and the command clears the trip. -/
theorem clearCutoutCells_clear :
    ((cutoutHeldState.event (State.slcReceptionError clearCutoutCells)).ilu.terms.get 1).active = false := by
  decide +kernel

/-- Refutes O18: a RECEPTION_ERROR whose cells make a CLEAR_TRIP frame is a well-formed command other than CLEAR_TRIP and
FRAME_DISCARDED, and clears the CUTOUT trip. -/
theorem not_latchedTripsStayUntilCleared : ¬ Obligations.LatchedTripsStayUntilCleared := by
  intro h
  have hquiet : cutoutHeldState.quiet = true := by decide
  have hcells : (Instr.receptionError clearCutoutCells).wellFormed = true := by decide +kernel
  have hactive : (cutoutHeldState.ilu.terms.get 1).active = true := rfl
  have hstays := h (.receptionError clearCutoutCells) cutoutHeldState _ 1 hquiet (.inl rfl) nofun nofun nofun hcells rfl hactive
  exact Bool.false_ne_true (clearCutoutCells_clear.symm.trans hstays)

end Sys2Proof.Machine
end

section
/-! SUPPORT. The sample expiry (R156 to R158, R160 to R167): what one sample makes of an input, what the inputs that change
deliver, and the terms of DOOR and CUTOUT that begin or follow. -/

namespace Sys2Proof.Machine

/-! ### One sample of one input, R156 and R157 -/

/-- R156, R157: the agreement count, the filtered value and the settled state of an input after a sample. -/
def InputState.Samples (old new : InputState) (len : Nat) (sample : Bool) : Prop :=
  new.last = some sample ∧ (old.last = some sample → new.count = min len (old.count + 1)) ∧
    (old.last ≠ some sample → new.count = 1) ∧
    (new.count = len → new.filtered = sample ∧ new.settled = true) ∧
    (new.count ≠ len → new.filtered = old.filtered ∧ new.settled = old.settled)

theorem InputState.samples_take (i : InputState) (len : Nat) (sample : Bool) :
    i.Samples (i.take len sample) len sample := by
  refine ⟨rfl, fun hagrees => ?_, fun hdiffers => if_neg hdiffers, fun hfull => ?_, fun hshort => ?_⟩
  · exact (if_pos hagrees).trans (satSucc_eq_min _ _)
  · have hagreed : ((i.take len sample).count == len) = true := beq_iff_eq.mpr hfull
    exact ⟨if_pos hagreed, (congrArg (i.settled || ·) hagreed).trans (Bool.or_true _)⟩
  · have hagreed : ((i.take len sample).count == len) = false := beq_eq_false_iff_ne.mpr hshort
    exact ⟨if_neg (Bool.eq_false_iff.mp hagreed), (congrArg (i.settled || ·) hagreed).trans (Bool.or_false _)⟩

/-! ### The deliveries of the inputs, R158 -/

theorem InputState.changed_iff {old new : InputState} :
    old.changed new = true ↔ old.filtered ≠ new.filtered ∨ old.settled ≠ new.settled := by
  rw [InputState.changed, Bool.or_eq_true, bne_iff_ne, bne_iff_ne]

/-- R158, Table 8-3: the blocks that each input goes to. -/
theorem mem_inputSignals {sig : Signal} {old new : Inputs InputState} : sig ∈ inputSignals old new ↔
    (old.tank.changed new.tank = true ∧ (sig = .sgcTank new.tank.filtered new.tank.settled ∨
        sig = .sduTank new.tank.filtered new.tank.settled)) ∨
      (old.levelLow.changed new.levelLow = true ∧ (sig = .dspLow new.levelLow.filtered new.levelLow.settled ∨
        sig = .sgcLow new.levelLow.filtered new.levelLow.settled)) ∨
      (old.levelHigh.changed new.levelHigh = true ∧ sig = .sgcHigh new.levelHigh.filtered new.levelHigh.settled) ∨
      (old.probe.changed new.probe = true ∧ (sig = .clcProbe new.probe.filtered new.probe.settled ∨
        sig = .rsqProbe new.probe.filtered new.probe.settled)) ∨
      (old.ventClosed.changed new.ventClosed = true ∧
        sig = .clcVent new.ventClosed.filtered new.ventClosed.settled) := by
  have hboth {c : Bool} {a b : Signal} : sig ∈ (if c then [a, b] else []) ↔ c = true ∧ (sig = a ∨ sig = b) := by
    cases c <;> simp
  simp only [inputSignals, List.mem_append, mem_sigIf, hboth, or_assoc]

/-! ### The expiry as a whole -/

/-- The ILU changes its own component, posts and delivers. -/
theorem BlockStep.eq_of_ilu {s t : State} (h : BlockStep .ilu s t) :
    t = { s with ilu := t.ilu, evq := t.evq, bus := t.bus } := by
  obtain ⟨hpending, hfree, hpins, hclc, hdsp, hlsu, hslc, hsgc, hsdu, hrsq, hstc, -, hcmh, -⟩ := h
  rw [← hpending, ← hfree, ← hpins, ← hclc (by decide), ← hdsp (by decide), ← hlsu (by decide), ← hslc (by decide),
    ← hsgc (by decide), ← hsdu (by decide), ← hrsq (by decide), ← hstc (by decide), ← hcmh (by decide)]

section
variable (pins : Inputs Bool) (s : State)

/-- R156: a sample changes the inputs, the terms and the sample timer of the ILU. -/
theorem State.iluSample_ilu : ∃ terms, (s.iluSample pins).ilu =
    { s.ilu with sampleTimer := 5, inputs := takeSamples s.ilu.inputs pins, terms := terms } := by
  obtain ⟨terms, hilu⟩ := State.iluTo_ilu (s.ilu.sampled pins)
    (s.emit (inputSignals s.ilu.inputs (takeSamples s.ilu.inputs pins)))
  exact ⟨terms, by rw [State.iluSample_eq, hilu]; rfl⟩

/-- R158: the changed inputs are delivered; the trips that follow are delivered besides. -/
theorem State.mem_iluSample_bus {sig : Signal}
    (h : sig ∈ inputSignals s.ilu.inputs (takeSamples s.ilu.inputs pins)) : sig ∈ (s.iluSample pins).bus := by
  obtain ⟨u, hbefore, hbehind⟩ := State.iluTo_at (s.ilu.sampled pins) 0
    (s.emit (inputSignals s.ilu.inputs (takeSamples s.ilu.inputs pins)))
  have hfirst : State.LeavesTerm 1 u (u.evaluate 0) := .evaluate (by decide) u
  rw [State.iluSample_eq]
  exact hbehind.bus _ (hfirst.bus _ (hbefore.bus _ (State.mem_emit_bus.mpr (.inr h))))

/-- R162: the state in which the terms of DOOR and CUTOUT have begun, where their inputs settle. -/
def State.sampleBegun : State :=
  { s with ilu := { s.ilu with terms := (s.ilu.sampled pins).terms } }

theorem State.iluSample_follows (p : Place) : (s.sampleBegun pins).tripFollows (s.iluSample pins) p
    ((s.ilu.sampled pins).recomputed p).2 (s.ilu.persistence p) (s.ilu.latched p) (s.ilu.actions p) := by
  rw [State.iluSample_eq]
  exact State.iluTo_follows rfl

/-- R160, R161: the configurable terms follow their sources. -/
theorem State.iluSample_termsFollow : s.termsFollow (s.iluSample pins) := by
  have hfollows : (s.sampleBegun pins).termsFollow (s.iluSample pins) := by
    rw [State.iluSample_eq]
    exact State.iluTo_termsFollow (fun _ => rfl) fun _ => rfl
  intro p x hx
  match p, hx with
  | 4, hx => exact hfollows 4 x hx
  | 5, hx => exact hfollows 5 x hx
  | 6, hx => exact hfollows 6 x hx
  | 7, hx => exact hfollows 7 x hx
  | 0, hx | 1, hx | 2, hx | 3, hx => cases hx

variable {s}

/-- R162: the term of DOOR has a value once the door has settled, and CUTOUT's likewise. -/
theorem State.iluSample_output (h : s.ilu.builtInSound = true) :
    ((takeSamples s.ilu.inputs pins).door.settled = true → (s.iluSample pins).ilu.terms.p0.output =
      some (!(takeSamples s.ilu.inputs pins).door.filtered)) ∧
    ((takeSamples s.ilu.inputs pins).cutout.settled = true → (s.iluSample pins).ilu.terms.p1.output =
      some (!(takeSamples s.ilu.inputs pins).cutout.filtered)) := by
  have hsound := (Ilu.builtInSound_iff.mp h).sampled pins
  have hvalue {p : Place} (hevaluated : ((s.sampleBegun pins).ilu.terms.get p).output.isSome = true) :
      ((s.iluSample pins).ilu.terms.get p).output = some ((s.ilu.sampled pins).recomputed p).2 := by
    obtain ⟨was, hwas⟩ := Option.isSome_iff_exists.mp hevaluated
    exact ((State.iluSample_follows pins s p).2 was hwas).1
  exact ⟨fun hsettled => hvalue (p := 0) (hsound.door.trans hsettled),
    fun hsettled => hvalue (p := 1) (hsound.cutout.trans hsettled)⟩

end

/-- Settles O51: each input by its sample, the deliveries by the list of Table 8-3, and the terms by what recomputing
every term does. -/
theorem samplesFilterInputs : Obligations.SamplesFilterInputs := by
  intro pins s hquiet
  obtain ⟨terms, hilu⟩ := State.iluSample_ilu pins s
  have hinputs : (s.iluSample pins).ilu.inputs = takeSamples s.ilu.inputs pins := by rw [hilu]
  refine ⟨s.iluSample pins, congrArg Host.Outcome.next (State.event_of_quiet hquiet _),
    (s.iluSample_block pins).eq_of_ilu, by rw [hilu], ?samples, ?changes, State.iluSample_termsFollow pins s⟩
  case samples =>
    rw [hinputs]
    have htake (i : InputState) (len : Nat) (sample : Bool) := i.samples_take len sample
    exact ⟨htake _ 4 _, htake _ 4 _, htake _ 16 _, htake _ 16 _, htake _ 4 _, htake _ 4 _, htake _ 4 _, htake _ 4 _⟩
  case changes =>
    rw [hinputs]
    intro i j changes
    have hmem {sig : Signal} (h : sig ∈ inputSignals i j) := State.mem_iluSample_bus pins s h
    have hchanged {old new : InputState} (h : changes old new) : old.changed new = true := InputState.changed_iff.mpr h
    simp only [mem_inputSignals] at hmem
    refine ⟨fun h => ⟨hmem (.inl ⟨hchanged h, .inl rfl⟩), hmem (.inl ⟨hchanged h, .inr rfl⟩)⟩,
      fun h => ⟨hmem (.inr (.inl ⟨hchanged h, .inl rfl⟩)), hmem (.inr (.inl ⟨hchanged h, .inr rfl⟩))⟩,
      fun h => hmem (.inr (.inr (.inl ⟨hchanged h, rfl⟩))),
      fun h => ⟨hmem (.inr (.inr (.inr (.inl ⟨hchanged h, .inl rfl⟩)))),
        hmem (.inr (.inr (.inr (.inl ⟨hchanged h, .inr rfl⟩))))⟩,
      fun h => hmem (.inr (.inr (.inr (.inr ⟨hchanged h, rfl⟩)))), ?trips⟩
    case trips =>
      intro begun was
      have hbegun (old new : InputState) (x : TermState) :
          begun old new x = x.begun (!old.settled && new.settled) := by
        simp only [begun, TermState.begun, Bool.and_eq_true, Bool.not_eq_true']
      have hwas : was = s.sampleBegun pins := by
        simp only [was, hbegun]
        rfl
      rw [hwas]
      exact ⟨State.iluSample_output pins, State.iluSample_follows pins s 0, State.iluSample_follows pins s 1⟩

end Sys2Proof.Machine
end

section
/-! SUPPORT. Configuration (R168, R185, R186): the fields of CONFIG_LOADS, what decoding makes of a configuration command
before and after the scan, and CONFIGURED. -/

namespace Sys2Proof.Machine

/-! ### The loads record, R186 -/

/-- R186: the fields of a CONFIG_LOADS payload that is held. -/
def LoadsFieldsSound (p0 p1 p2 p3 p4 p5 flags : Byte) : Prop :=
  (∀ p ∈ [p0, p1, p2, p3, p4, p5], p.toNat ≤ 150) ∧ flags.toNat < 8 ∧ (flags.toNat % 2 = 1 ↔ p5.toNat ≠ 0)

theorem getLsbD_eq_decide (b : Byte) (i : Nat) : b.getLsbD i = decide (b.toNat / 2 ^ i % 2 = 1) := by
  rw [BitVec.getLsbD, Nat.testBit_eq_decide_div_mod_eq]

/-- The flag byte's bits 3 to 7 are clear below 8. -/
theorem extractLsb'_above_eq_zero_iff (flags : Byte) : (flags.extractLsb' 3 5).toNat = 0 ↔ flags.toNat < 8 := by
  have hlt := flags.isLt
  rw [BitVec.extractLsb'_toNat, Nat.shiftRight_eq_div_pow]
  omega

/-- R186: the tests of CONFIG_LOADS. -/
theorem loadsTests_iff (p0 p1 p2 p3 p4 p5 flags : Byte) :
    ([p0, p1, p2, p3, p4, p5].all (fun p => p.toNat ≤ 150) && (flags.extractLsb' 3 5).toNat == 0 &&
      flags.getLsbD 0 == (p5.toNat != 0)) = true ↔ LoadsFieldsSound p0 p1 p2 p3 p4 p5 flags := by
  rw [LoadsFieldsSound, Bool.and_eq_true, Bool.and_eq_true, List.all_eq_true, beq_iff_eq, beq_iff_eq, and_assoc,
    extractLsb'_above_eq_zero_iff, getLsbD_eq_decide, Bool.eq_iff_iff, decide_eq_true_iff, bne_iff_ne, pow_zero,
    Nat.div_one]
  simp only [decide_eq_true_eq]

section
variable {p0 p1 p2 p3 p4 p5 flags : Byte}

/-- R186: the record of a payload that passes them. -/
theorem loadsOf_of_sound (h : LoadsFieldsSound p0 p1 p2 p3 p4 p5 flags) :
    loadsOf [p0, p1, p2, p3, p4, p5, flags] =
      some ⟨⟨p0.toNat, p1.toNat, p2.toNat, p3.toNat, p4.toNat, p5.toNat⟩, flags.toNat % 2 = 1,
        flags.toNat / 2 % 2 = 1, flags.toNat / 4 % 2 = 1⟩ := by
  refine (if_pos ((loadsTests_iff ..).mpr h)).trans ?_
  rw [getLsbD_eq_decide, getLsbD_eq_decide, getLsbD_eq_decide, pow_zero, Nat.div_one]
  rfl

theorem loadsOf_of_unsound (h : ¬ LoadsFieldsSound p0 p1 p2 p3 p4 p5 flags) :
    loadsOf [p0, p1, p2, p3, p4, p5, flags] = none :=
  if_neg ((loadsTests_iff ..).not.mpr h)

end

/-! ### Decoding, R185 -/

section
variable {s : State} {source : Fin 7} {k : Byte} {payload : List Byte}

/-- R185: before CONFIGURED a configuration command passes the tests of decoding. -/
theorem Cmh.decodeRefusal_config {c : Cmh} (hconfig : isConfigCommand k = true)
    (hlength : lengthAllowed k payload.length = true) (hstate : c.configured = false) :
    c.decodeRefusal (some k) payload = none := by
  have hknown : (commandLength k).isNone = false := by
    rw [lengthAllowed] at hlength
    cases hk : commandLength k with
    | none =>
      rw [hk] at hlength
      cases hlength
    | some _ => rfl
  have htaken : takenUnconfigured k = true := by
    simp only [isConfigCommand, List.mem_cons, List.not_mem_nil, or_false, decide_eq_true_eq] at hconfig
    obtain h | h | h := hconfig <;> simp [takenUnconfigured, h]
  rw [Cmh.decodeRefusal, hknown, hlength, hstate, htaken]
  rfl

/-- R185: after the scan a configuration command is taken, before it held. -/
theorem State.decoded_config (hconfig : isConfigCommand k = true) (hlength : lengthAllowed k payload.length = true)
    (hstate : s.cmh.configured = false) : s.decoded (some k) payload =
      if s.stc.scanned then s.take k payload else s.setCmh { s.cmh with deferred := true } := by
  unfold State.decoded
  rw [Cmh.decodeRefusal_config hconfig hlength hstate]
  dsimp only
  rw [hconfig]
  cases s.stc.scanned <;> rfl

variable (h : s.listens source = true) (hstate : s.cmh.configured = false)
include h hstate

/-- R185: a configuration command taken as it comes. -/
theorem State.panel_config (hconfig : isConfigCommand k = true) (hlength : lengthAllowed k payload.length = true)
    (hshort : payload.length ≤ 15) (hscanned : s.stc.scanned = true) : s.panel source (some k) payload =
      ((s.taken source (some k) payload).take k payload).settle (settleFuel - 1) := by
  rw [State.panel_of_listens h (some k) payload nofun hshort,
    State.decoded_config (s := s.taken source (some k) payload) hconfig hlength hstate]
  exact congrArg _ (if_pos hscanned)

/-- R185: a configuration command held for the scan. -/
theorem State.panel_config_deferred (hconfig : isConfigCommand k = true)
    (hlength : lengthAllowed k payload.length = true) (hshort : payload.length ≤ 15) (hscanned : s.stc.scanned = false) :
    s.panel source (some k) payload = { s.taken source (some k) payload with
      cmh := { s.cmh with buffer := some ⟨source, some k, payload⟩, deferred := true } } := by
  have hscanned' : ¬ (s.taken source (some k) payload).stc.scanned = true := Bool.eq_false_iff.mp hscanned
  rw [State.panel_of_listens h (some k) payload nofun hshort,
    State.decoded_config (s := s.taken source (some k) payload) hconfig hlength hstate, if_neg hscanned']
  refine State.settle_nil ?_ _
  exact State.bus_taken h (some k) payload

/-- R184: a configuration command answered as it is taken, in the state `t` that its block makes. -/
theorem State.panel_config_answers (hconfig : isConfigCommand k = true)
    (hlength : lengthAllowed k payload.length = true) (hshort : payload.length ≤ 15) (hscanned : s.stc.scanned = true)
    {t : State} {r : Result} (htake : (s.taken source (some k) payload).take k payload = t.answer r [])
    (hslc : t.slc = (s.taken source (some k) payload).slc) (hbus : t.bus = s.bus)
    (hcmh : t.cmh = { s.cmh with loads := t.cmh.loads, buffer := some ⟨source, some k, payload⟩ }) :
    s.panel source (some k) payload = t.answered ⟨source, k, r, []⟩ := by
  obtain ⟨hdiscards, hslot, hbuffer, hwaiting, houtstanding, hmore⟩ := State.answering_taken h (some k) payload
  have hanswering : Answering t ⟨source, some k, payload⟩ :=
    ⟨by rwa [hslc], by rwa [hslc], by rw [hcmh], by rw [hcmh]; exact hwaiting, by rw [hcmh]; exact houtstanding,
      by rw [hcmh]; exact hmore⟩
  rw [State.panel_config h hstate hconfig hlength hshort hscanned, htake]
  exact State.settle_answered hanswering (hbus.trans (State.listens_iff.mp h).bus) r []

/-! ### CONFIG_LOADS, CONFIG_TERM and CONFIG_DONE, R168 and R186 -/

/-- R186: CONFIG_LOADS of a sound record is held in place of the one before. -/
theorem State.panel_configLoads_held (hscanned : s.stc.scanned = true) (hlength : payload.length = 7) {r : LoadsRecord}
    (hloads : loadsOf payload = some r) : exec (.configLoads source payload) s = .next
      (({ s with cmh := { s.cmh with loads := some r } }.taken source (some 0x01) payload).answered
        ⟨source, 0x01, .ok, []⟩) := by
  have htake : (s.taken source (some 0x01) payload).take 0x01 payload =
      ({ s with cmh := { s.cmh with loads := some r } }.taken source (some 0x01) payload).answer .ok [] := by
    show State.takeConfigLoads payload _ = _
    rw [State.takeConfigLoads, hloads]
    rfl
  exact congrArg Host.Outcome.next (State.panel_config_answers h hstate rfl (by rw [hlength]; rfl) (by omega) hscanned
    htake rfl rfl rfl)

theorem State.panel_configLoads_refused (hscanned : s.stc.scanned = true) (hlength : payload.length = 7)
    (hloads : loadsOf payload = none) : exec (.configLoads source payload) s = .next
      ((s.taken source (some 0x01) payload).answered ⟨source, 0x01, .badField, []⟩) := by
  refine congrArg Host.Outcome.next (State.panel_config_answers h hstate rfl (by rw [hlength]; rfl) (by omega) hscanned
    (t := s.taken source (some 0x01) payload) ?_ rfl rfl rfl)
  show State.takeConfigLoads payload _ = _
  rw [State.takeConfigLoads, hloads]
  rfl

/-- R168: the ILU with a configurable term held at an index. -/
def Ilu.withTerm (i : Ilu) (t : Term) : Fin 4 → Ilu
  | 0 => { i with t0 := some t }
  | 1 => { i with t1 := some t }
  | 2 => { i with t2 := some t }
  | 3 => { i with t3 := some t }

/-- R168: CONFIG_TERM of a sound term is held in place of the one before. -/
theorem State.panel_configTerm_held (hscanned : s.stc.scanned = true) (hlength : payload.length = 8) {index : Fin 4}
    {t : Term} (hterm : termOf payload = some (index, t)) : exec (.configTerm source payload) s = .next
      (({ s with ilu := s.ilu.withTerm t index }.taken source (some 0x02) payload).answered
        ⟨source, 0x02, .ok, []⟩) := by
  have htake : (s.taken source (some 0x02) payload).take 0x02 payload =
      ({ s with ilu := s.ilu.withTerm t index }.taken source (some 0x02) payload).answer .ok [] := by
    show State.takeConfigTerm payload _ = _
    rw [State.takeConfigTerm, hterm]
    rfl
  exact congrArg Host.Outcome.next (State.panel_config_answers h hstate rfl (by rw [hlength]; rfl) (by omega) hscanned
    htake rfl rfl rfl)

theorem State.panel_configTerm_refused (hscanned : s.stc.scanned = true) (hlength : payload.length = 8)
    (hterm : termOf payload = none) : exec (.configTerm source payload) s = .next
      ((s.taken source (some 0x02) payload).answered ⟨source, 0x02, .badField, []⟩) := by
  refine congrArg Host.Outcome.next (State.panel_config_answers h hstate rfl (by rw [hlength]; rfl) (by omega) hscanned
    (t := s.taken source (some 0x02) payload) ?_ rfl rfl rfl)
  show State.takeConfigTerm payload _ = _
  rw [State.takeConfigTerm, hterm]
  rfl

/-- R186: CONFIG_DONE is refused while no loads are held. -/
theorem State.panel_configDone_refused (hscanned : s.stc.scanned = true) (hloads : s.cmh.loads = none) :
    exec (.configDone source []) s = .next
      ((s.taken source (some 0x03) []).answered ⟨source, 0x03, .badField, []⟩) := by
  refine congrArg Host.Outcome.next (State.panel_config_answers h hstate rfl rfl (by decide) hscanned
    (t := s.taken source (some 0x03) []) ?_ rfl rfl rfl)
  exact if_pos (Option.isNone_iff_eq_none.mpr hloads)

/-- R186: CONFIG_DONE waits in the buffer for its two conditions. -/
theorem State.panel_configDone_waits (hscanned : s.stc.scanned = true) (hloads : s.cmh.loads ≠ none) :
    exec (.configDone source []) s = .next { s.taken source (some 0x03) [] with
      cmh := { s.cmh with buffer := some ⟨source, some 0x03, []⟩, doneHeld := true } } := by
  have htake : (s.taken source (some 0x03) []).take 0x03 [] = { s.taken source (some 0x03) [] with
      cmh := { s.cmh with buffer := some ⟨source, some 0x03, []⟩, doneHeld := true } } :=
    if_neg fun hnone => hloads (Option.isNone_iff_eq_none.mp hnone)
  refine congrArg Host.Outcome.next ?_
  rw [State.panel_config h hstate rfl rfl (by decide) hscanned, htake]
  refine State.settle_nil ?_ _
  exact State.bus_taken h (some 0x03) []

end

/-! ### CONFIGURED and the deferred command, R185 and R186 -/

theorem exec_configuredReached {s : State} {r : LoadsRecord} (hbus : s.bus = []) (hheld : s.cmh.doneHeld = true)
    (hloads : s.cmh.loads = some r) (hscanned : s.stc.scanned = true) (hsettled : s.ilu.allSettled = true) :
    exec .configuredReached s = .next (State.settle settleFuel
      { s with
        cmh := { s.cmh with configured := true, doneHeld := false }
        bus := [.dspConfigured r.rated, .clcConfigured r, .sgcConfigured r, .sduConfigured r, .rsqConfigured r,
          .lsuConfigured, .iluConfigured, .cmhAnswer .ok []] }) := by
  have hdue : due .configuredReached s = true := by
    rw [due, State.configuredDue, hheld, hloads, hscanned, hsettled]
    rfl
  refine congrArg Host.Outcome.next ?_
  rw [State.followUp, if_pos hdue, perform, State.configure, hloads]
  dsimp only
  rw [State.emit_of_bus (by exact hbus)]
  rfl

theorem exec_deferredConfigCommand {s : State} {source : Fin 7} {payload : List Byte} {r : LoadsRecord}
    (hbus : s.bus = []) (hdeferred : s.cmh.deferred = true) (hscanned : s.stc.scanned = true)
    (hbuffer : s.cmh.buffer = some ⟨source, some 0x01, payload⟩) (hloads : loadsOf payload = some r) :
    exec .deferredConfigCommand s = .next (State.settle settleFuel
      { s with
        cmh := { s.cmh with deferred := false, loads := some r }
        bus := [.cmhAnswer .ok []] }) := by
  have hdue : due .deferredConfigCommand s = true := by
    rw [due, State.deferredDue, hdeferred, hscanned]
    rfl
  have htake : s.takeDeferred = (s.setCmh { s.cmh with deferred := false }).takeConfigLoads payload := by
    rw [State.takeDeferred, hbuffer]
    rfl
  refine congrArg Host.Outcome.next ?_
  rw [State.followUp, if_pos hdue, perform, htake, State.takeConfigLoads, hloads]
  dsimp only
  rw [State.answer, State.emit_of_bus (by exact hbus)]
  rfl

/-- Settles O57: each command by what decoding and its block make of it, and the two follow-up steps by what they
deliver. -/
theorem configurationIsReached : Obligations.ConfigurationIsReached := by
  refine ⟨?loads, ?term, ?done, fun _ _ => exec_configuredReached, ?held, fun _ _ _ _ => exec_deferredConfigCommand⟩
  case loads =>
    intro source p0 p1 p2 p3 p4 p5 flags s h hstate hscanned payload sound
    exact ⟨fun hsound => State.panel_configLoads_held h hstate hscanned rfl (loadsOf_of_sound hsound),
      fun hunsound => State.panel_configLoads_refused h hstate hscanned rfl (loadsOf_of_unsound hunsound)⟩
  case term =>
    intro source payload s h hstate hscanned hlength
    have hheld (index : Fin 4) (t : Term) (hterm : termOf payload = some (index, t)) :=
      State.panel_configTerm_held h hstate hscanned hlength hterm
    exact ⟨hheld 0, hheld 1, hheld 2, hheld 3, State.panel_configTerm_refused h hstate hscanned hlength⟩
  case done =>
    intro source s h hstate hscanned
    exact ⟨State.panel_configDone_refused h hstate hscanned,
      fun hloads => ⟨_, State.panel_configDone_waits h hstate hscanned hloads, rfl⟩⟩
  case held =>
    intro source payload s h hstate hscanned hlength
    exact congrArg Host.Outcome.next
      (State.panel_config_deferred (k := 0x01) h hstate rfl (by rw [hlength]; rfl) (by omega) hscanned)

end Sys2Proof.Machine
end

section
/-! An invalid station strap at power-on reset (R67, R170, R177). -/

namespace Sys2Proof.Machine

/-- R170: what power-on reset with an invalid station strap comes to. -/
theorem exec_powerOnReset_silenced (budget : Fin 8) (s : State) :
    exec (.powerOnReset 7 budget) s = .next (State.silencedReset .powerOn budget
      (s.stc.cutMem s.freeUse) (if s.stc.op.isSome then s.freeUse + 1 else s.freeUse) s.pending) :=
  congrArg Host.Outcome.next (State.settle_resetBy_silenced .powerOn budget s)

/-- Settles O4: the reset with the strap at 7 leaves `State.silencedReset`, whose fields say the rest. -/
theorem invalidStrapSilencesAtReset : Obligations.InvalidStrapSilencesAtReset := by
  intro budget s
  exact ⟨_, exec_powerOnReset_silenced budget s, rfl, rfl, rfl, rfl, rfl, rfl, rfl, rfl, rfl, rfl, rfl⟩

end Sys2Proof.Machine
end

section
/-! Receptions that end as an error, frames discarded, conflicts, and the ignored line (R171 to R174, R176, R177,
Table 9-3). -/

namespace Sys2Proof.Machine

/-! ### Receptions that end as an error, R173 -/

/-- R173: bytes that end no reception: the length byte, once read, is in range, and the check byte is still to come. -/
def Incomplete (bytes : List Byte) : Prop :=
  ∀ n : Byte, bytes[1]? = some n → n.toNat ≤ 16 ∧ bytes.length < n.toNat + 3

theorem receptionEnd_of_incomplete {bytes : List Byte} (h : Incomplete bytes) : receptionEnd bytes = none := by
  match bytes, h with
  | [], _ => rfl
  | [_], _ => rfl
  | header :: length :: rest, h =>
    obtain ⟨hlength, hshort⟩ := h length rfl
    simp only [List.length_cons] at hshort
    rw [receptionEnd, if_neg (by omega), if_neg (by omega)]

theorem Incomplete.take {bytes : List Byte} (h : Incomplete bytes) (n : Nat) : Incomplete (bytes.take n) := by
  intro length hlength
  rw [List.getElem?_take] at hlength
  obtain ⟨hrange, hshort⟩ := h length (Option.ite_none_right_eq_some.mp hlength).2
  exact ⟨hrange, (List.length_take_le' n bytes).trans_lt hshort⟩

theorem incomplete_singleton (header : Byte) : Incomplete [header] := nofun

/-- R171: a frame without its check byte. -/
theorem incomplete_body {header length : Byte} {payload : List Byte} (hrange : length.toNat ≤ 16)
    (hpayload : payload.length = length.toNat) : Incomplete (header :: length :: payload) := by
  rintro n hn
  obtain rfl : length = n := Option.some.inj hn
  simp only [List.length_cons]
  omega

theorem receptionEnd_lengthAbove {header length : Byte} (h : 16 < length.toNat) :
    receptionEnd [header, length] = some (.error .lengthAbove) := if_pos h

theorem receptionEnd_checkMismatch {header length check : Byte} {payload : List Byte} (hrange : length.toNat ≤ 16)
    (hpayload : payload.length = length.toNat) (hcheck : check ≠ checkByte (header :: length :: payload)) :
    receptionEnd (header :: length :: payload ++ [check]) = some (.error .checkMismatch) := by
  rw [List.cons_append, List.cons_append, receptionEnd, if_neg (by omega), if_pos (by simp [hpayload]),
    List.getLast?_concat, List.dropLast_concat]
  exact if_neg (by simpa using hcheck)

/-- R172, R173: the receiver after a reception that has ended with the cells and bytes given: the line is ignored, but for
an idle gap that its last cells complete. -/
def Slc.ended (l : Slc) (cells : List Level) (bytes : List Byte) : Slc :=
  { l.counts cells with
    rx := if (l.counts cells).idleCount = 12 then .waiting else .ignoring, rxBuffer := bytes, rxCells := [] }

/-- Bytes that end no reception, and a dominant cell after them. With no byte yet, the cell begins the reception. -/
theorem Slc.hear_incomplete_dominant {l : Slc} (hreads : l.reads = true) (hrx : l.rx = .waiting) {bytes : List Byte}
    (h : Incomplete bytes) (rest : List Level) :
    l.hear (cellsOf bytes ++ .dominant :: rest) = Slc.hear (.dominant :: rest)
      { l.counts (cellsOf bytes) with rx := .receiving, rxBuffer := bytes, rxCells := [] } := by
  by_cases hne : bytes = []
  · subst hne
    exact Slc.hear_begin hreads hrx rest
  · exact Slc.hear_bytes_waiting hreads hrx hne (fun n _ => receptionEnd_of_incomplete (h.take (n + 1))) _

/-- R173: a dominant stop cell. -/
theorem Slc.hear_ended_framing {l : Slc} (hreads : l.reads = true) (hrx : l.rx = .waiting) {bytes : List Byte}
    (h : Incomplete bytes) {data : List Level} (hdata : data.length = 8) :
    l.hear (cellsOf bytes ++ (.dominant :: data ++ [.dominant])) =
      (l.ended (cellsOf bytes ++ (.dominant :: data ++ [.dominant])) bytes, some (.error .framing, [])) := by
  have hidle : (l.counts (cellsOf bytes ++ (.dominant :: data ++ [.dominant]))).idleCount ≠ 12 := by
    rw [← List.append_assoc, Slc.counts_append]
    exact nofun
  rw [Slc.ended, if_neg hidle, Slc.counts_append]
  refine (Slc.hear_incomplete_dominant hreads hrx h _).trans ?_
  exact Slc.hear_framing
    (l := { l.counts (cellsOf bytes) with rx := .receiving, rxBuffer := bytes, rxCells := [] }) rfl rfl hdata

/-- R173: the third recessive cell where a start cell is expected. -/
theorem Slc.hear_ended_truncated {l : Slc} (hreads : l.reads = true) (hrx : l.rx = .waiting) {bytes : List Byte}
    (h : Incomplete bytes) (hne : bytes ≠ []) :
    l.hear (cellsOf bytes ++ [.recessive, .recessive, .recessive]) =
      (l.ended (cellsOf bytes ++ [.recessive, .recessive, .recessive]) bytes, some (.error .truncated, [])) := by
  rw [Slc.hear_bytes_waiting hreads hrx hne fun n _ => receptionEnd_of_incomplete (h.take (n + 1)),
    Slc.hear_truncated rfl rfl, Slc.ended, Slc.counts_append]
  refine congrArg (·, _) ?_
  by_cases hidle : ((l.counts (cellsOf bytes)).counts [.recessive, .recessive, .recessive]).idleCount = 12
  · rw [if_pos hidle]
    exact Slc.gap_of_twelve hreads hidle nofun
  · rw [if_neg hidle]
    exact Slc.gap_of_fewer hidle

/-- R173: a byte that ends the reception, after bytes that do not. -/
theorem Slc.hear_ended_byte {l : Slc} (hreads : l.reads = true) (hrx : l.rx = .waiting) {bytes : List Byte}
    (h : Incomplete bytes) (hne : bytes ≠ []) {b : Byte} {e : Ended} (hend : receptionEnd (bytes ++ [b]) = some e) :
    l.hear (cellsOf (bytes ++ [b])) = (l.ended (cellsOf (bytes ++ [b])) (bytes ++ [b]), some (e, [])) := by
  have hcells : cellsOf (bytes ++ [b]) = cellsOf bytes ++ byteCells b := by simp [cellsOf]
  have hidle : ((l.counts (cellsOf bytes)).counts (byteCells b)).idleCount ≠ 12 := by
    have := Slc.counts_byte_idle_le b (l.counts (cellsOf bytes))
    omega
  have hbyte := Slc.hear_byte
    (l := { l.counts (cellsOf bytes) with rx := .receiving, rxBuffer := bytes, rxCells := [] }) rfl rfl b []
  rw [hend, List.append_nil] at hbyte
  rw [Slc.ended, hcells, Slc.counts_append, if_neg hidle,
    Slc.hear_bytes_waiting hreads hrx hne fun n _ => receptionEnd_of_incomplete (h.take (n + 1))]
  exact hbyte

/-- R171, R181: bytes leave no longer run than there was before them. -/
theorem foldl_runCell_bytes_le (bytes : List Byte) (n : Nat) : (cellsOf bytes).foldl runCell n ≤ n := by
  cases bytes with
  | nil => exact le_rfl
  | cons b rest =>
    rw [show cellsOf (b :: rest) = byteCells b ++ cellsOf rest from rfl, List.foldl_append, foldl_runCell_byte,
      foldl_runCell_bytes]
    exact Nat.zero_le n

/-- R181: bytes and at most ten cells after them make no stuck line. -/
theorem Slc.noStuck_bytes_tail (l : Slc) (bytes : List Byte) {tail : List Level} {n : Nat} (hn : n ≤ 1)
    (htail : tail.length ≤ 10) : l.noStuck (cellsOf bytes ++ tail) n := by
  have hrun := foldl_runCell_bytes_le bytes n
  exact (Slc.noStuck_append ..).mpr ⟨Slc.noStuck_bytes l bytes n (by omega), Slc.noStuck_of_length _ _ _ (by omega)⟩

/-- Table 9-4: an ended reception that is no frame is counted once, as truncated or as a check error. -/
theorem State.receptionFault_eq (fault : ReceptionFault) (s : State) : s.receptionFault fault = s.setSlc { s.slc with
    truncated := if fault = .truncated then min 65535 (s.slc.truncated + 1) else s.slc.truncated
    checkErrors := if fault = .truncated then s.slc.checkErrors else min 65535 (s.slc.checkErrors + 1) } := by
  cases fault
  case truncated => rw [State.receptionFault, satSucc_eq_min]; rfl
  all_goals rw [State.receptionFault, State.slcCheckError, satSucc_eq_min]; rfl

/-- R173: the cells of a reception that ends as an error at the last of them. -/
theorem State.exec_receptionError_ended {s : State} (hquiet : s.quiet = true) (hreads : s.slc.reads = true)
    (hflight : s.slc.inFlight = none) (hrx : s.slc.rx = .waiting) {cells : List Level} {l : Slc} {fault : ReceptionFault}
    (hstuck : s.slc.noStuck cells s.slc.dominantRun) (h : s.slc.hear cells = (l, some (.error fault, []))) :
    exec (.receptionError cells) s = .next ((s.setSlc l).receptionFault fault) := by
  have hcome : s.slc.toCome cells = some cells := by simp [Slc.toCome, hflight, hrx]
  obtain ⟨_, hhear⟩ := State.hear_of_slc Frame.ofBytes cells hreads hstuck h s
  have herror : s.slcReceptionError cells = (s.setSlc l).receptionFault fault := by
    rw [State.slcReceptionError, hcome]
    exact hhear
  have hbus : (s.slcReceptionError cells).bus = [] := by
    rw [herror, State.receptionFault_eq]
    exact (State.quiet_iff.mp hquiet).1
  exact congrArg _ ((State.event_of_no_delivery hquiet hbus).trans herror)

/-! ### Frames discarded, R174 and Table 9-3 -/

theorem Frame.ofBytes_payload_length {bytes : List Byte} {f : Frame} (h : Frame.ofBytes bytes = some f) :
    f.payload.length ≤ 16 := by
  unfold Frame.ofBytes at h
  split at h
  · dsimp only at h
    split at h
    · next hsound =>
      simp only [Bool.and_eq_true, decide_eq_true_eq] at hsound
      cases h
      rw [List.length_dropLast]
      omega
    · cases h
  · cases h

theorem claimFields_eq_none_iff {payload : List Byte} : claimFields payload = none ↔ payload.length ≠ 5 := by
  unfold claimFields
  split
  · simp
  · next hfive =>
    refine iff_of_true rfl fun hlength => ?_
    match payload, hlength with
    | [a, b, c, d, e], _ => exact hfive a b c d e rfl

/-- Table 9-3: kind and destination do not agree, or a CLAIM's payload is not of five bytes. -/
def Frame.Malformed (f : Frame) : Prop :=
  (f.kind = .claim ∨ f.kind = .status) ∧ f.dest ≠ 7 ∨ (f.kind = .command ∨ f.kind = .answer) ∧ f.dest = 7 ∨
    f.kind = .claim ∧ f.payload.length ≠ 5

theorem Frame.malformed_iff {f : Frame} :
    f.Malformed ↔ f.addressed = false ∨ f.kind = .claim ∧ claimFields f.payload = none := by
  rw [claimFields_eq_none_iff]
  cases hkind : f.kind <;> simp [Frame.Malformed, Frame.addressed, hkind]

/-- Table 9-3: a malformed frame from another station is a check error, in LINE_OK. -/
theorem Slc.examine_malformed {l : Slc} {f : Frame} (hline : l.line = .lineOk) (hforeign : f.source ≠ l.own)
    (hstation : f.source < 7) (h : f.Malformed) (free : Bool) : l.examine free f = .checkError := by
  rw [Slc.examine, if_neg hforeign, if_neg (by omega), if_neg (by rw [hline]; exact nofun)]
  by_cases haddressed : f.addressed = true
  · obtain ⟨hkind, hfields⟩ := (Frame.malformed_iff.mp h).resolve_left (by rw [haddressed]; exact nofun)
    rw [if_neg (by simp [haddressed]), hkind, hfields]
  · exact if_pos (by simpa using haddressed)

/-- Table 9-3: an ANSWER, a STATUS frame and a COMMAND that the part does not take are discarded, in LINE_OK. -/
theorem Slc.examine_discarded {l : Slc} {f : Frame} (hline : l.line = .lineOk) (hforeign : f.source ≠ l.own)
    (hstation : f.source < 7) (h : ¬ f.Malformed) {free : Bool}
    (hkind : f.kind = .answer ∨ f.kind = .status ∨ f.kind = .command ∧ (f.dest ≠ l.own ∨ free = false)) :
    l.examine free f = .discard := by
  have haddressed : f.addressed = true := by
    simpa using (not_or.mp (Frame.malformed_iff.not.mp h)).1
  rw [Slc.examine, if_neg hforeign, if_neg (by omega), if_neg (by rw [hline]; exact nofun),
    if_neg (by simp [haddressed])]
  obtain hkind | hkind | ⟨hkind, htaken⟩ := hkind <;> rw [hkind]
  exact if_neg (by simpa [imp_iff_not_or] using htaken)

/-- R174: FRAME_DISCARDED on a line that waits, where the frame makes no delivery. -/
theorem State.exec_frameDiscarded_received {s t : State} (hquiet : s.quiet = true) {bytes : List Byte} {f : Frame}
    (hf : Frame.ofBytes bytes = some f) {ack : Level} (ht : s.receive f ack = t) (hbus : t.bus = []) :
    exec (.frameDiscarded bytes ack) s = .next t := by
  have hframe : s.slcFrame bytes ack = t := by rw [State.slcFrame, hf, ← ht]
  exact congrArg _ ((State.event_of_no_delivery hquiet (hframe.symm ▸ hbus)).trans hframe)

/-! ### Conflicts, R176 and R177 -/

/-- R176: the conflict counted, and the conflicts in a row. -/
def Slc.conflicted (l : Slc) : Slc :=
  { l with conflicts := min 65535 (l.conflicts + 1), consecutive := min 3 (l.consecutive + 1) }

/-- R176: a conflict that does not silence the part. -/
theorem State.slcConflict_counted {s : State} (h : s.slc.consecutive < 2 ∨ s.slc.line = .silenced) :
    s.slcConflict = s.setSlc s.slc.conflicted := by
  unfold State.slcConflict
  rw [satSucc_eq_min, satSucc_eq_min]
  refine if_neg ?_
  simp only [Bool.and_eq_true, decide_eq_true_eq, not_and, not_not]
  intro hthird
  exact h.resolve_left (by omega)

/-- R176, R177: the third conflict in a row. -/
theorem State.slcConflict_silences {s : State} (h : 2 ≤ s.slc.consecutive) (hline : s.slc.line = .lineOk) :
    s.slcConflict = { s with
      slc := { s.slc.conflicted with
        line := .silenced, claimSlot := none, answerSlot := none, statusSlot := none, inFlight := none }
      evq := s.evq.append .stationConflict s.slc.own (word s.slc.conflicted.conflicts)
      bus := Signal.inOrder (s.bus ++ [.cmhSlotEmpty, .lsuSilenced]) } := by
  unfold State.slcConflict
  rw [satSucc_eq_min, satSucc_eq_min]
  have hthird : min 3 (s.slc.consecutive + 1) = 3 := by omega
  exact if_pos (by simp [hthird, hline])

/-- Table 9-3: a frame from the own number, on a line that waits, is a conflict. -/
theorem State.receive_ownSource {s : State} (hreads : s.slc.reads = true) (hsound : s.slc.lineSound = true)
    (hflight : s.slc.inFlight = none) (hrx : s.slc.rx = .waiting) {f : Frame} (hown : f.source = s.slc.own)
    (hlength : f.payload.length ≤ 16) (ack : Level) :
    s.receive f ack = (s.setSlc (s.slc.read f ack)).slcConflict := by
  have hrun : s.slc.dominantRun ≤ 7 := (Slc.run_of_lineSound hsound hflight hrx).trans (by decide)
  rw [State.receive_of_waiting hreads hflight hrx hrun hlength, Slc.examine, if_pos hown]

/-- R176: a mismatch after the source cells: the frame is abandoned, which is a conflict. -/
theorem State.slcMismatch_of_mismatch {s : State} {cell : Nat} {f : InFlight} (hbus : s.bus = [])
    (hflight : s.slc.inFlight = some f) (hsource : 6 ≤ cell) (h : f.mismatches cell = true) :
    s.slcMismatch cell = State.slcConflict { s with
      slc := { s.slc.counts (f.until cell ++ [.dominant]) with inFlight := none, rx := .ignoring, rxCells := [] }
      bus := Signal.inOrder (abandonedSignals f.frame) } := by
  rw [State.slcMismatch, hflight]
  refine (if_pos (by simp [h, hsource])).trans (congrArg _ ?_)
  exact State.emit_of_bus (by exact hbus) _

/-- The deliveries of an abandoned frame are no continuations. -/
theorem inOrder_abandoned (f : TxFrame) : Signal.inOrder (abandonedSignals f) = abandonedSignals f := by
  cases f <;> rfl

theorem inOrder_abandoned_silenced (f : TxFrame) :
    Signal.inOrder (abandonedSignals f ++ [.cmhSlotEmpty, .lsuSilenced]) =
      abandonedSignals f ++ [.cmhSlotEmpty, .lsuSilenced] := by
  cases f <;> rfl

/-! ### Cells on an ignored line, R172 and R173 -/

/-- On an ignored line, cells at none of which a count is reached are counted, and nothing else. -/
theorem State.hear_passing (frame : List Byte → Option Frame) (cells : List Level) {s : State} (hrx : s.slc.rx = .ignoring)
    (hpass : ∀ n, (s.slc.counts (cells.take n)).Passes) :
    State.hear frame cells s s = s.setSlc (s.slc.counts cells) := by
  by_cases hne : cells = []
  · subst hne
    rfl
  · rw [State.hear_ignored frame hne hrx fun n _ _ => hpass n]
    refine State.countsReached_of_passes (s := s.setSlc (s.slc.counts cells)) ?_
    have hall := hpass cells.length
    rwa [List.take_length] at hall

/-- Short of a gap and of a stuck line, no count is reached. -/
theorem Slc.passes_of_counts {l : Slc} {cells : List Level}
    (hgap : ∀ n, (cells.take n).foldl idleCell l.idleCount < 12)
    (hstuck : l.line = .lineFault ∨ l.line = .silenced ∨ ∀ n, (cells.take n).foldl runCell l.dominantRun < 17) (n : Nat) :
    (l.counts (cells.take n)).Passes := by
  refine ⟨fun hrun => ?_, (hgap n).ne⟩
  rw [Slc.counts_line]
  obtain hline | hline | hless := hstuck
  · rw [hline]
    exact ⟨nofun, nofun⟩
  · rw [hline]
    exact ⟨nofun, nofun⟩
  · exact absurd hrun (hless n).ne

theorem Slc.toCome_ignored {l : Slc} (hflight : l.inFlight = none) (hrx : l.rx = .ignoring) (cells : List Level) :
    l.toCome cells = some cells := by
  rw [Slc.toCome, hflight, hrx]
  rfl

/-- Settles O53: each way in which a reception ends, what Table 9-3 makes of a frame, the conflict counted or the part
silenced, and the ignored line. -/
theorem lineErrorsAndConflictsAreCounted : Obligations.LineErrorsAndConflictsAreCounted := by
  refine ⟨?errors, ?discarded, ?ownSource, ?ignored, ?mismatch⟩
  case errors =>
    intro fault bytes tail s hquiet hsound hline hflight hrx incomplete ends cells counted hends
    have hreads : s.slc.reads = true := by simpa [Slc.reads] using hline
    have hrun := Slc.run_of_lineSound hsound hflight hrx
    have hexec (htail : tail.length ≤ 10) (hhear : s.slc.hear cells = (s.slc.ended cells bytes, some (.error fault, []))) :=
      (State.exec_receptionError_ended hquiet hreads hflight hrx (Slc.noStuck_bytes_tail _ bytes hrun htail) hhear).trans
        (congrArg _ (State.receptionFault_eq fault _))
    cases fault with
    | framing =>
      obtain ⟨hincomplete, data, hdata, rfl⟩ := hends
      exact hexec (by simp [hdata]) (Slc.hear_ended_framing hreads hrx hincomplete hdata)
    | truncated =>
      obtain ⟨hincomplete, hne, rfl⟩ := hends
      exact hexec (by simp) (Slc.hear_ended_truncated hreads hrx hincomplete hne)
    | lengthAbove =>
      obtain ⟨rfl, header, length, rfl, habove⟩ := hends
      exact hexec (Nat.zero_le _) (Slc.hear_ended_byte (bytes := [header]) hreads hrx (incomplete_singleton header)
        (List.cons_ne_nil _ _) (receptionEnd_lengthAbove habove))
    | checkMismatch =>
      obtain ⟨rfl, header, length, payload, check, rfl, hrange, hpayload, hcheck⟩ := hends
      refine hexec (Nat.zero_le _) ?_
      rw [show cells = _ from List.append_nil _]
      exact Slc.hear_ended_byte hreads hrx (incomplete_body hrange hpayload) (List.cons_ne_nil _ _)
        (receptionEnd_checkMismatch hrange hpayload hcheck)
  case discarded =>
    intro bytes f ack s hquiet hf hsound hline hflight hrx hforeign hstation wrong
    have hbus := (State.quiet_iff.mp hquiet).1
    have hrun : s.slc.dominantRun ≤ 7 := (Slc.run_of_lineSound hsound hflight hrx).trans (by decide)
    have hreceive := State.receive_of_waiting (Slc.reads_of_lineOk hline) hflight hrx hrun
      (Frame.ofBytes_payload_length hf) ack
    refine ⟨fun hwrong => State.exec_frameDiscarded_received hquiet hf (hreceive.trans ?_) hbus,
      fun hwrong hkind => State.exec_frameDiscarded_received hquiet hf (hreceive.trans ?_) hbus⟩
    · rw [Slc.examine_malformed hline hforeign hstation hwrong]
      dsimp only
      rw [State.slcCheckError, satSucc_eq_min]
      rfl
    · rw [Slc.examine_discarded hline hforeign hstation hwrong (by simpa using hkind)]
      rfl
  case ownSource =>
    intro kind dest payload ack s hquiet hsound hlength hline hflight hrx counted
    have hbus := (State.quiet_iff.mp hquiet).1
    have hreads : s.slc.reads = true := by simpa [Slc.reads] using hline
    have hreceive := State.receive_ownSource hreads hsound hflight hrx
      (f := ⟨kind, s.slc.own, dest.val, payload⟩) rfl hlength ack
    refine ⟨fun hcounted => congrArg Host.Outcome.next ?_, fun hthird hok => congrArg Host.Outcome.next ?_⟩
    · rw [State.event_of_quiet hquiet, hreceive, State.slcConflict_counted (by exact hcounted)]
      exact State.settle_nil (by exact hbus) _
    · rw [State.event_of_quiet hquiet, hreceive, State.slcConflict_silences (by exact hthird) (by exact hok)]
      rw [State.setSlc_bus, hbus, State.setSlc_slc, Slc.conflicted, Slc.read_inFlight, hflight]
      rfl
  case ignored =>
    intro s hquiet hflight hrx noGap noStuck
    have hbus := (State.quiet_iff.mp hquiet).1
    have hcome := Slc.toCome_ignored hflight hrx
    refine ⟨fun cells hgap hstuck => congrArg Host.Outcome.next ?_, fun kind dest payload ack => ?_⟩
    · rw [State.event_of_quiet hquiet, State.slcReceptionError, hcome]
      exact (congrArg _ (State.hear_passing _ cells hrx (Slc.passes_of_counts hgap hstuck))).trans
        (State.settle_nil (by exact hbus) _)
    · intro cells hgap hstuck
      refine congrArg Host.Outcome.next ?_
      rw [State.event_of_quiet hquiet, State.receive, hcome]
      exact (congrArg _ (State.hear_passing _ cells hrx (Slc.passes_of_counts hgap hstuck))).trans
        (State.settle_nil (by exact hbus) _)
  case mismatch =>
    intro cell s f hquiet hflight hcell hsource hlevel counted reported
    have hbus := (State.quiet_iff.mp hquiet).1
    have hmismatch := State.slcMismatch_of_mismatch hbus hflight hsource (InFlight.mismatches_iff.mpr ⟨hcell, hlevel⟩)
    have hreported : reported = abandonedSignals f.frame := by
      cases hframe : f.frame <;> simp only [reported, hframe, abandonedSignals]
    refine ⟨fun hcounted => congrArg Host.Outcome.next ?_, fun hthird hok => congrArg Host.Outcome.next ?_⟩
    · rw [State.event_of_quiet hquiet, hmismatch, inOrder_abandoned, ← hreported,
        State.slcConflict_counted (.inl (by exact hcounted))]
      rfl
    · rw [State.event_of_quiet hquiet, hmismatch, inOrder_abandoned,
        State.slcConflict_silences (by exact hthird) (by exact hok)]
      dsimp only
      rw [inOrder_abandoned_silenced, ← hreported]
      rfl

end Sys2Proof.Machine
end

section
/-! The event queue through a step: events are posted to it, FETCH_EVENTS takes entries from it, a reset leaves its
own entry; and all of these keep it within its bounds (R188, R191, R192). -/

namespace Sys2Proof.Machine

/-! ### Within the bounds, R191 -/

theorem Evq.bounded_iff {q : Evq} : q.bounded = true ↔ q.queue.length ≤ 16 ∧ q.lost ≤ 255 := by
  rw [Evq.bounded, Bool.and_eq_true, decide_eq_true_eq, decide_eq_true_eq]

/-- R191: an entry is appended only below 16, and the lost count saturates at 255. -/
theorem Evq.bounded_append {q : Evq} (h : q.bounded = true) (c : EventCode) (n : Nat) (v : Word) :
    (q.append c n v).bounded = true := by
  obtain ⟨hqueue, hlost⟩ := Evq.bounded_iff.mp h
  unfold Evq.append
  split
  · next hroom =>
    refine Evq.bounded_iff.mpr ⟨?_, hlost⟩
    rw [List.length_append]
    exact hroom
  · refine Evq.bounded_iff.mpr ⟨hqueue, ?_⟩
    rw [satSucc_eq_min]
    exact min_le_left _ _

theorem Evq.bounded_appendAll {q : Evq} (h : q.bounded = true) (es : List (EventCode × Nat × Word)) :
    (q.appendAll es).bounded = true := by
  induction es generalizing q with
  | nil => exact h
  | cons e es ih => exact ih (Evq.bounded_append h _ _ _)

theorem Evq.Grown.bounded {q q' : Evq} (hgrown : q.Grown q') (h : q.bounded = true) : q'.bounded = true := by
  obtain ⟨es, rfl⟩ := hgrown
  exact Evq.bounded_appendAll h es

theorem Evq.tick_bounded {q : Evq} (h : q.bounded = true) : q.tick.bounded = true := by
  unfold Evq.tick
  split <;> exact h

/-! ### Entries taken, R192 -/

/-- R192: the event queue after FETCH_EVENTS, without its three oldest entries, with no entry lost. -/
def Evq.fetched (q : Evq) : Evq := { q with queue := q.queue.drop 3, lost := 0 }

theorem Evq.fetched_bounded {q : Evq} (h : q.bounded = true) : q.fetched.bounded = true := by
  obtain ⟨hqueue, -⟩ := Evq.bounded_iff.mp h
  refine Evq.bounded_iff.mpr ⟨?_, Nat.zero_le _⟩
  rw [Evq.fetched, List.length_drop]
  omega

/-- What a block can do to the event queue: it posts events, or entries are taken. -/
inductive Evq.Moves (q : Evq) : Evq → Prop where
  | posted {q' : Evq} (grown : q.Grown q') : Evq.Moves q q'
  | fetched : Evq.Moves q q.fetched

theorem Evq.Moves.bounded {q q' : Evq} (hmoves : q.Moves q') (h : q.bounded = true) : q'.bounded = true := by
  cases hmoves with
  | posted grown => exact grown.bounded h
  | fetched => exact Evq.fetched_bounded h

/-- The doings of a block post events. -/
theorem BlockStep.moves {k : Block} {s t : State} (h : BlockStep k s t) : s.evq.Moves t.evq := .posted h.evq

theorem Evq.Moves.refl (q : Evq) : q.Moves q := .posted (.refl q)

/-! ### What commands, deliveries and follow-up steps do to the event queue -/

theorem State.produce_evq (a : Answer) (more : List Answer) (s : State) : (s.produce a more).evq = s.evq := by
  unfold State.produce
  split <;> rfl

theorem State.takeFetchEvents_moves (s : State) : s.evq.Moves s.takeFetchEvents.evq := by
  unfold State.takeFetchEvents
  split
  · exact .refl _
  · dsimp only
    split
    · exact .fetched
    · rw [State.produce_evq]
      exact .fetched

theorem State.takeConfirm_moves (s : State) : s.evq.Moves s.takeConfirm.evq := by
  unfold State.takeConfirm
  split
  · split
    · exact s.sgcConfirm_block.moves
    · exact s.sduConfirm_block.moves
  · split
    · exact s.sgcConfirm_block.moves
    · exact s.rsqConfirm_block.moves

/-- Table 10-2: a command is the doing of one block, but that FETCH_EVENTS takes entries. -/
theorem State.take_moves (code : Byte) (payload : List Byte) (s : State) : s.evq.Moves (s.take code payload).evq := by
  unfold State.take
  split
  · exact (s.takeConfigLoads_block payload).moves
  · exact (s.takeConfigTerm_block payload).moves
  · exact s.takeConfigDone_block.moves
  · exact (s.takeStartManual_block payload).moves
  · exact (s.takeRunRecipe_block payload).moves
  · exact (s.takeAdjust_block payload).moves
  · exact s.takePause_block.moves
  · exact s.takeResume_block.moves
  · exact s.takeConfirm_moves
  · exact s.takeSkipStep_block.moves
  · exact s.takeStop_block.moves
  · exact (s.takeStoreOpen_block payload).moves
  · exact (s.takeStoreWrite_block payload).moves
  · exact (s.takeStoreClose_block payload).moves
  · exact (s.takeStoreErase_block payload).moves
  · exact (s.takeStoreRead_block payload).moves
  · exact s.takeStoreList_block.moves
  · exact (s.takeSetHardness_block payload).moves
  · exact s.takeDescaleStart_block.moves
  · exact s.takeRinseStart_block.moves
  · exact s.takeDescaleAbort_block.moves
  · exact s.takeReadScale_block.moves
  · exact s.takeFetchEvents_moves
  · exact (s.takeClearTrip_block payload).moves
  · exact (s.takeReadPeers_block payload).moves
  · exact s.takeReadLineCounts_block.moves
  · exact s.takeRestart_block.moves
  · exact .refl _

theorem State.cmhCommand_moves (c : Command) (s : State) : s.evq.Moves (s.cmhCommand c).evq := by
  unfold State.cmhCommand
  dsimp only
  split
  · unfold State.refuseDecoded
    split <;> exact .refl _
  · exact .refl _
  · split
    · exact .refl _
    · exact State.take_moves _ _ (s.setCmh { s.cmh with buffer := some c })

theorem State.takeDeferred_moves (s : State) : s.evq.Moves s.takeDeferred.evq := by
  unfold State.takeDeferred
  dsimp only
  split
  · exact State.take_moves _ _ (s.setCmh { s.cmh with deferred := false })
  · exact .refl _

theorem handle_moves (sig : Signal) (s : State) : s.evq.Moves (handle sig s).evq := by
  cases hcommand : sig.isCommand with
  | false => exact (handle_block sig hcommand s).moves
  | true =>
    cases sig with
    | cmhCommand c => exact s.cmhCommand_moves c
    | _ => cases hcommand

/-- A follow-up step other than a restart. -/
theorem perform_moves {k : FollowUp} (hk : k ≠ .restartTakesEffect) (s : State) : s.evq.Moves (perform k s).evq := by
  cases k
  case restartTakesEffect => exact absurd rfl hk
  case startReadComplete =>
    unfold perform
    dsimp only
    split
    · exact (State.rsqStartRead_block _ (s.setStc { s.stc with readDone := none })).moves
    · exact .refl _
  case stepReadComplete =>
    unfold perform
    dsimp only
    split
    · exact (State.rsqStepRead_block _ (s.setStc { s.stc with readDone := none })).moves
    · exact .refl _
  case storeRequestServed => exact s.serveNext_block.moves
  case deferredConfigCommand => exact s.takeDeferred_moves
  case configuredReached => exact s.configure_block.moves
  case answerHandover => exact s.answerHandover_block.moves
  case fetchEventsNextFrame => exact s.nextFrame_block.moves

/-! ### The bounds through a step -/

/-- R188: a reset leaves one entry, and those of an invalid strap after it. -/
theorem State.resetBy_evq_bounded (cause : EventCode) (levels : Straps) (s : State) :
    (s.resetBy cause levels).evq.bounded = true := by
  have hreset : (Evq.afterReset cause).bounded = true := rfl
  unfold State.resetBy
  dsimp only
  split
  · exact (State.enterSilenced_block _).moves.bounded hreset
  · exact hreset

theorem perform_evq_bounded (k : FollowUp) {s : State} (h : s.evq.bounded = true) :
    (perform k s).evq.bounded = true := by
  by_cases hk : k = .restartTakesEffect
  · subst hk
    exact State.resetBy_evq_bounded _ _ s
  · exact (perform_moves hk s).bounded h

theorem keptByDeliveries_evq_bounded : KeptByDeliveries fun s => s.evq.bounded = true where
  delivered _ sig _ _ h := (handle_moves sig _).bounded h

theorem State.followUp_evq_bounded (k : FollowUp) {s : State} (h : s.evq.bounded = true) :
    (s.followUp k).evq.bounded = true := by
  unfold State.followUp
  split
  · exact keptByDeliveries_evq_bounded.settle _ (perform_evq_bounded k h)
  · exact h

theorem State.complete_evq_bounded (n : Nat) {s : State} (h : s.evq.bounded = true) :
    (s.complete n).evq.bounded = true := by
  induction n generalizing s with
  | zero => exact h
  | succ n ih =>
    rw [State.complete]
    split
    · exact h
    · exact ih (State.followUp_evq_bounded _ h)

theorem exec_evq_bounded {i : Instr} {s t : State} (ht : exec i s = .next t) (h : s.evq.bounded = true) :
    t.evq.bounded = true := by
  cases exec_does ht with
  | own k f block _ =>
    exact keptByDeliveries_evq_bounded.settle _ ((block _).moves.bounded (State.complete_evq_bounded completeFuel h))
  | followUp k => exact State.followUp_evq_bounded k h
  | restart levels =>
    unfold State.restart
    split
    · exact State.followUp_evq_bounded _ h
    · exact h
  | reset levels => exact keptByDeliveries_evq_bounded.settle _ (State.resetBy_evq_bounded _ _ s)

/-- Settles O6: all that a step does to the event queue is to post events, to take entries, to reset it and to
count its time. -/
theorem eventQueueStaysBounded : Obligations.EventQueueStaysBounded := by
  intro s t h ht
  rw [step] at ht
  split at ht
  · cases ht
    exact Evq.tick_bounded (State.complete_evq_bounded completeFuel h)
  · exact exec_evq_bounded ht h

end Sys2Proof.Machine
end

section
/-! FETCH_EVENTS and its frames, and an answer that waited (R184, R192, Table 10-8). -/

namespace Sys2Proof.Machine

/-! ### An answer handed to the SLC -/

theorem Slc.discards_of_lineOk_or_syncing {l : Slc} (h : l.line = .lineOk ∨ l.line = .syncing) :
    l.discards = false := by
  obtain h | h := h <;> rw [Slc.discards, h] <;> rfl

/-- R179: an answer is taken into the empty ANSWER slot. -/
theorem State.slcAnswer_of_empty {s : State} (hdiscards : s.slc.discards = false) (hslot : s.slc.answerSlot = none)
    (a : Answer) : s.slcAnswer a = s.setSlc { s.slc with answerSlot := some a } := by
  rw [State.slcAnswer, hdiscards, hslot]
  rfl

/-- R179, R184: an answer handed over with the ANSWER slot empty ends there, and its outcome is awaited. -/
theorem State.settle_hand {s : State} (hbus : s.bus = []) (hdiscards : s.slc.discards = false)
    (hslot : s.slc.answerSlot = none) (c : Cmh) (a : Answer) (n : Nat) :
    ((s.setCmh c).hand a).settle (n + 1) =
      { s with
        slc := { s.slc with answerSlot := some a }
        cmh := { c with outstanding := some a } } := by
  have hdelivered : ((s.setCmh c).hand a).bus = [.slcAnswer a] := by
    rw [State.hand, State.emit_bus, State.setCmh_bus, State.setCmh_bus, hbus]
    rfl
  rw [State.settle_cons hdelivered, handle, State.slcAnswer_of_empty (by exact hdiscards) (by exact hslot),
    State.settle_nil rfl, ← hbus]
  rfl

/-- R184, R192: the first frame of an answer is handed over at once where nothing else is on its way; the buffer is
freed with the last frame. -/
theorem State.settle_produce {s : State} {c : Command} (h : Answering s c) (hbus : s.bus = []) (a : Answer)
    (more : List Answer) (n : Nat) :
    (s.produce a more).settle (n + 1) =
      { s with
        slc := { s.slc with answerSlot := some a }
        cmh := { s.cmh with
          outstanding := some a, moreFrames := more, buffer := if more.isEmpty then none else s.cmh.buffer } } := by
  obtain ⟨hdiscards, hslot, -, hwaiting, houtstanding, -⟩ := h
  rw [State.produce, hwaiting, houtstanding]
  exact State.settle_hand hbus hdiscards hslot _ a n

/-! ### FETCH_EVENTS, R192 -/

theorem fetchData_of_many {queue : List Event} {e e2 : Event} {rest : List Event} (h : queue = e :: e2 :: rest)
    (lost : Nat) : fetchData lost (queue.take 3) =
      eventData lost 1 (min 3 queue.length) e :: eventData lost 2 (min 3 queue.length) e2 ::
        (rest.take 1).map (eventData lost 3 (min 3 queue.length)) := by
  subst h
  cases rest with
  | nil => rfl
  | cons e3 rest =>
    have hmin : min 3 (e :: e2 :: e3 :: rest).length = 3 := min_eq_left (by simp)
    rw [hmin]
    rfl

/-- FETCH_EVENTS removes the entries and produces their frames. -/
theorem State.takeFetchEvents_produces {s : State} {c : Command} (hbuffer : s.cmh.buffer = some c) {d : List Byte}
    {ds : List (List Byte)} (hdata : fetchData s.evq.lost (s.evq.queue.take 3) = d :: ds) :
    s.takeFetchEvents = (s.setEvq s.evq.fetched).produce (c.reply .ok d) (ds.map (c.reply .ok)) := by
  rw [State.takeFetchEvents, hbuffer]
  dsimp only
  rw [hdata]
  rfl

/-- R192: FETCH_EVENTS in a state that listens: the first frame stands in the ANSWER slot, the others wait. -/
theorem State.exec_fetchEvents {s : State} {source : Fin 7} (h : s.listens source = true) {d : List Byte}
    {ds : List (List Byte)} (hdata : fetchData s.evq.lost (s.evq.queue.take 3) = d :: ds) :
    let fetched := (s.taken source (some 0x40) []).setEvq s.evq.fetched
    let frame : List Byte → Answer := fun d => ⟨source, 0x40, .ok, d⟩
    exec (.fetchEvents source []) s = .next
      { fetched with
        slc := { fetched.slc with answerSlot := some (frame d) }
        cmh := { fetched.cmh with
          outstanding := some (frame d), moreFrames := ds.map frame
          buffer := if ds.isEmpty then none else fetched.cmh.buffer } } := by
  intro fetched frame
  obtain ⟨hdiscards, hslot, hbuffer, hwaiting, houtstanding, hmore⟩ := State.answering_taken h (some 0x40) []
  have htake : (s.taken source (some 0x40) []).take 0x40 [] = fetched.produce (frame d) (ds.map frame) :=
    State.takeFetchEvents_produces hbuffer hdata
  refine congrArg Host.Outcome.next ((State.panel_takes h rfl (Nat.zero_le _) rfl (.inr rfl) htake).trans ?_)
  have hsettle := State.settle_produce (s := fetched)
    ⟨hdiscards, hslot, hbuffer, hwaiting, houtstanding, hmore⟩ (State.bus_taken h (some 0x40) []) (frame d)
    (ds.map frame) (settleFuel - 2)
  rw [List.isEmpty_map] at hsettle
  exact hsettle

/-- R192: a single frame is answered like any other command, and no frame is left. -/
theorem State.exec_fetchEvents_single {s : State} {source : Fin 7} (h : s.listens source = true) {d : List Byte}
    (hdata : fetchData s.evq.lost (s.evq.queue.take 3) = [d]) :
    exec (.fetchEvents source []) s = .next
      (((s.taken source (some 0x40) []).setEvq s.evq.fetched).answered ⟨source, 0x40, .ok, d⟩) := by
  have hmore : s.cmh.moreFrames = [] := (State.listens_iff.mp h).moreFrames
  refine (State.exec_fetchEvents h hdata).trans ?_
  rw [State.answered, State.setEvq_cmh, State.taken, List.map_nil, ← hmore]
  rfl

/-! ### The further frames and a waiting answer -/

/-- R192: a further frame is handed over as the ANSWER slot empties. -/
theorem State.exec_fetchEventsNextFrame {s : State} {a : Answer} {more : List Answer} (hbus : s.bus = [])
    (hframes : s.cmh.moreFrames = a :: more) (houtstanding : s.cmh.outstanding = none)
    (hwaiting : s.cmh.answerWaiting = none) (hslot : s.slc.answerSlot = none) (hdiscards : s.slc.discards = false) :
    exec .fetchEventsNextFrame s = .next
      { s with
        slc := { s.slc with answerSlot := some a }
        cmh := { s.cmh with
          outstanding := some a, moreFrames := more, buffer := if more.isEmpty then none else s.cmh.buffer } } := by
  have hdue : due .fetchEventsNextFrame s = true := by
    rw [due, Cmh.frameDue, hframes, houtstanding, hwaiting]
    rfl
  refine congrArg Host.Outcome.next ?_
  rw [State.followUp, if_pos hdue, perform, State.nextFrame, hframes]
  exact State.settle_hand hbus hdiscards hslot _ a (settleFuel - 1)

/-- R184: an answer that waited is handed over as the one before it is settled. -/
theorem State.exec_answerHandover {s : State} {a : Answer} (hbus : s.bus = [])
    (hwaiting : s.cmh.answerWaiting = some a) (houtstanding : s.cmh.outstanding = none) (hslot : s.slc.answerSlot = none)
    (hdiscards : s.slc.discards = false) : exec .answerHandover s = .next
      { s with
        slc := { s.slc with answerSlot := some a }
        cmh := { s.cmh with
          outstanding := some a, answerWaiting := none
          buffer := if s.cmh.moreFrames.isEmpty then none else s.cmh.buffer } } := by
  have hdue : due .answerHandover s = true := by
    rw [due, Cmh.handoverDue, hwaiting, houtstanding]
    rfl
  refine congrArg Host.Outcome.next ?_
  rw [State.followUp, if_pos hdue, perform, State.answerHandover, hwaiting]
  exact State.settle_hand hbus hdiscards hslot _ a (settleFuel - 1)

/-- Settles O58: the frames of FETCH_EVENTS by the number of entries, each further frame, and an answer that
waited. -/
theorem eventsAreFetchedInFrames : Obligations.EventsAreFetchedInFrames := by
  refine ⟨fun source s h => ⟨?none, ?one, ?many⟩, ?further, ?handover⟩
  case none =>
    intro hqueue
    exact State.exec_fetchEvents_single h (by rw [hqueue]; rfl)
  case one =>
    intro e hqueue
    refine State.exec_fetchEvents_single h ?_
    rw [hqueue]
    rfl
  case many =>
    intro e e2 rest hqueue
    refine (State.exec_fetchEvents h (fetchData_of_many hqueue _)).trans ?_
    rw [List.map_cons, List.map_map]
    rfl
  case further =>
    intro s a more hbus hframes houtstanding hwaiting hslot hline
    have hdiscards := Slc.discards_of_lineOk_or_syncing hline
    rw [State.exec_fetchEventsNextFrame hbus hframes houtstanding hwaiting hslot hdiscards]
    simp only [List.isEmpty_iff]
  case handover =>
    intro s a hbus hwaiting houtstanding hmore hslot hline
    have hdiscards := Slc.discards_of_lineOk_or_syncing hline
    rw [State.exec_answerHandover hbus hwaiting houtstanding hslot hdiscards, hmore]
    rfl

end Sys2Proof.Machine
end

section
/-! A step with a command waiting (log 30). -/

namespace Sys2Proof.Machine

/-- Settles O1: with a command waiting the queue is not empty, so the step executes the front one and lets no time
pass. -/
theorem stepTakesFrontCommand : Obligations.StepTakesFrontCommand := by
  intro c rest s hpending
  rw [step, hpending]

end Sys2Proof.Machine
end
